-- ==== Sys2Proof/Word.lean ====
section
/-! DEFINITION. The word types of the link and of the wrapping counters, and the two fixed-size
containers the part is built from: four of a kind (zones, tanks, checkpoint slots) and the four
quantities of a zone. -/

namespace Sys2Proof

/-- One byte of the serial link (R173). -/
abbrev Byte := BitVec 8

/-- A 32-bit counter that wraps modulo 2^32: travel, admitted, outcomes_sent, uptime. -/
abbrev Word32 := BitVec 32

/-- A zone (tank) number, 0..3 (Numbering, 00_scope). -/
abbrev Zone := Fin 4

/-- Four of a kind, numbered 0..3: the zones, the tanks and the checkpoint slots. -/
structure Four (α : Type) where
  z0 : α
  z1 : α
  z2 : α
  z3 : α
deriving DecidableEq, Repr

/-- The member numbered `i`. -/
def Four.get {α : Type} (v : Four α) (i : Fin 4) : α :=
  match i with
  | 0 => v.z0
  | 1 => v.z1
  | 2 => v.z2
  | 3 => v.z3

/-- `v` with the member numbered `i` replaced. -/
def Four.set {α : Type} (v : Four α) (i : Fin 4) (a : α) : Four α :=
  match i with
  | 0 => { v with z0 := a }
  | 1 => { v with z1 := a }
  | 2 => { v with z2 := a }
  | 3 => { v with z3 := a }

/-- The four members built from their numbers. -/
def Four.ofFn {α : Type} (f : Fin 4 → α) : Four α :=
  { z0 := f 0, z1 := f 1, z2 := f 2, z3 := f 3 }

/-- Four times the same value. -/
def Four.fill {α : Type} (a : α) : Four α :=
  { z0 := a, z1 := a, z2 := a, z3 := a }

/-- The members in number order. -/
def Four.toList {α : Type} (v : Four α) : List α :=
  [v.z0, v.z1, v.z2, v.z3]

/-- The four numbers in ascending order. -/
def Four.indices : List (Fin 4) := [0, 1, 2, 3]

/-- A set of zones, tanks or slots: which of the four numbers are members (R189). -/
abbrev ZoneSet := Four Bool

/-- The empty set. -/
def ZoneSet.none : ZoneSet := Four.fill false

/-- The quantity a channel measures, fixed by the channel's number (chapter 2.1). -/
inductive Quantity where
  | temp
  | level
  | pressure
  | current
deriving DecidableEq, Repr

/-- One thing for each of the four quantities of a zone, in channel order 4z+0 .. 4z+3. -/
structure Quad (α : Type) where
  temp : α
  level : α
  pressure : α
  current : α
deriving DecidableEq, Repr

/-- The member for a quantity. -/
def Quad.get {α : Type} (v : Quad α) : Quantity → α
  | .temp => v.temp
  | .level => v.level
  | .pressure => v.pressure
  | .current => v.current

/-- `v` with the member for a quantity replaced. -/
def Quad.set {α : Type} (v : Quad α) (q : Quantity) (a : α) : Quad α :=
  match q with
  | .temp => { v with temp := a }
  | .level => { v with level := a }
  | .pressure => { v with pressure := a }
  | .current => { v with current := a }

/-- Four times the same value. -/
def Quad.fill {α : Type} (a : α) : Quad α :=
  { temp := a, level := a, pressure := a, current := a }

/-- The members in channel order. -/
def Quad.toList {α : Type} (v : Quad α) : List α :=
  [v.temp, v.level, v.pressure, v.current]

/-- The quantities in channel order. -/
def Quantity.all : List Quantity := [.temp, .level, .pressure, .current]

end Sys2Proof
end

