-- ==== Sys2Proof/Syntax.lean ====
section
/-! DEFINITION. The commands of the part: one constructor for each row of spec/opcode_table.json.

A request row (IDENT .. RESTART, UNKNOWN_KIND) is the Link Controller TAKING the request of the oldest
checked frame (R180); its operands, the TAG and the payload, are the bytes of that frame, which stands
at the head of the inbound buffer. A row that is an event at a pin or in the medium carries as
operands what the pins or the medium present at that moment. -/

namespace Sys2Proof

/-- The level of the BAUD strap when it is sampled (R173). -/
inductive Baud where
  /-- strap low: 115,200 bit/s -/
  | low115200
  /-- strap high: 460,800 bit/s -/
  | high460800
deriving DecidableEq, Repr

/-- The orders a zone sample leaves open, as they fall out at one zone sample.
`detectionsFirst`: how many of the sample's detections reach the Case Manager before it takes the
sample itself for its step conditions, counts and verifications (R102, R134: separate events in either
order); a number past the last detection means all of them. `guardsFirst`: whether the standing guards'
claim changes are applied before the case claims (R29, R49). -/
structure ZoneOrder where
  detectionsFirst : Nat
  guardsFirst : Bool
deriving DecidableEq, Repr

/-- What the input pins present to one round (R27, R36): the converter code of each of the sixteen
channels (0..4095), the raw pan float (true = wet), the raw entry eye (true = blocked), and the orders
the manual leaves open: whether a change of the eye is taken before one of the float, and for each zone
the orders within its sample. -/
structure RoundInput where
  codes : Four (Quad Nat)
  panWet : Bool
  eyeBlocked : Bool
  eyeFirst : Bool
  order : Four ZoneOrder
deriving DecidableEq, Repr

/-- The levels of the two bits that end a character on RX: the parity bit and the stop bit (R173). -/
structure CharacterEnd where
  parity : Bool
  stop : Bool
deriving DecidableEq, Repr

/-- The commands, one constructor per row of the table, in the table's order. -/
inductive Instr where
  /-- POWER_RESET (R171, R199): the supply is in range again; the strap is sampled if the reset ends. -/
  | powerReset (strap : Baud)
  /-- PIN_RESET (R171, R199): RESETn is released after a low of at least 10 µs. -/
  | pinReset (strap : Baud)
  /-- PERFORM_RESTART (R172) -/
  | performRestart (strap : Baud)
  /-- STARTING_END (R170): the restore scan ends. -/
  | startingEnd
  /-- LINK_RESET (R174, R186): a break is recognised on RX. -/
  | linkReset
  /-- RX_BYTE (R173, R176): a received character: after its start bit the eight data bits, the first to arrive
  the least significant, and the two bits that end it. -/
  | rxByte (data : Byte) (ending : CharacterEnd)
  /-- FRAME_GAP_TIMEOUT (R178) -/
  | frameGapTimeout
  /-- UNKNOWN_KIND (R180) -/
  | unknownKind
  | ident
  | status
  | mode
  | zoneLoad
  | chanLoad
  | limitsLoad
  | zoneOn
  | zoneOff
  | zoneRead
  | linesRead
  | racksRead
  | caseRead
  | caseClear
  | caseRetry
  | haltClear
  | trace
  | restart
  /-- REQUEST_INPUT_CHANGE (R45): the request input of a line, numbered 0..21, takes a level. -/
  | requestInputChange (line : Nat) (on : Bool)
  /-- HOLD_CHANGE (R181): true = the host is holding. -/
  | holdChange (active : Bool)
  | transmitStart
  | replySent
  | eventNoticeSent
  | outcomeNoticeSent
  | traceNoticeSent
  /-- SAMPLE_ROUND (R27, R28): one round of the Input Sampler. -/
  | sampleRound (input : RoundInput)
  /-- ENCODER_PULSE (R40): a rising edge of ENC. `spaced`: it comes at least 100 µs after the edge
  counted before it (R199). `trackerFirst`: whether the Rack Tracker takes the travel event before the
  Fault Detectors do (the manual leaves the order open). -/
  | encoderPulse (spaced : Bool) (trackerFirst : Bool)
  | eraseComplete
  /-- PROGRAM_COMPLETE (R164): `damage` marks the bits of the check value that the cells did not take; with
  none the slot reads back as it was programmed. -/
  | programComplete (damage : BitVec 16)
  | verifyComplete
  | dwellExpiry
  /-- LEAK_WINDOW_EXPIRY (R106) of one tank -/
  | leakWindowExpiry (tank : Zone)
  | encoderSilenceExpiry
  | localiseExpiry
  | drainTimeoutExpiry
  | leakVerifyExpiry
  | leakWatchExpiry
  /-- PURGE_EXPIRY (R144) of the FILTER case of one zone -/
  | purgeExpiry (zone : Zone)
  /-- REFILL_EXPIRY (R145) of the FILTER case of one zone -/
  | refillExpiry (zone : Zone)
  | powerLost
  | resetPinAsserted
  | breakEnd
deriving DecidableEq, Repr

end Sys2Proof
end

