-- ==== Sys2Proof/WellFormed.lean ====
section
/-! DEFINITION. Which commands the part can be given: a request input exists for lines 0..21 only
(R44), and the converter gives codes 0..4095 only (Units and ranges; R30). -/

namespace Sys2Proof

/-- Every code of a round lies in 0..4095. -/
def RoundInput.codesInRange (r : RoundInput) : Bool :=
  r.codes.toList.all fun q => q.toList.all fun c => c ≤ 4095

/-- A command whose operands name things that exist. -/
def Instr.wellFormed : Instr → Bool
  | .requestInputChange line _ => line < 22
  | .sampleRound input => input.codesInRange
  | _ => true

end Sys2Proof
end

