-- ==== Sys2Proof/Decode.lean ====
section
/-! DEFINITION. spec/opcode_table.json gives no row any bits: a command of this block is an event, not
a word. So no word spells a command. (The frames a host sends are assembled byte by byte: Machine/Link.lean
and Machine/Frame.lean.) -/

namespace Sys2Proof

/-- The command a table word spells: none, since no row of the table has bits. -/
def decodeTableWord (_nbits _w : Nat) : Option Instr := none

end Sys2Proof
end

