-- ==== Sys2Proof/Machine/State.lean ====
section
/-! DEFINITION. The state of the part, block by block as the manual's block diagram divides it, and
the state right after a power reset. -/

namespace Sys2Proof.Machine

/-! ### Profile and Mode Controller -/

/-- The machine modes (R14). -/
inductive Mode where
  | starting
  | standby
  | prepare
  | run
  | halt
deriving DecidableEq, Repr

/-- Why the machine is in HALT (R14, R20). -/
inductive HaltCause where
  | none
  | requested
  | caseTableFull
  | unisolatedHeat
deriving DecidableEq, Repr

/-- A zone record, every field present (R2). Temperatures in deci-degrees, levels and spans in mm,
contact in quarter-seconds, pressure in mbar, current in 0.1 A. -/
structure ZoneRecord where
  spanStart : Nat
  spanEnd : Nat
  tMin : Nat
  tMax : Nat
  contactRequired : Nat
  levelSetpoint : Nat
  levelHeaterSafe : Nat
  levelEmpty : Nat
  leakThreshold : Nat
  filterThreshold : Nat
  elementCurrent : Nat
  final : Bool
deriving DecidableEq, Repr

/-- The state of a zone slot (R1) with the record it holds; an UNCONFIGURED slot holds none. -/
inductive SlotState where
  | unconfigured
  | offline (record : ZoneRecord)
  | online (record : ZoneRecord)
deriving DecidableEq, Repr

/-- A zone slot: its state and record (R1, R2) and its offline-by-case marker (R3), the ids of the
cases that hold the zone offline. -/
structure ZoneSlot where
  slot : SlotState
  marker : List Nat
deriving DecidableEq, Repr

/-- The global limits (R4), in the order of the rule's table. -/
structure Limits where
  tRef : Nat
  doseFloor : Nat
  doseRequired : Nat
  dwellLimit : Nat
  dwellMargin : Nat
  minPitch : Nat
  exitPosition : Nat
  mmPerPulse : Nat
  encoderSilence : Nat
  leakWindow : Nat
  localiseTime : Nat
  leakVerify : Nat
  leakWatch : Nat
  drainTimeout : Nat
  purgeTime : Nat
  refillTimeout : Nat
  filterVerify : Nat
  maxAttempts : Nat
deriving DecidableEq, Repr

/-- The defaults of R4. -/
def Limits.default : Limits :=
  { tRef := 710, doseFloor := 550, doseRequired := 30000, dwellLimit := 20, dwellMargin := 100,
    minPitch := 500, exitPosition := 6000, mmPerPulse := 5, encoderSilence := 5, leakWindow := 30,
    localiseTime := 20, leakVerify := 60, leakWatch := 600, drainTimeout := 180, purgeTime := 4,
    refillTimeout := 60, filterVerify := 5, maxAttempts := 3 }

/-- The Profile and Mode Controller (R1 to R24). -/
structure Pmc where
  zones : Four ZoneSlot
  limits : Limits
  mode : Mode
  haltCause : HaltCause
deriving DecidableEq, Repr

/-! ### Input Sampler -/

/-- A two-point calibration (R25). -/
structure Calibration where
  rawLo : Nat
  rawHi : Nat
  engLo : Int
  engHi : Int
deriving DecidableEq, Repr

/-- A reading with its validity (R25): VALID and STALE readings have a value, an UNKNOWN one has none. -/
inductive Reading where
  | valid (value : Nat)
  | stale (value : Nat)
  | unknown
deriving DecidableEq, Repr

/-- A channel record (R25); configured means that a calibration is present. -/
structure Channel where
  calibration : Option Calibration
  reading : Reading
  runCount : Nat
deriving DecidableEq, Repr

/-- The Input Sampler (R25 to R43). `sinceRound` is the time, in ms, since the latest round began
(none before the first), from which the next round falls due (R28). -/
structure Smp where
  channels : Four (Quad Channel)
  panWet : Bool
  eyeBlocked : Bool
  panPrevious : Option Bool
  eyePrevious : Option Bool
  travel : Word32
  sinceRound : Option Nat
deriving DecidableEq, Repr

/-! ### Line Gate -/

/-- The 22 actuator lines by name (R44): line 5z+0 .. 5z+4 of zone z, CONVEYOR (20) and MAIN (21). -/
inductive LineId where
  | heatA (zone : Zone)
  | heatB (zone : Zone)
  | pump (zone : Zone)
  | fill (zone : Zone)
  | drain (zone : Zone)
  | conveyor
  | main
deriving DecidableEq, Repr

/-- The kind of a claim (R46). -/
inductive ClaimKind where
  | block
  | force
deriving DecidableEq, Repr

/-- The owner of a claim (R46). -/
inductive Owner where
  | mode
  | ofCase (id : Nat)
  | zoneOff (zone : Zone)
  | tempGuard (zone : Zone)
  | levelGuard (zone : Zone)
  | dwell
  | outcomeStall
deriving DecidableEq, Repr

/-- A claim on a line (R46). -/
structure Claim where
  owner : Owner
  kind : ClaimKind
deriving DecidableEq, Repr

/-- A line record (R44), with the level of the line's request input pin beside the request the Line
Gate has recorded from it: the two differ only while the part takes no input (R199, R60). -/
structure Line where
  input : Bool
  request : Bool
  claims : List Claim
  drive : Bool
deriving DecidableEq, Repr

/-- The five lines of one zone. -/
structure ZoneLines where
  heatA : Line
  heatB : Line
  pump : Line
  fill : Line
  drain : Line
deriving DecidableEq, Repr

/-- The Line Gate: the 22 line records (R44). -/
structure Lines where
  zones : Four ZoneLines
  conveyor : Line
  main : Line
deriving DecidableEq, Repr

/-! ### Rack Tracker -/

/-- Who set a HOLD (R61). -/
inductive HoldCause where
  | byCase
  | byFlush
deriving DecidableEq, Repr

/-- Why an account was closed early (R61, R75). -/
inductive FlushReason where
  | standbyFlush
  | haltFlush
deriving DecidableEq, Repr

/-- The disposition of a rack (R70). -/
inductive Disposition where
  | clean
  | rewash
  | hold
deriving DecidableEq, Repr

/-- The reasons of an outcome (R71). -/
structure Reasons where
  contactShort : Bool
  doseShort : Bool
  dwellExpired : Bool
  caseHold : Bool
  trackLost : Bool
  carried : Bool
  standbyFlush : Bool
  haltFlush : Bool
deriving DecidableEq, Repr

/-- A decided outcome (R70, R71). -/
structure Outcome where
  disposition : Disposition
  reasons : Reasons
  shortZones : ZoneSet
deriving DecidableEq, Repr

/-- A rack record (R61). -/
structure Rack where
  tag : Nat
  entryStamp : Option Word32
  exitPosition : Option Nat
  mask : ZoneSet
  contact : Four Nat
  dose : Nat
  hold : Option HoldCause
  dwellExpired : Bool
  trackLost : Bool
  exited : Bool
  carried : Bool
  flush : Option FlushReason
  links : List Nat
  linksMore : Bool
  outcome : Option Outcome
deriving DecidableEq, Repr

/-- The Rack Tracker (R61 to R84): the transit queue, oldest first, the next rack tag, the last
admission travel stamp and the admitted counter. Its OUTCOME_STALL claim stands on the line. -/
structure Rt where
  queue : List Rack
  nextTag : Nat
  lastStamp : Option Word32
  admitted : Word32
deriving DecidableEq, Repr

/-! ### Dose Unit -/

/-- The dwell state (R92): while ACTIVE, the dwell zone, the time left in ms and the tags of the
candidates. The DWELL claim stands on the line. -/
inductive Dwell where
  | inactive
  | active (zone : Zone) (timer : Nat) (candidates : List Nat)
deriving DecidableEq, Repr

/-! ### Fault Detectors -/

/-- The level decline detector while armed (R100): the reference level and the window's time left, ms. -/
structure LevelWatch where
  reference : Nat
  window : Nat
deriving DecidableEq, Repr

/-- Detector state of one tank (R100); the level decline detector is armed while `level` is present. -/
structure Tank where
  level : Option LevelWatch
  filterCount : Nat
  openCount : Nat
  stuckCount : Nat
  overtempCount : Nat
deriving DecidableEq, Repr

/-- The Fault Detectors (R100): the tanks and the encoder silence timer (ms left; none while stopped). -/
structure Fd where
  tanks : Four Tank
  silence : Option Nat
deriving DecidableEq, Repr

/-! ### Case Manager -/

/-- The source of a LEAK case (R101, R118); the tank of a TANK source is the zone of the case. -/
inductive LeakSource where
  | pan
  | tank (zone : Zone)
deriving DecidableEq, Repr

/-- The kind of a case with the zone and quantity that make its key, and the findings of its
procedure (R118, R120, R134): LEAK: source, leaking tank set, unassessed tank set, reference levels
(R134, R135); FILTER: pressure of the opening detection, attempt, and the verification count its
VERIFYING was started with (R145, R158); HEATER_OPEN: k of the opening detection, open elements, sum of
counted currents (R149, R150); HEATER_STUCK: current of the opening detection, low run (R152); OVERTEMP:
temperature of the opening detection; SENSOR: the channel, or the encoder. -/
inductive Proc where
  | leak (source : LeakSource) (leaking unassessed : ZoneSet) (refs : Four (Option Nat))
  | filter (zone : Zone) (pressure attempt goal : Nat)
  | heaterOpen (zone : Zone) (k : Nat) (openA openB : Bool) (sum : Nat)
  | heaterStuck (zone : Zone) (current lowRun : Nat)
  | overtemp (zone : Zone) (temperature : Nat)
  | sensor (zone : Zone) (quantity : Quantity)
  | travel
deriving DecidableEq, Repr

/-- The state of a case (R119). -/
inductive CaseState where
  | isolating
  | acting
  | verifying
  | degraded
  | manual
  | resolved
deriving DecidableEq, Repr

/-- The step of a case within its state (R118); `none` where the state has no step. -/
inductive Step where
  | none
  | purge
  | refill
  | testA
  | testB
  | drain
deriving DecidableEq, Repr

/-- A case record (R118). The claims it has posted stand on the lines under the owner CASE id, and the
claims it holds back follow from the record (Machine/Cases.lean: Case.posted, Case.held), so neither is
held here a second time. `timer` is the step timer's time left in ms. -/
structure Case where
  id : Nat
  proc : Proc
  state : CaseState
  step : Step
  timer : Option Nat
  counter : Option Nat
  recurrence : Nat
  suspended : Bool
  announce : Bool
  openedAt : Word32
deriving DecidableEq, Repr

/-- The Case Manager (R118 to R158): the case table in opening order, the next case id, the uptime in
seconds (with the milliseconds of the running second) and the leak watch (ms left; none while not
running). -/
structure Cm where
  table : List Case
  nextId : Nat
  uptime : Word32
  uptimeMs : Nat
  leakWatch : Option Nat
deriving DecidableEq, Repr

/-! ### Checkpoint Store -/

/-- A rack entry of a snapshot (R160). -/
structure RackEntry where
  tag : Nat
  position : Nat
  hold : Option HoldCause
  dwellExpired : Bool
  trackLost : Bool
  flush : Option FlushReason
  dose : Nat
  contact : Four Nat
  mask : ZoneSet
deriving DecidableEq, Repr

/-- The kind of a case as reported (R118, R189). -/
inductive CaseKind where
  | leak
  | filter
  | heaterOpen
  | heaterStuck
  | overtemp
  | sensor
deriving DecidableEq, Repr

/-- A case summary of a snapshot (R160), and an abandoned case of the restore notice (R170). -/
structure CaseSummary where
  id : Nat
  kind : CaseKind
  zone : Option Zone
  state : CaseState
deriving DecidableEq, Repr

/-- The items of a snapshot that its check value covers (R160). -/
structure Snapshot where
  generation : Nat
  nextTag : Nat
  nextCaseId : Nat
  mode : Mode
  onlineMask : ZoneSet
  racks : List RackEntry
  cases : List CaseSummary
deriving DecidableEq, Repr

/-- What a non-volatile slot holds (R159): the blank contents left by an erase; the remains of an erase
or a write cut short, which no check value matches (R166); or a programmed snapshot record: the items and,
last, the check value the slot holds for them (R160, R164). -/
inductive SlotContents where
  | blank
  | torn
  | record (snapshot : Snapshot) (check : BitVec 16)
deriving DecidableEq, Repr

/-- The stage of a write in flight (R164). -/
inductive WriteStage where
  | erasing
  | programming
  | verifying
deriving DecidableEq, Repr

/-- The write state (R161), with the snapshot in flight and the target slot while not IDLE. -/
inductive Write where
  | idle
  | busy (stage : WriteStage) (snapshot : Snapshot) (target : Fin 4)
deriving DecidableEq, Repr

/-- The checkpoint state (R161). -/
inductive CkState where
  | on
  | failed
  | exhausted
deriving DecidableEq, Repr

/-- What the restore scan has found, for the RESTORED notice and IDENT (R168 to R170). -/
structure RestoreInfo where
  generation : Option Nat
  carried : Nat
  mode : Option Mode
  onlineMask : ZoneSet
  abandoned : List CaseSummary
deriving DecidableEq, Repr

/-- The Checkpoint Store (R159 to R172). `bad` marks the slots whose health is BAD; `trigger` says that
the event under way has raised a checkpoint trigger, which CK takes when the event has been taken whole
(R162). -/
structure Ck where
  slots : Four SlotContents
  write : Write
  pending : Bool
  current : Option (Fin 4)
  nextGeneration : Nat
  lastWritten : Option Nat
  bad : ZoneSet
  state : CkState
  restored : RestoreInfo
  trigger : Bool
deriving DecidableEq, Repr

/-! ### Link Controller -/

/-- A byte of the inbound buffer with its error mark (R175). -/
structure RxByte where
  byte : Byte
  errorMark : Bool
deriving DecidableEq, Repr

/-- The receive side (R174 to R178): the checked frames, oldest first, each with all its bytes; the
bytes of the frame in assembly, from its SYNC byte (none while HUNTING); whether an overflow has put the
bad mark on that frame; the time left before its gap is over, ms; RDY; and whether the line is still low
after a recognised break. -/
structure Rx where
  checked : List (List Byte)
  assembly : List RxByte
  overflow : Bool
  gap : Nat
  rdy : Bool
  inBreak : Bool
deriving DecidableEq, Repr

/-- A reply in the reply slot (R180). -/
structure Reply where
  kind : Byte
  tag : Byte
  payload : List Byte
deriving DecidableEq, Repr

/-- A notice of the event queue (R182), with the contents of the moment it was queued. -/
inductive EventNotice where
  | ofCase (contents : Case)
  | restored (info : RestoreInfo)
  | mode (mode : Mode) (cause : HaltCause)
  | checkpoint (state : CkState) (lastWritten : Option Nat) (bad : ZoneSet)
deriving DecidableEq, Repr

/-- An OUTCOME notice (R72). -/
structure OutcomeNotice where
  tag : Nat
  outcome : Outcome
  mask : ZoneSet
  contact : Four Nat
  dose : Nat
  exitPosition : Nat
  links : List Nat
  linksMore : Bool
deriving DecidableEq, Repr

/-- A TRACE notice (R184), less its gap marker, which is set when its transmission starts. -/
structure TraceNotice where
  zone : Zone
  readings : Quad Reading
deriving DecidableEq, Repr

/-- Where the frame in transmission comes from (R181). -/
inductive TxSource where
  | reply
  | event
  | outcome
  | trace
deriving DecidableEq, Repr

/-- The transmitter: idle, or sending a frame (R181). -/
inductive Tx where
  | idle
  | sending (source : TxSource) (frame : List Byte)
deriving DecidableEq, Repr

/-- How far a taken RESTART has come (R172): its reply waits or is being sent; or the restart is due,
to be performed at once. -/
inductive RestartState where
  | none
  | awaitingReply
  | due
deriving DecidableEq, Repr

/-- The Link Controller (R173 to R187). -/
structure Lk where
  rate : Baud
  rx : Rx
  reply : Option Reply
  events : List EventNotice
  outcomes : List OutcomeNotice
  traces : List TraceNotice
  restoreFlag : Bool
  modeFlag : Bool
  checkpointFlag : Bool
  linkErrors : Nat
  outcomesSent : Word32
  traceZone : Option Zone
  traceGap : Bool
  tx : Tx
  hold : Bool
  restart : RestartState
deriving DecidableEq, Repr

/-! ### Supply, resets and the whole part -/

/-- The cause of the latest reset (R171). -/
inductive ResetCause where
  | power
  | pin
  | restart
deriving DecidableEq, Repr

/-- Supply and reset pin (R171, R199): whether the supply is in range, whether RESETn is low, whether
the supply has been lost since the last reset ended, and the recorded cause of the latest reset. -/
structure Power where
  supplyGood : Bool
  resetLow : Bool
  supplyLost : Bool
  cause : ResetCause
deriving DecidableEq, Repr

/-- The state of the part. `freeIndex` is the MODEL's own: the number of free values drawn so far
(Config.failedSlotCheck). `pending` is the MODEL's own: the commands that are waiting, first in,
first out. -/
structure State where
  power : Power
  pmc : Pmc
  smp : Smp
  lg : Lines
  rt : Rt
  du : Dwell
  fd : Fd
  cm : Cm
  ck : Ck
  lk : Lk
  freeIndex : Nat
  pending : List Instr
deriving DecidableEq, Repr

/-- The faults of a step. There are none: the manual gives every command an effect in every state, or
says that the part does not take it, so no step stops the machine. Safe. -/
inductive Fault : Type
deriving DecidableEq, Repr

/-- The reasons a step can be refused. -/
inductive Refusal where
  /-- Raised by exec for a command without a meaning: no arm of this model raises it. Safe. -/
  | notModelled (mnemonic : String)
  /-- Raised by the meanings of REQUEST_INPUT_CHANGE and SAMPLE_ROUND for operands that name nothing
  that exists: a line above 21 (R44), a converter code above 4095 (R30). No such event can occur. Safe. -/
  | noSuchInput
deriving DecidableEq, Repr

/-! ### The state after reset -/

/-- BLOCK claims of the given owners, in order. -/
def blocksOf (owners : List Owner) : List Claim := owners.map fun o => { owner := o, kind := .block }

/-- A line after reset: request input off, drive off, the given claims (R60). -/
def Line.afterReset (owners : List Owner) : Line :=
  { input := false, request := false, claims := blocksOf owners, drive := false }

/-- The five lines of zone `z` after reset (R60). -/
def ZoneLines.afterReset (z : Zone) : ZoneLines :=
  { heatA := Line.afterReset [.mode, .zoneOff z, .tempGuard z, .levelGuard z]
    heatB := Line.afterReset [.mode, .zoneOff z, .tempGuard z, .levelGuard z]
    pump := Line.afterReset [.mode, .zoneOff z]
    fill := Line.afterReset [.mode, .zoneOff z, .levelGuard z]
    drain := Line.afterReset [.mode] }

/-- The machine right after a power reset: R24, R43, R60, R84, R99, R117, R133, R161, R187. The four
checkpoint slots are blank, the request inputs off, HOLD inactive and the strap low, and until the restore
scan sets them the current slot and the last written generation are none and the next generation (R161), the
next rack tag (R84) and the next case id (R133) are 1: DESIGN CHOICE, unsafe, notes/assumptions/1.md. -/
def State.reset : State :=
  { power := { supplyGood := true, resetLow := false, supplyLost := false, cause := .power }
    pmc :=
      { zones := Four.fill { slot := .unconfigured, marker := [] }
        limits := Limits.default
        mode := .starting
        haltCause := .none }
    smp :=
      { channels := Four.fill (Quad.fill { calibration := none, reading := .unknown, runCount := 0 })
        panWet := false
        eyeBlocked := false
        panPrevious := none
        eyePrevious := none
        travel := 0
        sinceRound := none }
    lg :=
      { zones := Four.ofFn ZoneLines.afterReset
        conveyor := Line.afterReset [.mode]
        main := Line.afterReset [.mode] }
    rt := { queue := [], nextTag := 1, lastStamp := none, admitted := 0 }
    du := .inactive
    fd :=
      { tanks := Four.fill
          { level := none, filterCount := 0, openCount := 0, stuckCount := 0, overtempCount := 0 }
        silence := none }
    cm := { table := [], nextId := 1, uptime := 0, uptimeMs := 0, leakWatch := none }
    ck :=
      { slots := Four.fill .blank
        write := .idle
        pending := false
        current := none
        nextGeneration := 1
        lastWritten := none
        bad := ZoneSet.none
        state := .on
        restored := { generation := none, carried := 0, mode := none, onlineMask := ZoneSet.none,
                      abandoned := [] }
        trigger := false }
    lk :=
      { rate := .low115200
        rx := { checked := [], assembly := [], overflow := false, gap := 0, rdy := true,
                inBreak := false }
        reply := none
        events := []
        outcomes := []
        traces := []
        restoreFlag := false
        modeFlag := false
        checkpointFlag := false
        linkErrors := 0
        outcomesSent := 0
        traceZone := none
        traceGap := false
        tx := .idle
        hold := false
        restart := .none }
    freeIndex := 0
    pending := [] }

end Sys2Proof.Machine
end

