-- ==== Sys2Proof/Machine/Flags.lean ====
section
/-! DEFINITION. The code values and encodings of payload fields (R189), and the condition flags the
part derives from its state: queue full flags, the event pending flag, ATTN. -/

namespace Sys2Proof.Machine

/-- A number as one byte. -/
def byte (n : Nat) : Byte := BitVec.ofNat 8 n

/-- A two-byte number, most significant byte first (R189). -/
def be16 (n : Nat) : List Byte := [byte (n / 256), byte n]

/-- A four-byte number, most significant byte first (R189). -/
def be32 (n : Nat) : List Byte := [byte (n / 16777216), byte (n / 65536), byte (n / 256), byte n]

/-- A flag byte: 1 for set, yes or on (R189). -/
def flagByte (b : Bool) : Byte := if b then 1 else 0

/-- A set of zones or slots: 2^n stands for member n (R189). -/
def setByte (v : ZoneSet) : Byte :=
  Machine.byte (v.z0.toNat + 2 * v.z1.toNat + 4 * v.z2.toNat + 8 * v.z3.toNat)

/-- An optional zone: 0xFF when absent (R189). -/
def zoneByte : Option Zone → Byte
  | none => 0xFF
  | some z => byte z.val

/-- Mode codes (R189). -/
def Mode.code : Mode → Nat
  | .starting => 0
  | .standby => 1
  | .prepare => 2
  | .run => 3
  | .halt => 4

/-- The mode with a code, for a MODE request's target (R189, R192). -/
def Mode.ofCode : Nat → Option Mode
  | 0 => some .starting
  | 1 => some .standby
  | 2 => some .prepare
  | 3 => some .run
  | 4 => some .halt
  | _ => none

/-- Halt cause codes (R189). -/
def HaltCause.code : HaltCause → Nat
  | .none => 0
  | .requested => 1
  | .caseTableFull => 2
  | .unisolatedHeat => 3

/-- Zone state codes (R189). -/
def SlotState.code : SlotState → Nat
  | .unconfigured => 0
  | .offline _ => 1
  | .online _ => 2

/-- Validity codes (R189). -/
def Reading.validityCode : Reading → Nat
  | .unknown => 0
  | .stale _ => 1
  | .valid _ => 2

/-- The value a reading reports; 0 where it has none (R27, R42). -/
def Reading.reported : Reading → Nat
  | .unknown => 0
  | .stale v => v
  | .valid v => v

/-- The value a reading is judged on: the value of a VALID reading, the held value of a STALE one
(R35's table: detector thresholds). -/
def Reading.judged : Reading → Option Nat
  | .unknown => none
  | .stale v => some v
  | .valid v => some v

/-- The value of a VALID reading only. -/
def Reading.trusted : Reading → Option Nat
  | .valid v => some v
  | _ => none

/-- Case kind codes (R189). -/
def CaseKind.code : CaseKind → Nat
  | .leak => 1
  | .filter => 2
  | .heaterOpen => 3
  | .heaterStuck => 4
  | .overtemp => 5
  | .sensor => 6

/-- Case state codes (R189). -/
def CaseState.code : CaseState → Nat
  | .isolating => 1
  | .acting => 2
  | .verifying => 3
  | .degraded => 4
  | .manual => 5
  | .resolved => 6

/-- Step codes (R189). -/
def Step.code : Step → Nat
  | .none => 0
  | .purge => 1
  | .refill => 2
  | .testA => 3
  | .testB => 4
  | .drain => 5

/-- Quantity codes of the four channel quantities (R189); 5 is TRAVEL, 0 none. -/
def quantityCode : Quantity → Nat
  | .temp => 1
  | .level => 2
  | .pressure => 3
  | .current => 4

/-- Disposition codes (R189). -/
def Disposition.code : Disposition → Nat
  | .clean => 1
  | .rewash => 2
  | .hold => 3

/-- The reason set as a byte (R189): reason n stands at 2^n. -/
def Reasons.byte (r : Reasons) : Byte :=
  Machine.byte (r.contactShort.toNat + 2 * r.doseShort.toNat + 4 * r.dwellExpired.toNat
    + 8 * r.caseHold.toNat + 16 * r.trackLost.toNat + 32 * r.carried.toNat
    + 64 * r.standbyFlush.toNat + 128 * r.haltFlush.toNat)

/-- No reason at all. -/
def Reasons.empty : Reasons :=
  { contactShort := false, doseShort := false, dwellExpired := false, caseHold := false,
    trackLost := false, carried := false, standbyFlush := false, haltFlush := false }

/-- HOLD cause codes (R189). -/
def holdCode : Option HoldCause → Nat
  | none => 0
  | some .byCase => 1
  | some .byFlush => 2

/-- Flush reason codes (R189). -/
def flushCode : Option FlushReason → Nat
  | none => 0
  | some .standbyFlush => 1
  | some .haltFlush => 2

/-- Claim owner type codes (R189). -/
def Owner.code : Owner → Nat
  | .mode => 1
  | .ofCase _ => 2
  | .zoneOff _ => 3
  | .tempGuard _ => 4
  | .levelGuard _ => 5
  | .dwell => 6
  | .outcomeStall => 7

/-- The case id of a claim entry, 0 for owners other than CASE (R194). -/
def Owner.caseId : Owner → Nat
  | .ofCase n => n
  | _ => 0

/-- Claim kind codes (R189). -/
def ClaimKind.code : ClaimKind → Nat
  | .block => 1
  | .force => 2

/-- Reset cause codes (R189). -/
def ResetCause.code : ResetCause → Nat
  | .power => 1
  | .pin => 2
  | .restart => 3

/-- Checkpoint state codes (R189). -/
def CkState.code : CkState → Nat
  | .on => 1
  | .failed => 2
  | .exhausted => 3

/-- Whether a case is RESOLVED. -/
def Case.isResolved (c : Case) : Bool := c.state = .resolved

/-- The places of each notice queue (R181). -/
def queuePlaces : Nat := 16

/-- The event queue has room for a notice (R131, R182). -/
def Lk.eventRoom (l : Lk) : Bool := l.events.length < queuePlaces

/-- ATTN (R185): high while the event queue or the outcome queue holds a notice. -/
def Lk.attn (l : Lk) : Bool := !l.events.isEmpty || !l.outcomes.isEmpty

/-- The event pending flag of STATUS (R182): some system announcement flag or some case's announce
pending is set. -/
def State.eventPending (s : State) : Bool :=
  s.lk.restoreFlag || s.lk.modeFlag || s.lk.checkpointFlag || s.cm.table.any (·.announce)

/-- The part takes inputs: the supply is in range, RESETn is high (R199) and no restart is due (R172). -/
def State.live (s : State) : Bool :=
  s.power.supplyGood && !s.power.resetLow && s.lk.restart != .due

/-- The part drives its outputs: supply in range and RESETn high (R199). -/
def State.powered (s : State) : Bool := s.power.supplyGood && !s.power.resetLow

end Sys2Proof.Machine
end

