-- ==== Sys2Proof/Machine/Operands.lean ====
section
/-! DEFINITION. The operands of the requests, read from payload bytes (R189, R191, R192), and the
clamping of load fields (R5, R6). -/

namespace Sys2Proof.Machine

/-- One byte of a payload as a number. -/
def u8 (p : List Byte) (i : Nat) : Nat := (p.getD i 0).toNat

/-- A two-byte number, most significant byte first (R189). -/
def u16 (p : List Byte) (i : Nat) : Nat := 256 * u8 p i + u8 p (i + 1)

/-- A four-byte number, most significant byte first (R189). -/
def u32 (p : List Byte) (i : Nat) : Nat := 65536 * u16 p i + u16 p (i + 2)

/-- A signed two-byte number, two's complement (R189). -/
def s16 (p : List Byte) (i : Nat) : Int :=
  if u16 p i < 32768 then (u16 p i : Int) else (u16 p i : Int) - 65536

/-- Whether field `n` is a member of a presence set (R191). -/
def present (presence n : Nat) : Bool := presence.testBit n

/-- A zone number operand: 0..3, or none (R189). -/
def zoneOperand (n : Nat) : Option Zone := if h : n < 4 then some ⟨n, h⟩ else none

/-- A number clamped to a range (R5). -/
def clampTo (lo hi v : Nat) : Nat := if v < lo then lo else if hi < v then hi else v

/-- One field of a load (R5): the value written, with its field number listed when clamping changed the
value the request carried. An absent field takes `absent` and is not listed. -/
def loadField (number : Nat) (isPresent : Bool) (absent lo hi value : Nat) : Nat × List Nat :=
  if isPresent then
    let v := clampTo lo hi value
    (v, if v = value then [] else [number])
  else (absent, [])

/-- The zone record a ZONE_LOAD writes (R2, R5, R191) and the numbers of its clamped fields. Field n's
value stands at payload offset 3 + 2n; final (field 11) at 25. -/
def zoneLoadRecord (p : List Byte) : ZoneRecord × List Nat :=
  let pr := u16 p 1
  let fld := fun (n absent lo hi : Nat) => loadField n (present pr n) absent lo hi (u16 p (3 + 2 * n))
  let a := fld 0 0 0 20000
  let b := fld 1 0 0 20000
  let c := fld 2 600 0 1000
  let d := fld 3 900 300 990
  let e := fld 4 40 0 65535
  let f := fld 5 400 0 1000
  let g := fld 6 250 0 1000
  let h := fld 7 30 0 1000
  let i := fld 8 15 1 200
  let j := fld 9 250 10 2000
  let k := fld 10 100 10 500
  ({ spanStart := a.1, spanEnd := b.1, tMin := c.1, tMax := d.1, contactRequired := e.1,
     levelSetpoint := f.1, levelHeaterSafe := g.1, levelEmpty := h.1, leakThreshold := i.1,
     filterThreshold := j.1, elementCurrent := k.1,
     final := present pr 11 && u8 p 25 = 1 },
   a.2 ++ b.2 ++ c.2 ++ d.2 ++ e.2 ++ f.2 ++ g.2 ++ h.2 ++ i.2 ++ j.2 ++ k.2)

/-- Test 3 of R7: both spans are present, and a present final flag is 0 or 1 (R2, R5). -/
def zoneLoadArgsGood (p : List Byte) : Bool :=
  let pr := u16 p 1
  present pr 0 && present pr 1 && (!present pr 11 || u8 p 25 ≤ 1)

/-- The upper bound of dose_floor and its settlement (R6): against the t_ref that results from the same
load. An absent dose_floor above that t_ref is set to it and listed. -/
def doseFloorField (isPresent : Bool) (now value tRef : Nat) : Nat × List Nat :=
  if isPresent then loadField 1 true now 400 tRef value
  else if tRef < now then (tRef, [1]) else (now, [])

/-- The limits a LIMITS_LOAD leaves (R4, R5, R6, R191) and the numbers of its clamped fields. -/
def limitsLoadResult (p : List Byte) (l : Limits) : Limits × List Nat :=
  let pr := 65536 * u8 p 0 + u16 p 1
  let fld := fun (n off now lo hi : Nat) => loadField n (present pr n) now lo hi (u16 p off)
  let tr := fld 0 3 l.tRef 600 800
  let df := doseFloorField (present pr 1) l.doseFloor (u16 p 5) tr.1
  let dr := loadField 2 (present pr 2) l.doseRequired 0 9999999 (u32 p 7)
  let dl := fld 3 11 l.dwellLimit 0 120
  let dm := fld 4 13 l.dwellMargin 0 500
  let mp := fld 5 15 l.minPitch 200 2000
  let ep := fld 6 17 l.exitPosition 100 20000
  let mm := fld 7 19 l.mmPerPulse 1 20
  let es := fld 8 21 l.encoderSilence 2 30
  let lw := fld 9 23 l.leakWindow 10 120
  let lt := fld 10 25 l.localiseTime 10 120
  let lv := fld 11 27 l.leakVerify 30 600
  let lwa := fld 12 29 l.leakWatch 0 3600
  let dt := fld 13 31 l.drainTimeout 30 600
  let pt := fld 14 33 l.purgeTime 1 30
  let rt := fld 15 35 l.refillTimeout 10 300
  let fv := fld 16 37 l.filterVerify 2 60
  let ma := fld 17 39 l.maxAttempts 1 5
  ({ tRef := tr.1, doseFloor := df.1, doseRequired := dr.1, dwellLimit := dl.1, dwellMargin := dm.1,
     minPitch := mp.1, exitPosition := ep.1, mmPerPulse := mm.1, encoderSilence := es.1,
     leakWindow := lw.1, localiseTime := lt.1, leakVerify := lv.1, leakWatch := lwa.1,
     drainTimeout := dt.1, purgeTime := pt.1, refillTimeout := rt.1, filterVerify := fv.1,
     maxAttempts := ma.1 },
   tr.2 ++ df.2 ++ dr.2 ++ dl.2 ++ dm.2 ++ mp.2 ++ ep.2 ++ mm.2 ++ es.2 ++ lw.2 ++ lt.2 ++ lv.2
     ++ lwa.2 ++ dt.2 ++ pt.2 ++ rt.2 ++ fv.2 ++ ma.2)

/-- The calibration a CHAN_LOAD writes (R26, R191) and the numbers of its clamped raw fields; none where
test 1 or test 3 of R26 fails. -/
def chanLoadResult (p : List Byte) : Option (Calibration × List Nat) :=
  let pr := u8 p 1
  let lo := loadField 0 true 0 0 4095 (u16 p 2)
  let hi := loadField 1 true 0 0 4095 (u16 p 4)
  if present pr 0 && present pr 1 && present pr 2 && present pr 3 && lo.1 < hi.1 then
    some ({ rawLo := lo.1, rawHi := hi.1, engLo := s16 p 6, engHi := s16 p 8 }, lo.2 ++ hi.2)
  else none

end Sys2Proof.Machine
end

