-- ==== Sys2Proof/Config.lean ====
section
/-! DEFINITION. What the part fixes once (identity codes, the time base of the model) and the free
values: what the manual leaves to the medium and no rule decides. -/

namespace Sys2Proof.Config

/-- Vendor code of the IDENT reply (R193). -/
def vendorCode : Nat := 0x0A17

/-- Part code of the IDENT reply (R193). -/
def partCode : Nat := 0xC304

/-- Revision of the IDENT reply (R193). -/
def revision : Nat := 1

/-- Timers are held in milliseconds: one idle step of the model is one millisecond of the internal
oscillator. DESIGN CHOICE, safe (notes/assumptions/2.md). -/
def ticksPerSecond : Nat := 1000

/-- Free value (R165): the check value that a checkpoint slot whose read-back has failed shows at a later
restore scan. The manual says that such a slot may read valid there, and does not say when. Nothing
constrains it. DESIGN CHOICE, safe: notes/assumptions/9.md. -/
opaque failedSlotCheck : Nat → BitVec 16

end Sys2Proof.Config
end

