-- ==== Sys2Proof/Machine/Gate.lean ====
section
/-! DEFINITION. The Line Gate: lines by name and number (R44), claim lists (R46, R47), resolution (R48),
driven elements (R51) and the standing guards (R52 to R55). -/

namespace Sys2Proof.Machine

/-- The five lines of a zone, in line order (R44). -/
def LineId.ofZone (z : Zone) : List LineId := [.heatA z, .heatB z, .pump z, .fill z, .drain z]

/-- The 22 lines in number order (R44). -/
def LineId.all : List LineId :=
  LineId.ofZone 0 ++ LineId.ofZone 1 ++ LineId.ofZone 2 ++ LineId.ofZone 3 ++ [.conveyor, .main]

/-- The number of a line (R44). -/
def LineId.number : LineId → Nat
  | .heatA z => 5 * z.val
  | .heatB z => 5 * z.val + 1
  | .pump z => 5 * z.val + 2
  | .fill z => 5 * z.val + 3
  | .drain z => 5 * z.val + 4
  | .conveyor => 20
  | .main => 21

/-- The line with a number 0..21 (R44). -/
def LineId.ofNumber (n : Nat) : Option LineId := LineId.all[n]?

/-- The record of a line. -/
def Lines.get (ls : Lines) : LineId → Line
  | .heatA z => (ls.zones.get z).heatA
  | .heatB z => (ls.zones.get z).heatB
  | .pump z => (ls.zones.get z).pump
  | .fill z => (ls.zones.get z).fill
  | .drain z => (ls.zones.get z).drain
  | .conveyor => ls.conveyor
  | .main => ls.main

/-- `ls` with one record replaced. -/
def Lines.set (ls : Lines) (id : LineId) (l : Line) : Lines :=
  match id with
  | .heatA z => { ls with zones := ls.zones.set z { ls.zones.get z with heatA := l } }
  | .heatB z => { ls with zones := ls.zones.set z { ls.zones.get z with heatB := l } }
  | .pump z => { ls with zones := ls.zones.set z { ls.zones.get z with pump := l } }
  | .fill z => { ls with zones := ls.zones.set z { ls.zones.get z with fill := l } }
  | .drain z => { ls with zones := ls.zones.set z { ls.zones.get z with drain := l } }
  | .conveyor => { ls with conveyor := l }
  | .main => { ls with main := l }

/-- The five records of a zone, each built from its name. -/
def ZoneLines.build (f : LineId → Line) (z : Zone) : ZoneLines :=
  { heatA := f (.heatA z), heatB := f (.heatB z), pump := f (.pump z), fill := f (.fill z),
    drain := f (.drain z) }

/-- The 22 records, each built from its name. -/
def Lines.build (f : LineId → Line) : Lines :=
  { zones := Four.ofFn (ZoneLines.build f), conveyor := f .conveyor, main := f .main }

/-- The drive of a line. -/
def Lines.drive (ls : Lines) (id : LineId) : Bool := (ls.get id).drive

/-! ### Claim lists -/

/-- One owner's claim on one line as it is to stand: replaced in its place, joined at the end, or
withdrawn, the claims after it moving up (R46, R47). -/
def setClaim (owner : Owner) (want : Option ClaimKind) (claims : List Claim) : List Claim :=
  match want with
  | none => claims.filter fun c => c.owner != owner
  | some k =>
    if claims.any (fun c => c.owner = owner) then
      claims.map fun c => if c.owner = owner then { c with kind := k } else c
    else claims ++ [{ owner := owner, kind := k }]

/-- The claims an owner is to hold after an event: on which lines, of which kind (R47). -/
abbrev ClaimSet := List (LineId × ClaimKind)

/-- The kind a set asks for on a line. -/
def ClaimSet.on (cs : ClaimSet) (id : LineId) : Option ClaimKind :=
  (cs.find? fun c => c.1 = id).map (·.2)

/-- The claim lists after one owner's set (R47), drives untouched: on every line the owner holds the
claim the set asks for and no other. -/
def Lines.claimSet (ls : Lines) (owner : Owner) (cs : ClaimSet) : Lines :=
  Lines.build fun id =>
    let l := ls.get id
    { l with claims := setClaim owner (cs.on id) l.claims }

/-! ### Resolution -/

/-- The drive a claim list and a request resolve to (R48): BLOCK over FORCE over request. -/
def resolveDrive (claims : List Claim) (request : Bool) : Bool :=
  if claims.any (fun c => c.kind = .block) then false
  else if claims.any (fun c => c.kind = .force) then true
  else request

/-- A line re-resolved (R48). -/
def Line.resolve (l : Line) : Line := { l with drive := resolveDrive l.claims l.request }

/-- Each line whose claim list differs from the one it had before is re-resolved, once (R47). -/
def Lines.resolveChanged (before ls : Lines) : Lines :=
  Lines.build fun id =>
    if (ls.get id).claims = (before.get id).claims then ls.get id else (ls.get id).resolve

/-- The lines after the sets that the owners make at one event, applied whole (R47). -/
def Lines.applySets (ls : Lines) (sets : List (Owner × ClaimSet)) : Lines :=
  Lines.resolveChanged ls (sets.foldl (fun a o => a.claimSet o.1 o.2) ls)

/-- A request input takes a level, which the Line Gate records, re-resolving the line (R45). -/
def Lines.request (ls : Lines) (id : LineId) (on : Bool) : Lines :=
  ls.set id (Line.resolve { ls.get id with input := on, request := on })

/-! ### Driven elements -/

/-- Element A of tank z is driven (R51). -/
def Lines.drivenA (ls : Lines) (z : Zone) : Bool := ls.drive (.heatA z) && ls.drive .main

/-- Element B of tank z is driven (R51). -/
def Lines.drivenB (ls : Lines) (z : Zone) : Bool := ls.drive (.heatB z) && ls.drive .main

/-- The element count k_z (R51). -/
def Lines.driven (ls : Lines) (z : Zone) : Nat := (ls.drivenA z).toNat + (ls.drivenB z).toNat

/-! ### What each machine owner claims -/

/-- BLOCK on each of some lines. -/
def blockOn (ids : List LineId) : ClaimSet := ids.map fun id => (id, .block)

/-- FORCE on each of some lines. -/
def forceOn (ids : List LineId) : ClaimSet := ids.map fun id => (id, .force)

/-- The MODE claims (R15, R56). -/
def modeClaims : Mode → ClaimSet
  | .starting => blockOn LineId.all
  | .standby => blockOn [.conveyor]
  | .prepare => blockOn [.conveyor]
  | .run => []
  | .halt => blockOn LineId.all

/-- The record of a configured slot. -/
def SlotState.record : SlotState → Option ZoneRecord
  | .unconfigured => none
  | .offline r => some r
  | .online r => some r

/-- Whether a slot is ONLINE. -/
def SlotState.isOnline : SlotState → Bool
  | .online _ => true
  | _ => false

/-- ZONE_OFF_z: engaged on heaters, pump and fill while the zone is not ONLINE (R52). -/
def zoneOffClaims (z : Zone) (slot : SlotState) : ClaimSet :=
  if slot.isOnline then [] else blockOn [.heatA z, .heatB z, .pump z, .fill z]

/-- TEMP_GUARD_z: engaged on the heaters while the temperature is UNKNOWN (R53). -/
def tempGuardClaims (z : Zone) (temperature : Reading) : ClaimSet :=
  if temperature = .unknown then blockOn [.heatA z, .heatB z] else []

/-- Whether a level is below level_heater_safe; any level is, of an UNCONFIGURED zone (R54). -/
def levelBelowSafe (slot : SlotState) (level : Nat) : Bool :=
  match slot.record with
  | none => true
  | some r => level < r.levelHeaterSafe

/-- LEVEL_GUARD_z (R54). -/
def levelGuardClaims (z : Zone) (slot : SlotState) (level : Reading) : ClaimSet :=
  match level.judged with
  | none => blockOn [.heatA z, .heatB z, .fill z]
  | some v => if levelBelowSafe slot v then blockOn [.heatA z, .heatB z] else []

/-- The DWELL claim (R56, R92). -/
def dwellClaims : Dwell → ClaimSet
  | .inactive => []
  | .active _ _ _ => blockOn [.conveyor]

/-- The OUTCOME_STALL claim: while the outcome queue holds 16 notices (R56, R74). -/
def stallClaims (outcomes : List OutcomeNotice) : ClaimSet :=
  if queuePlaces ≤ outcomes.length then blockOn [.conveyor] else []

end Sys2Proof.Machine
end

