-- ==== Sys2Proof/Machine/Detect.lean ====
section
/-! DEFINITION. The Fault Detectors: each detector's rule at a zone sample (R104 to R110), what drive
changes do to them (R50, R104, R112), and the detections they make (R101, R102). -/

namespace Sys2Proof.Machine

/-- A detection (R101): its kind, zone and detail. -/
inductive Detection where
  | leakPan
  | leakTank (zone : Zone) (reference level : Nat)
  | filter (zone : Zone) (pressure : Nat)
  | heaterOpen (zone : Zone) (k current : Nat)
  | heaterStuck (zone : Zone) (current : Nat)
  | overtemp (zone : Zone) (temperature : Nat)
  | sensor (zone : Zone) (quantity : Quantity)
  | travel
deriving DecidableEq, Repr

/-- Seconds as the milliseconds the timers are held in. -/
def seconds (n : Nat) : Nat := n * 1000

/-! ### Drive changes -/

/-- A tank's detectors when its FILL or DRAIN drive has gone on: the level decline detector is disarmed
(R104). -/
def Tank.drivesChanged (before now : Lines) (z : Zone) (t : Tank) : Tank :=
  if (!before.drive (.fill z) && now.drive (.fill z))
      || (!before.drive (.drain z) && now.drive (.drain z)) then { t with level := none }
  else t

/-- The encoder silence timer when the CONVEYOR drive has changed (R112). -/
def silenceAfterDrive (before now : Lines) (l : Limits) (timer : Option Nat) : Option Nat :=
  if before.drive .conveyor = now.drive .conveyor then timer
  else if now.drive .conveyor then some (seconds l.encoderSilence)
  else none

/-- What the Fault Detectors take from a change of drives (R50). -/
def Fd.drivesChanged (before now : Lines) (l : Limits) (fd : Fd) : Fd :=
  { tanks := Four.ofFn fun z => (fd.tanks.get z).drivesChanged before now z
    silence := silenceAfterDrive before now l fd.silence }

/-! ### The detectors of a tank at a zone sample -/

/-- The level decline detector (R104, R105): its state after the sample, and the reference and level of
a trip. -/
def levelDetector (lines : Lines) (z : Zone) (rec : ZoneRecord) (window : Nat)
    (watch : Option LevelWatch) (level : Reading) : Option LevelWatch × Option (Nat × Nat) :=
  match watch with
  | none =>
    match level.trusted with
    | some v =>
      if !lines.drive (.fill z) && !lines.drive (.drain z) then
        (some { reference := v, window := seconds window }, none)
      else (none, none)
    | none => (none, none)
  | some w =>
    match level.judged with
    | none => (none, none)
    | some v =>
      if v + rec.leakThreshold ≤ w.reference then
        (some { reference := v, window := seconds window }, some (w.reference, v))
      else (some w, none)

/-- A count toward a trip: one more while the condition holds, back to 0 when it fails or trips. -/
def countTo (needed count : Nat) (condition : Bool) : Nat × Bool :=
  if condition then
    if needed ≤ count + 1 then (0, true) else (count + 1, false)
  else (0, false)

/-- The condition of the filter detector (R107). -/
def filterHigh (lines : Lines) (z : Zone) (rec : ZoneRecord) (pressure : Reading) : Bool :=
  lines.drive (.pump z) &&
    match pressure.judged with
    | none => false
    | some v => rec.filterThreshold ≤ v

/-- The open threshold (R108) with k driven elements, k ≥ 1. -/
def openThreshold (k elementCurrent : Nat) : Nat := (2 * k - 1) * elementCurrent / 2

/-- The condition of the heater open detector (R108). -/
def openLow (lines : Lines) (z : Zone) (rec : ZoneRecord) (current : Reading) : Bool :=
  1 ≤ lines.driven z &&
    match current.judged with
    | none => false
    | some v => v < openThreshold (lines.driven z) rec.elementCurrent

/-- The stuck threshold (R109), which is also the element test threshold (R150, R152). -/
def halfElement (elementCurrent : Nat) : Nat := elementCurrent / 2

/-- The condition of the heater stuck detector (R109). -/
def stuckHigh (lines : Lines) (z : Zone) (rec : ZoneRecord) (current : Reading) : Bool :=
  lines.driven z = 0 &&
    match current.judged with
    | none => false
    | some v => halfElement rec.elementCurrent ≤ v

/-- The condition of the overtemperature detector (R110). -/
def overHot (rec : ZoneRecord) (temperature : Reading) : Bool :=
  match temperature.judged with
  | none => false
  | some v => rec.tMax ≤ v

/-- The detectors of a configured tank at a zone sample (R102), with the drives as they stand: the new
state, and the detections in the order of R102 less the SENSOR ones. -/
def Tank.sample (lines : Lines) (z : Zone) (rec : ZoneRecord) (window : Nat) (r : Quad Reading)
    (t : Tank) : Tank × List Detection :=
  let lv := levelDetector lines z rec window t.level r.level
  let fl := countTo 8 t.filterCount (filterHigh lines z rec r.pressure)
  let op := countTo 3 t.openCount (openLow lines z rec r.current)
  let st := countTo 3 t.stuckCount (stuckHigh lines z rec r.current)
  let ov := countTo 2 t.overtempCount (overHot rec r.temp)
  ({ level := lv.1, filterCount := fl.1, openCount := op.1, stuckCount := st.1,
     overtempCount := ov.1 },
   (if st.2 then [Detection.heaterStuck z r.current.reported] else [])
     ++ (match lv.2 with
         | some (ref, v) => [Detection.leakTank z ref v]
         | none => [])
     ++ (if ov.2 then [Detection.overtemp z r.temp.reported] else [])
     ++ (if fl.2 then [Detection.filter z r.pressure.reported] else [])
     ++ (if op.2 then [Detection.heaterOpen z (lines.driven z) r.current.reported] else []))

/-- What a CHAN_LOAD of a channel does to its tank's detectors (R114). -/
def Tank.chanLoaded (q : Quantity) (t : Tank) : Tank :=
  match q with
  | .temp => { t with overtempCount := 0 }
  | .level => { t with level := none }
  | .pressure => { t with filterCount := 0 }
  | .current => { t with openCount := 0, stuckCount := 0 }

/-- The expiry of a tank's leak window (R106), where the window stands at 0: an armed detector takes the value
its level channel holds as the new reference, and the window restarts. -/
def Tank.windowExpired (window : Nat) (level : Reading) (t : Tank) : Tank :=
  match t.level with
  | none => t
  | some w =>
    if w.window = 0 then
      { t with level := some { reference := level.judged.getD w.reference, window := seconds window } }
    else t

/-- The encoder silence timer at a pulse: a running timer restarts (R112). -/
def silenceAfterPulse (l : Limits) (timer : Option Nat) : Option Nat :=
  match timer with
  | none => none
  | some _ => some (seconds l.encoderSilence)

end Sys2Proof.Machine
end

