-- ==== Sys2Proof/Machine/Dose.lean ====
section
/-! DEFINITION. The Dose Unit's arithmetic: the dose increment of a final-zone sample (R86 to R90). -/

namespace Sys2Proof.Machine

/-- M[f]: 65536 × 2^(f/16), rounded (R89). -/
def rateTable : List Nat :=
  [65536, 68438, 71468, 74632, 77936, 81386, 84990, 88752,
   92682, 96785, 101070, 105545, 110218, 115098, 120194, 125515]

/-- Stages 1 and 2 (R87): the offset from t_ref in half-degree steps, rounded toward minus infinity and
clamped to at most 79. (`/` on Int by a positive number is the floor.) -/
def doseSteps (tRef t : Nat) : Int := min (((t : Int) - tRef) / 5) 79

/-- Stages 3 and 4 (R88, R89): the rate of a number of steps, 65536 standing for 1.0. -/
def doseRate (s : Int) : Nat :=
  let o := s / 16
  let f := (s - 16 * o).toNat
  let m := rateTable.getD f 0
  if 0 ≤ o then m * 2 ^ o.toNat else m / 2 ^ (-o).toNat

/-- The increment at a temperature (R86 to R90): 0 below dose_floor. -/
def doseIncrement (l : Limits) (t : Nat) : Nat :=
  if t < l.doseFloor then 0 else doseRate (doseSteps l.tRef t) * 250 / 65536

/-- The upper limit of a dose (R91). -/
def doseLimit : Nat := 9999999

/-- The upper limit of a contact value (R68). -/
def contactLimit : Nat := 65535

end Sys2Proof.Machine
end

