-- ==== Sys2Proof/Machine/Racks.lean ====
section
/-! DEFINITION. The Rack Tracker: positions and membership (R63, R67), admission (R65, R66), contact and
dose accrual (R68, R91), exit and outcome (R69 to R73), flushes (R75), carried records (R76), links, HOLD
and lost tracking (R77 to R79), dwell candidates (R93). -/

namespace Sys2Proof.Machine

/-- The records of the transit queue at most (R62). -/
def transitPlaces : Nat := 24

/-- The distance travelled since a stamp, modulo 2^32 (R63). -/
def travelled (travel stamp : Word32) : Nat := (travel - stamp).toNat

/-- The position of a record (R63): from travel while not EXITED, the stored exit position afterwards. -/
def Rack.position (r : Rack) (travel : Word32) : Nat :=
  match r.exitPosition, r.entryStamp with
  | some p, _ => p
  | none, some e => travelled travel e
  | none, none => 0

/-- A record is in the zone of a slot (R67): not EXITED, zone ONLINE, position in the span. -/
def Rack.inZone (r : Rack) (slot : SlotState) (travel : Word32) : Bool :=
  match slot with
  | .online rec =>
    !r.exited && rec.spanStart ≤ r.position travel && r.position travel < rec.spanEnd
  | _ => false

/-! ### Outcomes -/

/-- The zones of the expected mask short of contact (R70, R71). -/
def Rack.shortZones (r : Rack) (required : Four Nat) : ZoneSet :=
  Four.ofFn fun z => r.mask.get z && r.contact.get z < required.get z

/-- Whether a set of zones has a member. -/
def zoneSetAny (v : ZoneSet) : Bool := v.z0 || v.z1 || v.z2 || v.z3

/-- The outcome of a record that is not carried (R70, R71), against the contact each zone requires and
the dose required. -/
def Rack.judge (r : Rack) (required : Four Nat) (doseRequired : Nat) : Outcome :=
  let short := r.shortZones required
  let doseShort := decide (r.dose < doseRequired)
  let disposition :=
    if r.hold.isSome || r.trackLost then Disposition.hold
    else if !r.dwellExpired && !r.carried && !zoneSetAny short && !doseShort then Disposition.clean
    else Disposition.rewash
  { disposition := disposition
    reasons :=
      { contactShort := zoneSetAny short
        doseShort := doseShort
        dwellExpired := r.dwellExpired
        caseHold := r.hold = some .byCase
        trackLost := r.trackLost
        carried := r.carried
        standbyFlush := r.flush = some .standbyFlush
        haltFlush := r.flush = some .haltFlush }
    shortZones := short }

/-- The outcome of a carried record (R76): contact and dose are not evaluated. -/
def Rack.judgeCarried (r : Rack) : Outcome :=
  { disposition := if r.hold.isSome || r.trackLost then .hold else .rewash
    reasons :=
      { contactShort := false
        doseShort := false
        dwellExpired := r.dwellExpired
        caseHold := r.hold = some .byCase
        trackLost := r.trackLost
        carried := true
        standbyFlush := r.flush = some .standbyFlush
        haltFlush := r.flush = some .haltFlush }
    shortZones := ZoneSet.none }

/-- A record becomes EXITED at the present travel: the exit position is stored and the outcome decided
(R69, R75). -/
def Rack.exit (r : Rack) (travel : Word32) (required : Four Nat) (doseRequired : Nat) : Rack :=
  { r with exited := true, exitPosition := some (r.position travel),
           outcome := some (r.judge required doseRequired) }

/-- The OUTCOME notice of an EXITED record (R72). -/
def Rack.notice (r : Rack) (o : Outcome) : OutcomeNotice :=
  { tag := r.tag, outcome := o, mask := r.mask, contact := r.contact, dose := r.dose,
    exitPosition := r.exitPosition.getD 0, links := r.links, linksMore := r.linksMore }

/-- The exit test of a travel event (R69): from the head, past the EXITED records, each record at or
beyond exit_position exits; the test stops at the first that is not. -/
def exitScan (travel : Word32) (required : Four Nat) (l : Limits) : List Rack → List Rack
  | [] => []
  | r :: rs =>
    if r.exited then r :: exitScan travel required l rs
    else if l.exitPosition ≤ r.position travel then
      r.exit travel required l.doseRequired :: exitScan travel required l rs
    else r :: rs

/-- The drain of the transit queue into the outcome queue (R73): what is left of the transit queue, and
the notices that join the outcome queue, whose free places are `room`. -/
def drainScan : Nat → List Rack → List Rack × List OutcomeNotice
  | 0, q => (q, [])
  | _, [] => ([], [])
  | room + 1, r :: rs =>
    match r.exited, r.outcome with
    | true, some o =>
      let d := drainScan room rs
      (d.1, r.notice o :: d.2)
    | _, _ => (r :: rs, [])

/-- A record flushed with a reason (R75); an EXITED record keeps what it has. -/
def Rack.flushed (reason : FlushReason) (travel : Word32) (required : Four Nat) (doseRequired : Nat)
    (r : Rack) : Rack :=
  if r.exited then r
  else
    Rack.exit { r with flush := some reason, hold := some (r.hold.getD .byFlush) } travel required
      doseRequired

/-! ### Admission -/

/-- A newly admitted record (R65). -/
def Rack.fresh (tag : Nat) (travel : Word32) (mask : ZoneSet) : Rack :=
  { tag := tag, entryStamp := some travel, exitPosition := none, mask := mask,
    contact := Four.fill 0, dose := 0, hold := none, dwellExpired := false, trackLost := false,
    exited := false, carried := false, flush := none, links := [], linksMore := false,
    outcome := none }

/-- The next rack tag after one: from 65535 to 1 (R64). -/
def tagAfter (tag : Nat) : Nat := if 65535 ≤ tag then 1 else tag + 1

/-- The pitch rule (R65). -/
def pitchAllows (travel : Word32) (last : Option Word32) (minPitch : Nat) : Bool :=
  match last with
  | none => true
  | some t => minPitch ≤ travelled travel t

/-- TRACK_LOST on a record that is not EXITED (R66, R79). -/
def Rack.lose (r : Rack) : Rack := if r.exited then r else { r with trackLost := true }

/-- What an entry event does to the Rack Tracker (R65, R66), and whether it admits a rack (and so
triggers a checkpoint). -/
def Rt.entry (rt : Rt) (travel : Word32) (minPitch : Nat) (mask : ZoneSet) : Rt × Bool :=
  if pitchAllows travel rt.lastStamp minPitch then
    if rt.queue.length < transitPlaces then
      ({ queue := rt.queue ++ [Rack.fresh rt.nextTag travel mask], nextTag := tagAfter rt.nextTag,
         lastStamp := some travel, admitted := rt.admitted + 1 }, true)
    else ({ rt with queue := rt.queue.map Rack.lose, lastStamp := some travel }, false)
  else (rt, false)

/-! ### Accrual -/

/-- One quarter-second of contact in zone z for a record in the zone (R68). -/
def Rack.addContact (z : Zone) (slot : SlotState) (travel : Word32) (r : Rack) : Rack :=
  if r.inZone slot travel then
    { r with contact := r.contact.set z (min (r.contact.get z + 1) contactLimit) }
  else r

/-- An increment for a record in the zone (R91). -/
def Rack.addDose (slot : SlotState) (travel : Word32) (increment : Nat) (r : Rack) : Rack :=
  if r.inZone slot travel then { r with dose := min (r.dose + increment) doseLimit } else r

/-- A record is a dwell candidate (R93). -/
def Rack.isCandidate (slot : SlotState) (travel : Word32) (l : Limits) (r : Rack) : Bool :=
  match slot with
  | .online rec =>
    r.inZone slot travel && ((rec.spanEnd : Int) - l.dwellMargin ≤ r.position travel)
      && r.dose < l.doseRequired && !r.dwellExpired
  | _ => false

/-- The tags of the dwell candidates (R93). -/
def candidates (slot : SlotState) (travel : Word32) (l : Limits) (q : List Rack) : List Nat :=
  (q.filter (Rack.isCandidate slot travel l)).map (·.tag)

/-- DWELL_EXPIRED on a record whose tag is in the candidate set, not EXITED (R95). -/
def Rack.expireDwell (tags : List Nat) (r : Rack) : Rack :=
  if !r.exited && tags.contains r.tag then { r with dwellExpired := true } else r

/-! ### Links and HOLD -/

/-- A record linked to a case (R77). -/
def Rack.link (id : Nat) (r : Rack) : Rack :=
  if r.exited || r.links.contains id then r
  else if r.links.length < 4 then { r with links := r.links ++ [id] }
  else { r with linksMore := true }

/-- Link zone (R77). -/
def Rt.linkZone (slot : SlotState) (travel : Word32) (id : Nat) (rt : Rt) : Rt :=
  { rt with queue := rt.queue.map fun r => if r.inZone slot travel then r.link id else r }

/-- Link all (R77). -/
def Rt.linkAll (id : Nat) (rt : Rt) : Rt := { rt with queue := rt.queue.map (Rack.link id) }

/-- HOLD with the cause CASE on a record linked to a case gone MANUAL, or with LINKS_MORE (R78). -/
def Rack.holdFor (id : Nat) (r : Rack) : Rack :=
  if !r.exited && (r.links.contains id || r.linksMore) then
    { r with hold := some (r.hold.getD .byCase) }
  else r

/-- The MANUAL report (R78). -/
def Rt.manual (id : Nat) (rt : Rt) : Rt := { rt with queue := rt.queue.map (Rack.holdFor id) }

/-- The travel-lost report (R79). -/
def Rt.travelLost (rt : Rt) : Rt := { rt with queue := rt.queue.map Rack.lose }

/-! ### Snapshots and carried records -/

/-- A record as a snapshot holds it (R160). -/
def Rack.entry (r : Rack) (travel : Word32) : RackEntry :=
  { tag := r.tag, position := r.position travel, hold := r.hold, dwellExpired := r.dwellExpired,
    trackLost := r.trackLost, flush := r.flush, dose := r.dose, contact := r.contact, mask := r.mask }

/-- A carried record from a snapshot entry (R76). -/
def RackEntry.carry (e : RackEntry) : Rack :=
  let r : Rack :=
    { tag := e.tag, entryStamp := none, exitPosition := some e.position, mask := e.mask,
      contact := e.contact, dose := e.dose, hold := e.hold, dwellExpired := e.dwellExpired,
      trackLost := e.trackLost, exited := true, carried := true, flush := e.flush, links := [],
      linksMore := false, outcome := none }
  { r with outcome := some r.judgeCarried }

/-- A record that keeps a MODE request for RUN out (R17): CARRIED, or with a flush reason. -/
def Rack.keepsRunOut (r : Rack) : Bool := r.carried || r.flush.isSome

/-- A record that a MODE request for STANDBY finds present (R19): any without a flush reason (DEDUCED,
unsafe: notes/assumptions/25.md). -/
def Rack.keepsStandbyOut (r : Rack) : Bool := r.flush.isNone

end Sys2Proof.Machine
end

