-- ==== Sys2Proof/Machine/Cases.lean ====
section
/-! DEFINITION. What a case is, by itself: its key and severity (R120, R124), the claims of its state and
step (R135 to R157, gathered in table 8.10), what of them stands on the lines and what is held back
(R58, R125), and the records its procedure moves through. -/

namespace Sys2Proof.Machine

/-- The key of a case or of a detection (R101, R120). -/
inductive Key where
  | leak
  | filter (zone : Zone)
  | heaterOpen (zone : Zone)
  | heaterStuck (zone : Zone)
  | overtemp (zone : Zone)
  | sensor (zone : Zone) (quantity : Quantity)
  | travel
deriving DecidableEq, Repr

/-- The key of a case (R120). -/
def Proc.key : Proc → Key
  | .leak _ _ _ _ => .leak
  | .filter z _ _ _ => .filter z
  | .heaterOpen z _ _ _ _ => .heaterOpen z
  | .heaterStuck z _ _ => .heaterStuck z
  | .overtemp z _ => .overtemp z
  | .sensor z q => .sensor z q
  | .travel => .travel

/-- The key of a detection (R101). -/
def Detection.key : Detection → Key
  | .leakPan => .leak
  | .leakTank _ _ _ => .leak
  | .filter z _ => .filter z
  | .heaterOpen z _ _ => .heaterOpen z
  | .heaterStuck z _ => .heaterStuck z
  | .overtemp z _ => .overtemp z
  | .sensor z q => .sensor z q
  | .travel => .travel

/-- The kind of a case (R118). -/
def Proc.kind : Proc → CaseKind
  | .leak _ _ _ _ => .leak
  | .filter _ _ _ _ => .filter
  | .heaterOpen _ _ _ _ _ => .heaterOpen
  | .heaterStuck _ _ _ => .heaterStuck
  | .overtemp _ _ => .overtemp
  | .sensor _ _ => .sensor
  | .travel => .sensor

/-- The zone of a case (R118): none for a LEAK opened from the pan and for a TRAVEL case. -/
def Proc.zone : Proc → Option Zone
  | .leak .pan _ _ _ => none
  | .leak (.tank z) _ _ _ => some z
  | .filter z _ _ _ => some z
  | .heaterOpen z _ _ _ _ => some z
  | .heaterStuck z _ _ => some z
  | .overtemp z _ => some z
  | .sensor z _ => some z
  | .travel => none

/-- The severity of a kind, 1 highest; SENSOR has none (table 7.3). -/
def CaseKind.severity : CaseKind → Option Nat
  | .heaterStuck => some 1
  | .leak => some 2
  | .overtemp => some 3
  | .filter => some 4
  | .heaterOpen => some 5
  | .sensor => none

/-- The states that count toward suspending less severe cases (R119). -/
def CaseState.suspends : CaseState → Bool
  | .isolating => true
  | .acting => true
  | _ => false

/-- A case stands outside RESOLVED with a key (R101, R120). -/
def Case.takes (k : Key) (c : Case) : Bool := !c.isResolved && c.proc.key = k

/-- Case `o` is of strictly higher severity than `c` and in a state that suspends (R124). -/
def Case.outranks (o c : Case) : Bool :=
  o.state.suspends &&
    match o.proc.kind.severity, c.proc.kind.severity with
    | some a, some b => a < b
    | _, _ => false

/-- The condition under which a case is suspended (R124). -/
def Case.heldBack (mode : Mode) (table : List Case) (c : Case) : Bool :=
  !c.isResolved && (mode = .halt || table.any fun o => o.id != c.id && o.outranks c)

/-! ### Claims -/

/-- The members of a set of zones, in order. -/
def zonesIn (v : ZoneSet) : List Zone := Four.indices.filter fun z => v.get z

/-- The nine BLOCKs of a LEAK case (R135). -/
def leakBlocks : ClaimSet :=
  blockOn (Four.indices.map LineId.fill ++ Four.indices.map LineId.pump ++ [.conveyor])

/-- The drain claims of the leaking tanks (R138). -/
def drainClaims (leaking : ZoneSet) : ClaimSet :=
  forceOn ((zonesIn leaking).map LineId.drain)
    ++ blockOn ((zonesIn leaking).map LineId.heatA ++ (zonesIn leaking).map LineId.heatB)

/-- The BLOCKs of a FILTER case in ACTING (R144). -/
def filterBlocks (z : Zone) : ClaimSet := blockOn [.conveyor, .pump z, .heatA z, .heatB z]

/-- The claims a case would hold were it not suspended, by kind, state and step (table 8.10). -/
def Case.wanted (c : Case) : ClaimSet :=
  match c.proc, c.state with
  | .leak _ _ _ _, .isolating => leakBlocks
  | .leak _ leaking _ _, .acting => leakBlocks ++ drainClaims leaking
  | .leak _ _ _ _, .verifying => blockOn (Four.indices.map LineId.fill)
  | .leak _ _ _ _, .manual => blockOn (Four.indices.map LineId.fill ++ [.conveyor])
  | .filter z _ _ _, .acting =>
    filterBlocks z ++ forceOn [if c.step = .refill then .fill z else .drain z]
  | .filter _ _ _ _, .verifying => blockOn [.conveyor]
  | .filter z _ _ _, .manual => blockOn [.conveyor, .pump z]
  | .heaterOpen z _ _ _ _, .isolating => blockOn [if c.step = .testB then .heatA z else .heatB z]
  | .heaterOpen z _ a b _, .degraded =>
    blockOn ((if a then [.heatA z] else []) ++ (if b then [.heatB z] else []))
  | .heaterStuck z _ _, .isolating => blockOn [.main, .heatA z, .heatB z]
  | .heaterStuck z _ _, .manual => blockOn [.main, .heatA z, .heatB z]
  | .overtemp z _, .acting => blockOn [.heatA z, .heatB z]
  | .overtemp z _, .manual => blockOn [.heatA z, .heatB z, .main]
  | _, _ => []

/-- The claims of a set that are of a kind. -/
def ClaimSet.ofKind (cs : ClaimSet) (k : ClaimKind) : ClaimSet := cs.filter fun c => c.2 = k

/-- The claims the case has on the lines: all, or the BLOCKs alone while it is suspended (R58, R125;
DEDUCED, safe: notes/assumptions/12.md). -/
def Case.posted (c : Case) : ClaimSet :=
  if c.suspended then ClaimSet.ofKind c.wanted .block else c.wanted

/-- The claims the case holds back: its FORCEs while it is suspended (R58, R125). -/
def Case.held (c : Case) : ClaimSet :=
  if c.suspended then ClaimSet.ofKind c.wanted .force else []

/-- Whether the case has BLOCK on PUMP_z on the line. -/
def Case.blocksPump (c : Case) (z : Zone) : Bool :=
  c.posted.contains (LineId.pump z, ClaimKind.block)

/-- Whether a case is a LEAK case in ISOLATING or ACTING, whose entry links every rack (R127). -/
def Case.leakHandling (c : Case) : Bool := c.proc.kind = .leak && c.state.suspends

/-! ### The records of a procedure -/

/-- A case in a new state and step, with the timer and count the step names (R134). -/
def Case.goto (c : Case) (proc : Proc) (state : CaseState) (step : Step) (timer counter : Option Nat) :
    Case :=
  { c with proc := proc, state := state, step := step, timer := timer, counter := counter }

/-- A case RESOLVED: no step, no timer, no count, and not suspended (R119, R124, R128). -/
def Case.resolve (c : Case) : Case :=
  { c with state := .resolved, step := .none, timer := none, counter := none, suspended := false }

/-- The reference levels of the configured tanks with a VALID level (R135). -/
def leakReferences (zones : Four ZoneSlot) (chs : Four (Quad Channel)) : Four (Option Nat) :=
  Four.ofFn fun z =>
    match (zones.get z).slot.record with
    | none => none
    | some _ => (chs.get z).level.reading.trusted

/-- The configured tanks without a VALID level, unassessed (R135). -/
def leakUnassessed (zones : Four ZoneSlot) (chs : Four (Quad Channel)) : ZoneSet :=
  Four.ofFn fun z =>
    (zones.get z).slot.record.isSome && (chs.get z).level.reading.trusted.isNone

/-- A set of zones with one more member. -/
def zoneAdd (v : ZoneSet) (z : Zone) : ZoneSet := v.set z true

/-- A set of zones without one member. -/
def zoneRemove (v : ZoneSet) (z : Zone) : ZoneSet := v.set z false

/-- The set with one member. -/
def zoneOnly (z : Zone) : ZoneSet := zoneAdd ZoneSet.none z

/-- No reference levels. -/
def noReferences : Four (Option Nat) := Four.fill none

/-- A LEAK case in ISOLATING, its localisation started afresh (R135, R143). -/
def Case.localise (c : Case) (source : LeakSource) (zones : Four ZoneSlot) (chs : Four (Quad Channel))
    (l : Limits) : Case :=
  c.goto (.leak source ZoneSet.none (leakUnassessed zones chs) (leakReferences zones chs)) .isolating
    .none (some (seconds l.localiseTime)) none

/-- A LEAK case in ACTING, step DRAIN, with its drain timer started (R138). -/
def Case.drainTanks (c : Case) (source : LeakSource) (leaking unassessed : ZoneSet) (l : Limits) :
    Case :=
  c.goto (.leak source leaking unassessed noReferences) .acting .drain
    (some (seconds l.drainTimeout)) none

/-- A LEAK case in MANUAL (R139). -/
def Case.leakManual (c : Case) (source : LeakSource) (leaking unassessed : ZoneSet) : Case :=
  c.goto (.leak source leaking unassessed noReferences) .manual .none none none

/-- A LEAK case in VERIFYING (R140). -/
def Case.leakVerify (c : Case) (source : LeakSource) (unassessed : ZoneSet) (l : Limits) : Case :=
  c.goto (.leak source ZoneSet.none unassessed noReferences) .verifying .none
    (some (seconds l.leakVerify)) none

/-- A FILTER case in ACTING, step PURGE, with an attempt (R144, R147). -/
def Case.purge (c : Case) (z : Zone) (pressure attempt : Nat) (l : Limits) : Case :=
  c.goto (.filter z pressure attempt 0) .acting .purge (some (seconds l.purgeTime)) none

/-- A FILTER case in step REFILL (R144). -/
def Case.refill (c : Case) (z : Zone) (pressure attempt : Nat) (l : Limits) : Case :=
  c.goto (.filter z pressure attempt 0) .acting .refill (some (seconds l.refillTimeout)) none

/-- A FILTER case in VERIFYING, counting toward filter_verify × 4 samples (R145), a number fixed here
(DEDUCED, unsafe: notes/assumptions/13.md). -/
def Case.filterVerify (c : Case) (z : Zone) (pressure attempt : Nat) (l : Limits) : Case :=
  c.goto (.filter z pressure attempt (l.filterVerify * 4)) .verifying .none none (some 0)

/-- A FILTER case after a failed attempt (R147): purging again, or MANUAL at max_attempts. -/
def Case.failAttempt (c : Case) (z : Zone) (pressure attempt : Nat) (l : Limits) : Case :=
  if attempt + 1 < l.maxAttempts then c.purge z pressure (attempt + 1) l
  else c.goto (.filter z pressure (attempt + 1) 0) .manual .none none none

/-- A HEATER_OPEN case in a test step (R149, R150). -/
def Case.testElement (c : Case) (z : Zone) (k : Nat) (openA openB : Bool) (step : Step) : Case :=
  c.goto (.heaterOpen z k openA openB 0) .isolating step none (some 0)

/-- A HEATER_OPEN case at the end of TEST_B (R151). -/
def Case.endTests (c : Case) (z : Zone) (k : Nat) (openA openB : Bool) : Case :=
  if openA || openB then c.goto (.heaterOpen z k openA openB 0) .degraded .none none none
  else Case.resolve { c with proc := .heaterOpen z k openA openB 0 }

/-- The case a detection opens (R121 step 2): the opening record of each kind, not suspended and with
nothing announced yet. `lines` are the lines as the drives stand at the opening (R149). R135 gives a case of
source TANK no unassessed set; it opens empty (DESIGN CHOICE, unsafe: notes/assumptions/32.md). -/
def openingCase (d : Detection) (id : Nat) (uptime : Word32) (lines : Lines) (pmc : Pmc) (smp : Smp) :
    Case :=
  let bare : Case :=
    { id := id, proc := .travel, state := .degraded, step := .none, timer := none, counter := none,
      recurrence := 0, suspended := false, announce := false, openedAt := uptime }
  match d with
  | .leakPan => bare.localise .pan pmc.zones smp.channels pmc.limits
  | .leakTank z _ _ => bare.drainTanks (.tank z) (zoneOnly z) ZoneSet.none pmc.limits
  | .filter z pressure => bare.purge z pressure 0 pmc.limits
  | .heaterOpen z k _ =>
    if k = 1 && lines.driven z = 1 then
      bare.goto (.heaterOpen z k (lines.drivenA z) (lines.drivenB z) 0) .degraded .none none none
    else bare.testElement z k false false .testA
  | .heaterStuck z current => bare.goto (.heaterStuck z current 0) .isolating .none none (some 0)
  | .overtemp z temperature => bare.goto (.overtemp z temperature) .acting .none none (some 0)
  | .sensor z q => bare.goto (.sensor z q) .degraded .none none (some 0)
  | .travel => bare

/-- The zones whose marker the case adds its id to when it opens, or enters a state (R138, R142, R147):
the leaking tanks in ACTING, and in MANUAL the zone of a FILTER case. -/
def Case.marks (c : Case) : List Zone :=
  match c.proc, c.state with
  | .leak _ leaking _ _, .acting => zonesIn leaking
  | .leak _ leaking _ _, .manual => zonesIn leaking
  | .filter z _ _ _, .manual => [z]
  | _, _ => []

/-- The next case id after one: from 255 to 1 (R121). -/
def caseIdAfter (id : Nat) : Nat := if 255 ≤ id then 1 else id + 1

/-- The id a new case takes: the first from `id` on that no case in the table carries (R121). -/
def freeCaseId (table : List Case) : Nat → Nat → Nat
  | 0, id => id
  | fuel + 1, id =>
    if table.any (fun c => c.id = id) then freeCaseId table fuel (caseIdAfter id) else id

/-- The case with an id. -/
def findCase (table : List Case) (id : Nat) : Option Case := table.find? fun c => c.id = id

/-- The table with the record of an id replaced. -/
def replaceCase (table : List Case) (c : Case) : List Case :=
  table.map fun o => if o.id = c.id then c else o

/-- The summary of a case (R160). -/
def Case.summary (c : Case) : CaseSummary :=
  { id := c.id, kind := c.proc.kind, zone := c.proc.zone, state := c.state }

/-- The cases the table holds at most (R118). -/
def casePlaces : Nat := 8

end Sys2Proof.Machine
end

