-- ==== Sys2Proof/Machine/Frame.lean ====
section
/-! DEFINITION. Characters (R173), the link frame (R176, R188) and its check value (R179). -/

namespace Sys2Proof.Machine

/-! ### Characters -/

/-- The parity bit that gives a character even parity (R173). -/
def parityBit (b : Byte) : Bool := (List.range 8).foldl (fun p i => p ^^ b.getLsbD i) false

/-- The byte a character carries, with its error mark (R173): a parity bit that does not give even parity,
or a stop bit read low. -/
def receivedByte (data : Byte) (ending : CharacterEnd) : RxByte :=
  { byte := data, errorMark := ending.parity != parityBit data || !ending.stop }

/-- The eleven levels of a character on TX (R173): start bit, data bits least significant first, even parity
bit, stop bit. -/
def characterLevels (b : Byte) : List Bool :=
  false :: (List.range 8).map b.getLsbD ++ [parityBit b, true]

/-- The levels TX goes through up to the next boundary, one for each bit time (R173, R181): at rest high; the
characters of a frame back to back. -/
def Tx.levels : Tx → List Bool
  | .idle => [true]
  | .sending _ bytes => bytes.flatMap characterLevels

/-! ### Frames and their check value -/

/-- One bit of the check value (R179): the top bit and the data bit are compared, the register is
shifted left, and combined with 0x1021 when they differed. -/
def crcBit (reg : BitVec 16) (bit : Bool) : BitVec 16 :=
  let shifted := reg <<< 1
  if reg.msb = bit then shifted else shifted ^^^ 0x1021#16

/-- One byte of the check value, most significant bit first (R179). -/
def crcByte (reg : BitVec 16) (b : Byte) : BitVec 16 :=
  [7, 6, 5, 4, 3, 2, 1, 0].foldl (fun r i => crcBit r (b.getLsbD i)) reg

/-- The check value over a list of bytes (R179): starts at 0xFFFF, no final combination. -/
def crc16 (bytes : List Byte) : BitVec 16 := bytes.foldl crcByte 0xFFFF#16

/-- The SYNC byte (R188). -/
def syncByte : Byte := 0xC3

/-- A frame (R188): SYNC, LEN, KIND, TAG, payload, CHECK high byte first. -/
def frame (kind tag : Byte) (payload : List Byte) : List Byte :=
  let covered := byte (payload.length + 2) :: kind :: tag :: payload
  syncByte :: covered ++ be16 (crc16 covered).toNat

/-- The bytes the check value covers, of a whole frame: LEN to the end of the payload (R179). -/
def frameCovered (bytes : List Byte) : List Byte := (bytes.drop 1).take (bytes.length - 3)

/-- The CHECK field of a whole frame, high byte first (R179). -/
def frameCheck (bytes : List Byte) : List Byte := bytes.drop (bytes.length - 2)

/-- The check value of a whole frame agrees with its CHECK field (R176). -/
def frameChecks (bytes : List Byte) : Bool :=
  be16 (crc16 (frameCovered bytes)).toNat = frameCheck bytes

/-- A request as a checked frame carries it (R180, R188). -/
structure Request where
  kind : Byte
  tag : Byte
  payload : List Byte
deriving DecidableEq, Repr

/-- The request of a whole frame (R188): KIND, TAG and the payload of LEN - 2 bytes. -/
def Request.ofFrame (bytes : List Byte) : Request :=
  { kind := bytes.getD 2 0, tag := bytes.getD 3 0, payload := (bytes.drop 4).take (bytes.length - 6) }

end Sys2Proof.Machine
end

