-- ==== Sys2Proof/Machine/Link.lean ====
section
/-! DEFINITION. The Link Controller: the inbound buffer and RDY (R175), the frame assembler (R176 to
R178), the head request (R180), the payloads of the notices (R196 to R198) and the transmit arbiter
(R181). -/

namespace Sys2Proof.Machine

/-! ### Receive side -/

/-- What a hunt through bytes leaves: the frames it checked, the frame in assembly (none while HUNTING)
and how many discards it counted (R177). -/
structure Hunt where
  checked : List (List Byte)
  assembly : List RxByte
  errors : Nat
deriving DecidableEq, Repr

/-- What the assembler makes of a frame that starts at a SYNC byte, from the SYNC byte on (R176): still
in assembly; discarded for its LEN; complete and to be discarded, counted; or checked. -/
inductive Verdict where
  | incomplete
  | badLen
  | badFrame
  | good (length : Nat)
deriving DecidableEq, Repr

/-- The judgement of a frame from its SYNC byte on (R176); `bad` is a bad mark put on it by an overflow. -/
def judgeFrame (bad : Bool) (bytes : List RxByte) : Verdict :=
  match bytes with
  | _ :: len :: _ =>
    let n := len.byte.toNat
    if n < 2 || 250 < n then .badLen
    else if bytes.length < n + 4 then .incomplete
    else
      let f := bytes.take (n + 4)
      if bad || f.any (·.errorMark) then .badFrame
      else if frameChecks (f.map (·.byte)) then .good (n + 4)
      else .badFrame
  | _ => .incomplete

/-- A byte that starts a frame (R176): 0xC3 without an error mark. -/
def RxByte.isSync (b : RxByte) : Bool := b.byte = syncByte && !b.errorMark

/-- The hunt (R176, R177): bytes are passed over up to a SYNC; from there a frame is assembled; a frame
discarded loses its SYNC and its remaining bytes are hunted again; a checked frame is kept, and the hunt
goes on after it. `skip` counts the bytes of a checked frame still to pass. `gapOver` says that the gap
of every byte has ended, so that a frame these bytes leave incomplete is discarded at once (R178).
`bad` is the bad mark an overflow put on the frame that starts at the first byte. -/
def hunt (gapOver : Bool) : Bool → Nat → List RxByte → Hunt
  | _, _, [] => { checked := [], assembly := [], errors := 0 }
  | bad, skip + 1, _ :: bs => hunt gapOver bad skip bs
  | bad, 0, b :: bs =>
    if b.isSync then
      match judgeFrame bad (b :: bs) with
      | .incomplete =>
        if gapOver then hunt gapOver false 0 bs
        else { checked := [], assembly := b :: bs, errors := 0 }
      | .badLen => hunt gapOver false 0 bs
      | .badFrame =>
        let h := hunt gapOver false 0 bs
        { h with errors := h.errors + 1 }
      | .good n =>
        let h := hunt gapOver false (n - 1) bs
        { h with checked := ((b :: bs).take n).map (·.byte) :: h.checked }
    else hunt gapOver false 0 bs

/-- The places of the inbound buffer (R175). -/
def inboundPlaces : Nat := 256

/-- The bytes the inbound buffer holds (R175). -/
def Rx.count (rx : Rx) : Nat := (rx.checked.map List.length).sum + rx.assembly.length

/-- RDY when a byte has arrived and joined the buffer (R175). -/
def rdyAfterArrival (rdy : Bool) (count : Nat) : Bool := if 192 ≤ count then false else rdy

/-- RDY when bytes have left the buffer (R175). -/
def rdyAfterLeaving (rdy : Bool) (count : Nat) : Bool := if count ≤ 64 then true else rdy

/-- The link error count with more discards, saturating (R177). -/
def addLinkErrors (count more : Nat) : Nat := min (count + more) 65535

/-- The time a frame in assembly waits for its next byte, ms (R178). -/
def frameGap : Nat := 50

/-- The receive side after a hunt through `bytes`, which stand in the buffer behind the checked frames. -/
def Rx.afterHunt (rx : Rx) (rdy : Bool) (bytes : List RxByte) (gap : Nat) (h : Hunt) : Rx :=
  let after : Rx :=
    { rx with checked := rx.checked ++ h.checked, assembly := h.assembly,
              overflow := rx.overflow && h.assembly.length = bytes.length, gap := gap }
  let total := (rx.checked.map List.length).sum + bytes.length
  { after with rdy := if after.count < total then rdyAfterLeaving rdy after.count else rdy }

/-- A received character (R175, R176): lost when the buffer is full, putting the bad mark on a frame in
assembly; passed over in HUNTING unless it is a SYNC; otherwise taken by the frame in assembly. The
link errors it makes are counted beside. -/
def Rx.take (rx : Rx) (b : RxByte) : Rx × Nat :=
  if inboundPlaces ≤ rx.count then
    ({ rx with overflow := rx.overflow || !rx.assembly.isEmpty }, 0)
  else if rx.assembly.isEmpty && !b.isSync then (rx, 0)
  else
    let bytes := rx.assembly ++ [b]
    let h := hunt false rx.overflow 0 bytes
    (rx.afterHunt (rdyAfterArrival rx.rdy (rx.count + 1)) bytes frameGap h, h.errors)

/-- The end of a gap (R178): the frame in assembly is discarded and its remaining bytes are hunted, and a
frame they leave incomplete is discarded at once, while one they hold whole is still judged (DEDUCED, unsafe:
notes/assumptions/20.md). -/
def Rx.gapOver (rx : Rx) : Rx × Nat :=
  if rx.assembly.isEmpty then (rx, 0)
  else
    let h := hunt true rx.overflow 0 rx.assembly
    (rx.afterHunt rx.rdy rx.assembly 0 h, h.errors)

/-- The request of the oldest checked frame, which stands at the head of the buffer (R180). -/
def Rx.headRequest (rx : Rx) : Option Request := rx.checked.head?.map Request.ofFrame

/-- The bytes of the oldest checked frame leave the buffer (R175, R180). -/
def Rx.dropHead (rx : Rx) : Rx :=
  let after : Rx := { rx with checked := rx.checked.tail }
  { after with rdy := rdyAfterLeaving rx.rdy after.count }

/-- The receive side after a break is recognised (R174, R186). -/
def Rx.broken : Rx :=
  { checked := [], assembly := [], overflow := false, gap := 0, rdy := true, inBreak := true }

/-! ### Notices as frames -/

/-- The detail of a case as four bytes (R196). -/
def Proc.detail : Proc → List Byte
  | .leak .pan leaking unassessed _ => [1, setByte leaking, setByte unassessed, 0]
  | .leak (.tank _) leaking unassessed _ => [2, setByte leaking, setByte unassessed, 0]
  | .heaterOpen _ k a b _ => [byte (a.toNat + 2 * b.toNat), byte k, 0, 0]
  | .filter _ pressure _ _ => be16 pressure ++ [0, 0]
  | .heaterStuck _ current _ => be16 current ++ [0, 0]
  | .overtemp _ temperature => be16 temperature ++ [0, 0]
  | .sensor _ _ => [0, 0, 0, 0]
  | .travel => [0, 0, 0, 0]

/-- The quantity code of a case (R189): 0 for kinds other than SENSOR. -/
def Proc.quantityByte : Proc → Byte
  | .sensor _ q => byte (quantityCode q)
  | .travel => 5
  | _ => 0

/-- The attempt of a case (R196): 0xFF for kinds other than FILTER. -/
def Proc.attemptByte : Proc → Byte
  | .filter _ _ attempt _ => byte attempt
  | _ => 0xFF

/-- The payload of a CASE notice (R196). -/
def Case.noticePayload (c : Case) : List Byte :=
  [byte c.id, byte c.proc.kind.code, zoneByte c.proc.zone, c.proc.quantityByte, byte c.state.code,
   byte c.step.code, c.proc.attemptByte, byte c.recurrence, flagByte c.suspended]
    ++ c.proc.detail ++ be32 c.openedAt.toNat

/-- An abandoned case of the restore notice (R198). -/
def CaseSummary.bytes (c : CaseSummary) : List Byte :=
  [byte c.id, byte c.kind.code, zoneByte c.zone, byte c.state.code]

/-- A snapshot's mode: 0xFF when no slot was chosen (R198). -/
def modeByte : Option Mode → Byte
  | none => 0xFF
  | some m => byte m.code

/-- The payload of a notice of the event queue (R196, R198). -/
def EventNotice.payload : EventNotice → List Byte
  | .ofCase c => c.noticePayload
  | .restored i =>
    byte 1 :: be32 (i.generation.getD 0)
      ++ [byte i.carried, modeByte i.mode, setByte i.onlineMask, byte i.abandoned.length]
      ++ (i.abandoned.map CaseSummary.bytes).flatten
  | .mode m h => [2, byte m.code, byte h.code]
  | .checkpoint st last bad => byte 3 :: byte st.code :: be32 (last.getD 0) ++ [setByte bad]

/-- The kind of a notice of the event queue (R188). -/
def EventNotice.kind : EventNotice → Byte
  | .ofCase _ => 0x60
  | _ => 0x63

/-- Linked case ids in four bytes, unused ones 0 (R194, R197). -/
def linkBytes (links : List Nat) : List Byte :=
  [byte (links.getD 0 0), byte (links.getD 1 0), byte (links.getD 2 0), byte (links.getD 3 0)]

/-- The payload of an OUTCOME notice (R197). -/
def OutcomeNotice.payload (o : OutcomeNotice) : List Byte :=
  be16 o.tag
    ++ [byte o.outcome.disposition.code, o.outcome.reasons.byte, setByte o.outcome.shortZones,
        setByte o.mask]
    ++ (o.contact.toList.map be16).flatten ++ be32 o.dose ++ be16 o.exitPosition
    ++ [byte o.links.length] ++ linkBytes o.links ++ [flagByte o.linksMore]

/-- The payload of a TRACE notice, with its gap marker (R184, R198). -/
def TraceNotice.payload (t : TraceNotice) (gap : Bool) : List Byte :=
  [byte t.zone.val, flagByte gap]
    ++ (t.readings.toList.map fun r => be16 r.reported ++ [byte r.validityCode]).flatten

/-- The arbiter's choice and the frame it starts (R181): the reply slot, then the heads of the event, the
outcome and the trace queue; none where nothing waits. -/
def Lk.choose (l : Lk) : Option (TxSource × List Byte) :=
  match l.reply, l.events, l.outcomes, l.traces with
  | some r, _, _, _ => some (.reply, frame r.kind r.tag r.payload)
  | none, e :: _, _, _ => some (.event, frame e.kind 0 e.payload)
  | none, [], o :: _, _ => some (.outcome, frame 0x61 0 o.payload)
  | none, [], [], t :: _ => some (.trace, frame 0x62 0 (t.payload l.traceGap))
  | none, [], [], [] => none

/-- A frame of this source is being sent. -/
def Lk.isSending (l : Lk) (source : TxSource) : Bool :=
  match l.tx with
  | .sending src _ => src = source
  | .idle => false

/-- A TRACE notice for a zone sample (R184): queued if there is room, else dropped with the gap flag. -/
def Lk.trace (l : Lk) (n : TraceNotice) : Lk :=
  if l.traces.length < queuePlaces then { l with traces := l.traces ++ [n] }
  else { l with traceGap := true }

end Sys2Proof.Machine
end

