-- ==== Sys2Proof/Machine/Sampler.lean ====
section
/-! DEFINITION. The Input Sampler: calibration (R30, R31), validity (R32 to R35) and debouncing (R37). -/

namespace Sys2Proof.Machine

/-- The upper end of a quantity's range (R31); the lower end is 0. -/
def quantityUpper : Quantity → Nat
  | .temp => 1200
  | .level => 1000
  | .pressure => 2000
  | .current => 500

/-- A converted value clamped to the range of the quantity (R31). -/
def clampReading (q : Quantity) (v : Int) : Nat := min v.toNat (quantityUpper q)

/-- The converted value on the line between the two points; the division truncates toward zero (R31). -/
def Calibration.convert (c : Calibration) (code : Nat) : Int :=
  c.engLo + Int.tdiv (((code : Int) - c.rawLo) * (c.engHi - c.engLo)) ((c.rawHi : Int) - c.rawLo)

/-- The guard band on each side of the calibration points, in counts (R30). -/
def guardBand : Nat := 40

/-- The value of a code, none for an invalid sample (R30), before the clamp. -/
def Calibration.classify (c : Calibration) (code : Nat) : Option Int :=
  if code + guardBand < c.rawLo then none
  else if code < c.rawLo then some c.engLo
  else if code ≤ c.rawHi then some (c.convert code)
  else if code ≤ c.rawHi + guardBand then some c.engHi
  else none

/-- The validity after an invalid sample with the new run count (R33). -/
def Reading.afterInvalid (r : Reading) (runCount : Nat) : Reading :=
  match r.judged with
  | none => .unknown
  | some v => if runCount ≤ 3 then .stale v else .unknown

/-- The run of invalid samples that makes an event (R34). -/
def invalidRun : Nat := 4

/-- A channel record after one sample, and whether the sample marks an invalid-run event
(R32 to R35). -/
def Channel.sample (q : Quantity) (ch : Channel) (code : Nat) : Channel × Bool :=
  match ch.calibration with
  | none => (ch, false)
  | some c =>
    match c.classify code with
    | some v => ({ ch with reading := .valid (clampReading q v), runCount := 0 }, false)
    | none =>
      let n := min (ch.runCount + 1) 255
      ({ ch with reading := ch.reading.afterInvalid n, runCount := n }, n = invalidRun)

/-- The four channels of a zone after its conversion (R27), with the quantities whose channels marked an
invalid-run event, in channel order. -/
def sampleChannels (chs : Quad Channel) (codes : Quad Nat) : Quad Channel × List Quantity :=
  ({ temp := (Channel.sample .temp chs.temp codes.temp).1
     level := (Channel.sample .level chs.level codes.level).1
     pressure := (Channel.sample .pressure chs.pressure codes.pressure).1
     current := (Channel.sample .current chs.current codes.current).1 },
   Quantity.all.filter fun q => (Channel.sample q (chs.get q) (codes.get q)).2)

/-- The readings a zone sample event carries (R27). -/
def readingsOf (chs : Quad Channel) : Quad Reading :=
  { temp := chs.temp.reading, level := chs.level.reading, pressure := chs.pressure.reading,
    current := chs.current.reading }

/-- A channel after CHAN_LOAD (R26): configured, UNKNOWN, no value, run count 0. -/
def Channel.loaded (c : Calibration) : Channel :=
  { calibration := some c, reading := .unknown, runCount := 0 }

/-- The debounced state after a raw sample (R37). -/
def debounce (state : Bool) (previous : Option Bool) (raw : Bool) : Bool :=
  if previous = some raw then raw else state

/-- The sample period in ms, none while no rounds are raised (R15, R28). -/
def samplePeriod (mode : Mode) (table : List Case) : Option Nat :=
  match mode with
  | .starting => none
  | .standby => if table.isEmpty then some 1000 else some 250
  | .prepare => some 250
  | .run => some 250
  | .halt => some 250

/-- The time in ms until the next round is due, none while no rounds are raised (R28). -/
def roundDueIn (mode : Mode) (table : List Case) (sinceRound : Option Nat) : Option Nat :=
  (samplePeriod mode table).map fun p =>
    match sinceRound with
    | none => 0
    | some t => p - t

end Sys2Proof.Machine
end

