-- ==== Sys2Proof/Machine/Store.lean ====
section
/-! DEFINITION. The Checkpoint Store: check values and slot validity (R159, R160), the choice of a target
(R163, R165), the restore scan (R168, R169), and what a reset does to a write in flight (R166). -/

namespace Sys2Proof.Machine

/-- The greatest generation a snapshot may carry (R159). -/
def lastGeneration : Nat := 4294967294

/-- A rack entry as the check value takes it, its items in the order of R160. -/
def RackEntry.bytes (e : RackEntry) : List Byte :=
  be16 e.tag ++ be16 e.position
    ++ [byte (e.hold.isSome.toNat + 2 * e.dwellExpired.toNat + 4 * e.trackLost.toNat),
        byte (holdCode e.hold), byte (flushCode e.flush)]
    ++ be32 e.dose ++ e.contact.toList.flatMap be16 ++ [setByte e.mask]

/-- The fields of a snapshot record before its check value, in the order of R160. The manual gives the record
no layout; the encoding of each item is that of R189 (DESIGN CHOICE, unsafe: notes/assumptions/19.md). -/
def Snapshot.bytes (s : Snapshot) : List Byte :=
  be32 s.generation ++ be16 s.nextTag
    ++ [byte s.nextCaseId, byte s.mode.code, setByte s.onlineMask, byte s.racks.length]
    ++ s.racks.flatMap RackEntry.bytes
    ++ byte s.cases.length :: s.cases.flatMap CaseSummary.bytes

/-- The check value of a snapshot (R159, R160): the CRC-16 of the link over every field before it. -/
def Snapshot.checkValue (s : Snapshot) : BitVec 16 := crc16 s.bytes

/-- A snapshot record with the check value it is programmed with (R160, R164). -/
def Snapshot.programmed (s : Snapshot) : SlotContents := .record s s.checkValue

/-- The snapshot a valid slot holds (R159): generation in range, and check value equal to the one computed
over the fields. -/
def SlotContents.valid : SlotContents → Option Snapshot
  | .record s check =>
    if 1 ≤ s.generation && s.generation ≤ lastGeneration && check = s.checkValue then some s else none
  | _ => none

/-- The slots in the order in which targets are tried after a slot, counting round; from slot 0 on where
there is none (R163). -/
def slotsAfter (current : Option (Fin 4)) : List (Fin 4) :=
  match current with
  | none => [0, 1, 2, 3]
  | some c => [c + 1, c + 2, c + 3, c]

/-- The first slot marked GOOD after a slot (R163, R165). -/
def targetAfter (current : Option (Fin 4)) (bad : ZoneSet) : Option (Fin 4) :=
  (slotsAfter current).find? fun i => !bad.get i

/-- The slot the restore scan selects (R168): of the valid ones the greatest generation, and of two with
the same generation the lower-numbered. -/
def restoreChoice (slots : Four SlotContents) : Option (Fin 4 × Snapshot) :=
  Four.indices.foldl
    (fun best i =>
      match (slots.get i).valid, best with
      | none, b => b
      | some s, none => some (i, s)
      | some s, some b => if b.2.generation < s.generation then some (i, s) else some b)
    none

/-- A snapshot written into a slot begins with the slot's erase (R164): what the slot held is gone. -/
def Ck.startErase (ck : Ck) (snapshot : Snapshot) (target : Fin 4) : Ck :=
  { ck with write := .busy .erasing snapshot target, slots := ck.slots.set target .torn }

/-- A write in flight is cut by a power, pin or restart reset (R166): its slot stays blank or partly
programmed, or fully programmed when the write was VERIFYING; the snapshot in flight and the pending flag
are lost. -/
def Ck.cut (ck : Ck) : Ck :=
  match ck.write with
  | .idle => { ck with pending := false }
  | .busy .verifying _ _ => { ck with write := .idle, pending := false }
  | .busy _ _ target =>
    { ck with write := .idle, pending := false, slots := ck.slots.set target .torn }

/-- The CK counters after the restore scan (R169). Where no slot was chosen R198 gives the notice's mode byte
and generation and no mask; the mask is then the empty set: DESIGN CHOICE, unsafe,
notes/assumptions/30.md. -/
def Ck.afterScan (ck : Ck) : Ck :=
  match restoreChoice ck.slots with
  | none =>
    { ck with current := none, nextGeneration := 1, lastWritten := none,
              restored := { generation := none, carried := 0, mode := none,
                            onlineMask := ZoneSet.none, abandoned := [] } }
  | some (i, s) =>
    { ck with current := some i, nextGeneration := s.generation + 1,
              lastWritten := some s.generation,
              state := if s.generation = lastGeneration then .exhausted else ck.state,
              restored := { generation := some s.generation, carried := s.racks.length,
                            mode := some s.mode, onlineMask := s.onlineMask,
                            abandoned := s.cases } }

/-- The Rack Tracker after the restore (R76, R84): the carried records in snapshot order, their number
admitted, and the snapshot's next tag. -/
def Rt.afterScan (choice : Option (Fin 4 × Snapshot)) : Rt :=
  match choice with
  | none => { queue := [], nextTag := 1, lastStamp := none, admitted := 0 }
  | some (_, s) =>
    { queue := s.racks.map RackEntry.carry, nextTag := s.nextTag, lastStamp := none,
      admitted := BitVec.ofNat 32 s.racks.length }

/-- The next case id after the restore (R133, R169). -/
def caseIdAfterScan (choice : Option (Fin 4 × Snapshot)) : Nat :=
  match choice with
  | none => 1
  | some (_, s) => s.nextCaseId

end Sys2Proof.Machine
end

