-- ==== Sys2Proof/Machine/Ops.lean ====
section
/-! DEFINITION. The operations that reach across blocks: claim sets with the drive events they make,
notices and announcements (R131, R182), suspension (R124, R125), zone markers (R3), changes of a case
(R134), openings (R121), deliveries (R123), mode changes (R22), drains and flushes (R73 to R75),
checkpoint writes (R162, R163). -/

namespace Sys2Proof.Machine

/-! ### Block updates -/

def State.setPower (s : State) (b : Power) : State := { s with power := b }
def State.setPmc (s : State) (b : Pmc) : State := { s with pmc := b }
def State.setSmp (s : State) (b : Smp) : State := { s with smp := b }
def State.setLg (s : State) (b : Lines) : State := { s with lg := b }
def State.setRt (s : State) (b : Rt) : State := { s with rt := b }
def State.setDu (s : State) (b : Dwell) : State := { s with du := b }
def State.setFd (s : State) (b : Fd) : State := { s with fd := b }
def State.setCm (s : State) (b : Cm) : State := { s with cm := b }
def State.setCk (s : State) (b : Ck) : State := { s with ck := b }
def State.setLk (s : State) (b : Lk) : State := { s with lk := b }

/-! ### Lines -/

/-- The Line Gate takes the sets that owners make at one event (R47), and the Fault Detectors take the
drive changes (R50). -/
def State.applySets (sets : List (Owner × ClaimSet)) (s : State) : State :=
  let lg := s.lg.applySets sets
  { s with lg := lg, fd := s.fd.drivesChanged s.lg lg s.pmc.limits }

/-- A request input takes a level (R45). -/
def State.request (id : LineId) (on : Bool) (s : State) : State :=
  let lg := s.lg.request id on
  { s with lg := lg, fd := s.fd.drivesChanged s.lg lg s.pmc.limits }

/-- A request input takes a level while the part takes no input: only the pin's level changes (R199). -/
def State.inputOnly (id : LineId) (on : Bool) (s : State) : State :=
  s.setLg (s.lg.set id { s.lg.get id with input := on })

/-! ### Checkpoint triggers -/

/-- A checkpoint trigger is raised (R162); it is taken when the event has been taken whole. -/
def State.trigger (s : State) : State := s.setCk { s.ck with trigger := true }

/-- The zones that are ONLINE. -/
def State.onlineMask (s : State) : ZoneSet := Four.ofFn fun z => (s.pmc.zones.get z).slot.isOnline

/-- The snapshot of the state as it stands (R160). -/
def State.snapshot (s : State) (generation : Nat) : Snapshot :=
  { generation := generation, nextTag := s.rt.nextTag, nextCaseId := s.cm.nextId, mode := s.pmc.mode,
    onlineMask := s.onlineMask, racks := s.rt.queue.map fun r => r.entry s.smp.travel,
    cases := s.cm.table.map Case.summary }

/-- A write starts (R163): snapshot, generation, target slot, ERASING. -/
def State.startWrite (s : State) : State :=
  match targetAfter s.ck.current s.ck.bad with
  | none => s
  | some t =>
    s.setCk
      (Ck.startErase { s.ck with nextGeneration := s.ck.nextGeneration + 1 }
        (s.snapshot s.ck.nextGeneration) t)

/-- The event is over: CK takes the trigger it raised (R162). What counts as one event is DEDUCED, unsafe:
notes/assumptions/10.md. -/
def State.commit (s : State) : State :=
  if s.ck.trigger then
    let q := s.setCk { s.ck with trigger := false }
    match s.ck.state, s.ck.write with
    | .on, .idle => q.startWrite
    | .on, .busy _ _ _ => q.setCk { q.ck with pending := true }
    | _, _ => q
  else s

/-! ### Announcements -/

/-- A notice joins the tail of the event queue. -/
def Lk.pushEvent (l : Lk) (n : EventNotice) : Lk := { l with events := l.events ++ [n] }

/-- The MODE notice of the moment (R22, R182). -/
def State.modeNotice (s : State) : EventNotice := .mode s.pmc.mode s.pmc.haltCause

/-- The CHECKPOINT notice of the moment (R167). -/
def State.checkpointNotice (s : State) : EventNotice :=
  .checkpoint s.ck.state s.ck.lastWritten s.ck.bad

/-- A block sets a system announcement flag (R182): the notice is queued at once where the queue has
room, and the flag stays set where it has none. -/
def State.announceMode (s : State) : State :=
  if s.lk.eventRoom then s.setLk { s.lk.pushEvent s.modeNotice with modeFlag := false }
  else s.setLk { s.lk with modeFlag := true }

/-- As `announceMode`, for the checkpoint flag (R167). -/
def State.announceCheckpoint (s : State) : State :=
  if s.lk.eventRoom then s.setLk { s.lk.pushEvent s.checkpointNotice with checkpointFlag := false }
  else s.setLk { s.lk with checkpointFlag := true }

/-- As `announceMode`, for the restore flag (R170). -/
def State.announceRestore (s : State) : State :=
  if s.lk.eventRoom then
    s.setLk { s.lk.pushEvent (.restored s.ck.restored) with restoreFlag := false }
  else s.setLk { s.lk with restoreFlag := true }

/-- The record of a case replaced in the table. -/
def State.putCase (c : Case) (s : State) : State :=
  s.setCm { s.cm with table := replaceCase s.cm.table c }

/-- A case's notice is queued with its contents of the moment and its flag cleared (R131); a case whose
queued notice carries RESOLVED leaves the table at the same event, which triggers a checkpoint (R132). -/
def State.serveCase (c : Case) (s : State) : State :=
  let q := s.setLk (s.lk.pushEvent (.ofCase { c with announce := false }))
  if c.isResolved then
    (q.setCm { q.cm with table := q.cm.table.filter fun o => o.id != c.id }).trigger
  else q.putCase { c with announce := false }

/-- A case's announce pending is set (R131): served at once where the event queue has room. -/
def State.announceCase (c : Case) (s : State) : State :=
  if s.lk.eventRoom then s.serveCase c else s.putCase { c with announce := true }

/-- An entry of the event queue has freed: one waiting item takes it (R131, R182). -/
def State.fillFreed (s : State) : State :=
  if s.lk.restoreFlag then s.announceRestore
  else if s.lk.modeFlag then s.announceMode
  else if s.lk.checkpointFlag then s.announceCheckpoint
  else
    match s.cm.table.find? (·.announce) with
    | some c => s.announceCase c
    | none => s

/-! ### Suspension -/

/-- One case's suspended flag follows its condition (R124); where it changes, the case gives up or
reposts its FORCE claims as a set of its own (R125) and is announced (R131). -/
def State.suspendOrResume (s : State) (id : Nat) : State :=
  match findCase s.cm.table id with
  | none => s
  | some c =>
    let h := c.heldBack s.pmc.mode s.cm.table
    if h = c.suspended then s
    else
      let c' := { c with suspended := h }
      ((s.putCase c').applySets [(.ofCase id, c'.posted)]).announceCase c'

/-- Suspension is evaluated for every case in the table (R124). R124 gives the cases no order among
themselves; the model takes them in table order: DESIGN CHOICE, unsafe, notes/assumptions/29.md. -/
def State.evaluateSuspension (s : State) : State :=
  (s.cm.table.map (·.id)).foldl State.suspendOrResume s

/-! ### Zones and dwell -/

/-- The dwell ends: INACTIVE, timer stopped, set empty, DWELL withdrawn (R92). -/
def State.endDwell (s : State) : State := (s.setDu .inactive).applySets [(.dwell, [])]

/-- A dwell on a zone that leaves ONLINE ends without flags (R97). -/
def State.dwellZoneLeaves (z : Zone) (s : State) : State :=
  match s.du with
  | .active dz _ _ => if dz = z then s.endDwell else s
  | .inactive => s

/-- A zone slot's contents replaced, with the ZONE_OFF guard re-evaluated (R52). -/
def State.setSlot (z : Zone) (zs : ZoneSlot) (s : State) : State :=
  (s.setPmc { s.pmc with zones := s.pmc.zones.set z zs }).applySets
    [(.zoneOff z, zoneOffClaims z zs.slot)]

/-- A slot out of service (R1): an ONLINE slot becomes OFFLINE. -/
def SlotState.takenOff : SlotState → SlotState
  | .online r => .offline r
  | o => o

/-- A zone leaves service (R13): the slot goes OFFLINE, ZONE_OFF engages, a dwell on it ends. -/
def State.takeOff (z : Zone) (s : State) : State :=
  let zs := s.pmc.zones.get z
  (s.setSlot z { zs with slot := zs.slot.takenOff }).dwellZoneLeaves z

/-- A case adds its id to a zone's offline-by-case marker (R3): an ONLINE zone becomes OFFLINE at once. -/
def State.addMarker (id : Nat) (s : State) (z : Zone) : State :=
  let zs := s.pmc.zones.get z
  if zs.marker.contains id then s
  else
    let q := s.setPmc { s.pmc with zones := s.pmc.zones.set z { zs with marker := zs.marker ++ [id] } }
    if zs.slot.isOnline then q.takeOff z else q

/-- A case's id leaves every marker (R3); the zones stay as they are. -/
def State.removeMarkers (id : Nat) (s : State) : State :=
  s.setPmc
    { s.pmc with
      zones := Four.ofFn fun z =>
        { s.pmc.zones.get z with marker := (s.pmc.zones.get z).marker.filter fun i => i != id } }

/-! ### Reports to the Rack Tracker -/

/-- The link zone report for each PUMP line on which the case has gained BLOCK (R127). -/
def State.linkGainedPumps (old : Option Case) (new : Case) (s : State) : State :=
  Four.indices.foldl
    (fun s z =>
      if new.blocksPump z && !(old.any fun o => o.blocksPump z) then
        s.setRt (s.rt.linkZone (s.pmc.zones.get z).slot s.smp.travel new.id)
      else s)
    s

/-! ### Changes of a case -/

/-- The zones a change of a case newly marks (R138, R142, R147). -/
def Case.gainedMarks (old new : Case) : List Zone := new.marks.filter fun z => !old.marks.contains z

/-- A case takes a new record, with every effect that calls for but the evaluation of suspension (R127, R131,
R132, R134): its claims change as one set; links for the PUMP lines gained; link all where a LEAK case
enters ISOLATING or ACTING; the markers it gains; the MANUAL report where it enters MANUAL; its
announcement where its state or step has changed; a checkpoint trigger where its state has changed. Where no
PUMP block is gained R127 does not order the claims before the markers; the model posts the claims first
(DEDUCED, unsafe: notes/assumptions/11.md). -/
def State.alterCase (old new : Case) (s : State) : State :=
  let entered := old.state != new.state
  let s1 := (s.putCase new).applySets [(.ofCase new.id, new.posted)]
  let s2 := s1.linkGainedPumps (some old) new
  let s3 := if entered && new.leakHandling then s2.setRt (s2.rt.linkAll new.id) else s2
  let s4 := (old.gainedMarks new).foldl (State.addMarker new.id) s3
  let s5 := if entered && new.state = .manual then s4.setRt (s4.rt.manual new.id) else s4
  let s6 := if entered || old.step != new.step then s5.announceCase new else s5
  if entered then s6.trigger else s6

/-- Suspension is evaluated where a case's state has changed (R124). -/
def State.settleAfter (old new : Case) (s : State) : State :=
  if old.state != new.state then s.evaluateSuspension else s

/-- A case takes a new record, and after the rest of the event suspension is evaluated (R124). -/
def State.changeCase (old new : Case) (s : State) : State :=
  (s.alterCase old new).settleAfter old new

/-- A case becomes RESOLVED (R57, R119, R128): its id leaves every marker, its claims leave every line,
its held claims are discarded. -/
def State.resolveCase (c : Case) (s : State) : State :=
  (s.removeMarkers c.id).changeCase c c.resolve

/-! ### Mode changes -/

/-- A mode is entered with its effects but the evaluation of suspension (R15, R22): MODE claims replaced, a
dwell ended without flags when leaving RUN with its claim withdrawn in the same resolution (R97), the mode
announced, a checkpoint triggered. -/
def State.enterMode (m : Mode) (cause : HaltCause) (s : State) : State :=
  let leavesRun := s.pmc.mode = .run
  let q := s.setPmc { s.pmc with mode := m, haltCause := cause }
  let q := if leavesRun then q.setDu .inactive else q
  let q := q.applySets ((if leavesRun then [(Owner.dwell, [])] else []) ++ [(.mode, modeClaims m)])
  q.announceMode.trigger

/-- A change of mode with all its effects (R15, R22), suspension evaluated after the rest (R124). The order
of the announcements is DEDUCED, unsafe: notes/assumptions/11.md. -/
def State.changeMode (m : Mode) (cause : HaltCause) (s : State) : State :=
  (s.enterMode m cause).evaluateSuspension

/-- An automatic HALT (R20): in HALT already, the first cause stands. -/
def State.automaticHalt (cause : HaltCause) (s : State) : State :=
  match s.pmc.mode with
  | .halt => s
  | .starting => s
  | _ => s.changeMode .halt cause

/-- An automatic HALT inside an event that evaluates suspension at its end (R20, R124). -/
def State.enterHalt (cause : HaltCause) (s : State) : State :=
  match s.pmc.mode with
  | .halt => s
  | .starting => s
  | _ => s.enterMode .halt cause

/-! ### Detections -/

/-- CM opens a case for a detection (R121, in the order of its steps), on the drives as they stand at the
opening (R149). -/
def State.openCase (d : Detection) (s : State) : State :=
  let id := freeCaseId s.cm.table 255 s.cm.nextId
  let bare := openingCase d id s.cm.uptime s.lg s.pmc s.smp
  let new := { bare with suspended := bare.heldBack s.pmc.mode (s.cm.table ++ [bare]) }
  let s1 := s.setCm { s.cm with table := s.cm.table ++ [new], nextId := caseIdAfter id }
  let s2 := s1.evaluateSuspension
  let s3 := s2.applySets [(.ofCase id, new.posted)]
  let s4 := s3.linkGainedPumps none new
  let s5 := if new.leakHandling then s4.setRt (s4.rt.linkAll id) else s4
  let s6 := if d = .travel then s5.setRt s5.rt.travelLost else s5
  let s7 := new.marks.foldl (State.addMarker id) s6
  (s7.announceCase new).trigger

/-- What a delivered detection makes of the record it is delivered to (R142, R146 to R148, R151, R153,
R155 to R157): recurrence only, but for the cases named there. -/
def Case.deliver (d : Detection) (l : Limits) (c : Case) : Case :=
  match c.proc, d with
  | .leak src leaking unassessed refs, .leakTank z _ _ =>
    if leaking.get z then c
    else
      let lk := zoneAdd leaking z
      let un := zoneRemove unassessed z
      match c.state with
      | .isolating => c.drainTanks src lk un l
      | .acting => c.drainTanks src lk un l
      | .verifying => c.drainTanks src lk un l
      | .manual => { c with proc := .leak src lk un refs }
      | _ => c
  | .leak src leaking unassessed _, .leakPan =>
    if c.state = .verifying then c.leakManual src leaking unassessed else c
  | .filter _ pressure attempt _, .filter z _ =>
    if c.state = .verifying then c.failAttempt z pressure attempt l else c
  | _, _ => c

/-- A detection is delivered to the case of its key that is not RESOLVED (R123). -/
def State.deliver (d : Detection) (c : Case) (s : State) : State :=
  let counted := { c with recurrence := min (c.recurrence + 1) 255 }
  s.changeCase counted (counted.deliver d s.pmc.limits)

/-- CM takes a detection (R101): delivered, opened, or not recorded with the table full (R122). -/
def State.detect (s : State) (d : Detection) : State :=
  match s.cm.table.find? (Case.takes d.key) with
  | some c => s.deliver d c
  | none =>
    if s.cm.table.length < casePlaces then s.openCase d
    else s.automaticHalt .caseTableFull

/-- A detection and the end of its event. -/
def State.detectEvent (s : State) (d : Detection) : State := (s.detect d).commit

/-! ### Racks -/

/-- The contact each zone requires, 0 for a slot without a record. -/
def State.contactRequired (s : State) : Four Nat :=
  Four.ofFn fun z =>
    match (s.pmc.zones.get z).slot.record with
    | none => 0
    | some r => r.contactRequired

/-- The drain step (R73), with the OUTCOME_STALL claim evaluated after it (R74). -/
def State.drainRacks (s : State) : State :=
  let d := drainScan (queuePlaces - s.lk.outcomes.length) s.rt.queue
  let q := (s.setRt { s.rt with queue := d.1 }).setLk { s.lk with outcomes := s.lk.outcomes ++ d.2 }
  let q := if d.2.isEmpty then q else q.trigger
  q.applySets [(.outcomeStall, stallClaims q.lk.outcomes)]

/-- The exit test of a travel event and its drain (R69, R73). -/
def State.testExits (s : State) : State :=
  (s.setRt
    { s.rt with queue := exitScan s.smp.travel s.contactRequired s.pmc.limits s.rt.queue }).drainRacks

/-- A flush (R75), with its drain step. -/
def State.flush (reason : FlushReason) (s : State) : State :=
  (s.setRt
    { s.rt with
      queue := s.rt.queue.map
        (Rack.flushed reason s.smp.travel s.contactRequired s.pmc.limits.doseRequired) }).drainRacks

/-- An entry event at the Rack Tracker, taken in RUN only (R65, R66). -/
def State.entryEvent (s : State) : State :=
  if s.pmc.mode = .run then
    let e := s.rt.entry s.smp.travel s.pmc.limits.minPitch s.onlineMask
    if e.2 then (s.setRt e.1).trigger else s.setRt e.1
  else s

/-! ### Resets -/

/-- A line record after a reset: as R60 gives it, with the pin's level kept and taken as the request. -/
def Line.resetWith (l : Line) (afterReset : Line) : Line :=
  { afterReset with input := l.input, request := l.input }

/-- A power, pin or restart reset ends (R171, R199): every block as after a reset, the slots kept with a
write in flight cut (R166), the pins as they are, the strap sampled, the cause recorded. -/
def State.endReset (cause : ResetCause) (strap : Baud) (s : State) : State :=
  { State.reset with
    power := { supplyGood := true, resetLow := false, supplyLost := false, cause := cause }
    lg := Lines.build fun id => (s.lg.get id).resetWith (State.reset.lg.get id)
    ck := { State.reset.ck with slots := s.ck.cut.slots }
    lk := { State.reset.lk with rate := strap, hold := s.lk.hold }
    freeIndex := s.freeIndex
    pending := s.pending }

/-! ### Time -/

/-- A running timer one millisecond on. -/
def tickTimer : Option Nat → Option Nat
  | none => none
  | some t => some (t - 1)

/-- A case's step timer one millisecond on: it does not run while the case is suspended (R125). -/
def Case.tick (c : Case) : Case := if c.suspended then c else { c with timer := tickTimer c.timer }

/-- The level watch's window one millisecond on. -/
def Tank.tick (t : Tank) : Tank :=
  match t.level with
  | none => t
  | some w => { t with level := some { w with window := w.window - 1 } }

/-- The uptime one millisecond on (R118). -/
def Cm.tickUptime (c : Cm) : Cm :=
  if c.uptimeMs + 1 < Config.ticksPerSecond then { c with uptimeMs := c.uptimeMs + 1 }
  else { c with uptimeMs := 0, uptime := c.uptime + 1 }

/-- One millisecond of the internal oscillator, while the part runs: what an idle step is. Timers stop at
0, where their expiry is due; the expiry itself is a command. -/
def State.tick (s : State) : State :=
  if s.live then
    { s with
      smp := { s.smp with sinceRound := s.smp.sinceRound.map (· + 1) }
      du := match s.du with
            | .inactive => .inactive
            | .active z t c => .active z (t - 1) c
      fd := { tanks := Four.ofFn fun z => (s.fd.tanks.get z).tick, silence := tickTimer s.fd.silence }
      cm := { s.cm.tickUptime with table := s.cm.table.map Case.tick,
                                   leakWatch := tickTimer s.cm.leakWatch }
      lk := { s.lk with rx := { s.lk.rx with gap := s.lk.rx.gap - 1 } } }
  else s

end Sys2Proof.Machine
end

