-- ==== Sys2Proof/Machine/Requests.lean ====
section
/-! DEFINITION. How the Link Controller takes a request (R180) and answers it (R190): shared by all
request commands. -/

namespace Sys2Proof.Machine

/-- The result codes (R190). -/
def resOk : Byte := 0x00
def resAdjusted : Byte := 0x01
def resUnknownKind : Byte := 0x10
def resBadLength : Byte := 0x11
def resBadArg : Byte := 0x12
def resWrongMode : Byte := 0x13
def resZoneBusy : Byte := 0x14
def resOrder : Byte := 0x15
def resNoSuch : Byte := 0x16
def resWrongState : Byte := 0x17
def resRacksPresent : Byte := 0x18
def resCaseHolds : Byte := 0x19
def resStarting : Byte := 0x1A

/-- A reply payload after the result code and, before it, the state the request leaves. -/
abbrev Answered := State × List Byte

/-- A refusal: no state changes, and the reply is the code alone (R190). -/
def refuse (s : State) (code : Byte) : Answered := (s, [code])

/-- An OK without data. -/
def ok (s : State) : Answered := (s, [resOk])

/-- The reply to a taken load (R191): OK with a count of 0, or ADJUSTED with the clamped fields. -/
def loadReply (clamped : List Nat) : List Byte :=
  if clamped.isEmpty then [resOk, 0] else resAdjusted :: byte clamped.length :: clamped.map byte

/-- The request LK takes next (R180): of the oldest checked frame, while the reply slot is empty. -/
def State.nextRequest (s : State) : Option Request :=
  if s.live && s.lk.reply.isNone then s.lk.rx.headRequest else none

/-- The bytes of the request's frame leave the buffer (R175, R180). -/
def State.dropRequest (s : State) : State := s.setLk { s.lk with rx := s.lk.rx.dropHead }

/-- The reply is placed in the reply slot (R180): KIND plus 0x80, the request's TAG. -/
def State.answer (s : State) (r : Request) (payload : List Byte) : State :=
  s.setLk { s.lk with reply := some { kind := r.kind + 0x80, tag := r.tag, payload := payload } }

/-- The tests of LK before the owner's (R180: STARTING, then BAD_LENGTH), and the owner's answer. -/
def State.handle (s : State) (length : Nat) (inStarting : Bool)
    (owner : List Byte → State → Answered) (payload : List Byte) : Answered :=
  if s.pmc.mode = .starting && !inStarting then refuse s resStarting
  else if payload.length ≠ length then refuse s resBadLength
  else owner payload s

/-- A request of a kind is taken, carried out and answered in one event (R180). The command of a kind
that is not next to be taken does nothing: it waits (DESIGN CHOICE, safe: notes/assumptions/4.md). -/
def takeRequest (kind length : Nat) (inStarting : Bool) (owner : List Byte → State → Answered)
    (s : State) : State :=
  match s.nextRequest with
  | none => s
  | some r =>
    if r.kind.toNat = kind then
      let a := s.dropRequest.handle length inStarting owner r.payload
      (a.1.answer r a.2).commit
    else s

/-- The request kinds (R188). -/
def isRequestKind (kind : Nat) : Bool := 1 ≤ kind && kind ≤ 17

/-- UNKNOWN_KIND (R180, R188): a checked frame whose KIND is not a request kind is taken and answered. -/
def execUnknownKind (s : State) : Host.Outcome State Fault Refusal :=
  .next <|
    match s.nextRequest with
    | none => s
    | some r =>
      if isRequestKind r.kind.toNat then s
      else s.dropRequest.answer r [resUnknownKind]

end Sys2Proof.Machine
end

