-- ==== Sys2Proof/Machine/CaseCmds.lean ====
section
/-! DEFINITION. The host's case requests (R128, R129) and the expiries of case step timers and of the
leak watch (R137 to R141, R144 to R147). -/

namespace Sys2Proof.Machine

/-! ### CASE_CLEAR and CASE_RETRY -/

/-- CASE_CLEAR (R128): of a case in MANUAL or DEGRADED. -/
def caseClearRequest (p : List Byte) (s : State) : Answered :=
  match if u8 p 0 = 0 then none else findCase s.cm.table (u8 p 0) with
  | none => refuse s resNoSuch
  | some c =>
    match c.state with
    | .manual | .degraded => ok (s.resolveCase c)
    | _ => refuse s resWrongState

/-- CASE_CLEAR (R128). -/
def execCaseClear (s : State) : Host.Outcome State Fault Refusal :=
  .next (takeRequest 0x0D 1 false caseClearRequest s)

/-- The record a taken CASE_RETRY gives a case (R129, R143, R148): a LEAK localises afresh, a FILTER
purges with attempt 0. -/
def Case.retry (c : Case) (s : State) : Option Case :=
  match c.state, c.proc with
  | .manual, .leak source _ _ _ => some (c.localise source s.pmc.zones s.smp.channels s.pmc.limits)
  | .manual, .filter z pressure _ _ => some (c.purge z pressure 0 s.pmc.limits)
  | _, _ => none

/-- A retried FILTER case posts BLOCK on PUMP_z again and links the racks in zone z (R127), though it has kept
the block in MANUAL (R147; DEDUCED, safe: notes/assumptions/31.md). -/
def State.retryLinks (c : Case) (s : State) : State :=
  match c.proc with
  | .filter z _ _ _ => s.setRt (s.rt.linkZone (s.pmc.zones.get z).slot s.smp.travel c.id)
  | _ => s

/-- CASE_RETRY (R129). -/
def caseRetryRequest (p : List Byte) (s : State) : Answered :=
  match if u8 p 0 = 0 then none else findCase s.cm.table (u8 p 0) with
  | none => refuse s resNoSuch
  | some c =>
    match c.retry s with
    | none => refuse s resWrongState
    | some c' => ok (((s.removeMarkers c.id).changeCase c c').retryLinks c')

/-- CASE_RETRY (R129). -/
def execCaseRetry (s : State) : Host.Outcome State Fault Refusal :=
  .next (takeRequest 0x0E 1 false caseRetryRequest s)

/-! ### Expiries -/

/-- A case whose step timer expires (R125, R134): not suspended, not RESOLVED, its timer at 0. A timer that an
event before has stopped or restarted does not expire. -/
def Case.canExpire (c : Case) : Bool := !c.suspended && !c.isResolved && c.timer = some 0

/-- The case in a state with its step timer at 0, of a key (R120: there is one at most). -/
def State.expiring (s : State) (k : Key) (state : CaseState) (step : Step) : Option Case :=
  s.cm.table.find? fun c => c.takes k && c.canExpire && c.state = state && c.step = step

/-- The tanks that hold a reference and have fallen by their leak_threshold (R137). -/
def leakingTanks (s : State) (refs : Four (Option Nat)) : ZoneSet :=
  Four.ofFn fun z =>
    match refs.get z, (s.smp.channels.get z).level.reading.judged,
          (s.pmc.zones.get z).slot.record with
    | some ref, some v, some r => v + r.leakThreshold ≤ ref
    | _, _, _ => false

/-- The unassessed tanks after the judgement: those there were, and those whose reading is UNKNOWN
(R137). -/
def unjudgedTanks (s : State) (refs : Four (Option Nat)) (unassessed : ZoneSet) : ZoneSet :=
  Four.ofFn fun z =>
    unassessed.get z
      || ((refs.get z).isSome && (s.smp.channels.get z).level.reading.judged.isNone)

/-- The judgement at the localise expiry (R137). -/
def Case.judgeLeak (c : Case) (s : State) : Case :=
  match c.proc with
  | .leak source leaking unassessed refs =>
    let found := Four.ofFn fun z => leaking.get z || (leakingTanks s refs).get z
    let un := unjudgedTanks s refs unassessed
    if zoneSetAny found then c.drainTanks source found un s.pmc.limits
    else if s.smp.panWet || s.cm.leakWatch.isSome then c.leakManual source found un
    else c.leakVerify source un s.pmc.limits
  | _ => c

/-- The localise timer expires (R137). -/
def State.localiseExpiry (s : State) : State :=
  match s.expiring .leak .isolating .none with
  | some c => (s.changeCase c (c.judgeLeak s)).commit
  | none => s

/-- LOCALISE_EXPIRY (R137). -/
def execLocaliseExpiry (s : State) : Host.Outcome State Fault Refusal :=
  .next (if s.live then s.localiseExpiry else s)

/-- A LEAK case enters MANUAL with what it has found (R138, R139). -/
def Case.toLeakManual (c : Case) : Case :=
  match c.proc with
  | .leak source leaking unassessed _ => c.leakManual source leaking unassessed
  | _ => c

/-- The drain timer expires (R138). -/
def State.drainExpiry (s : State) : State :=
  match s.expiring .leak .acting .drain with
  | some c => (s.changeCase c c.toLeakManual).commit
  | none => s

/-- DRAIN_TIMEOUT_EXPIRY (R138). -/
def execDrainTimeoutExpiry (s : State) : Host.Outcome State Fault Refusal :=
  .next (if s.live then s.drainExpiry else s)

/-- The leak watch starts at leak_watch seconds; with leak_watch 0 it is stopped (R141). -/
def State.startLeakWatch (s : State) : State :=
  s.setCm
    { s.cm with
      leakWatch := if s.pmc.limits.leakWatch = 0 then none else some (seconds s.pmc.limits.leakWatch) }

/-- The verify timer expires (R140, R141). -/
def State.leakVerifyExpiry (s : State) : State :=
  match s.expiring .leak .verifying .none with
  | some c => (s.startLeakWatch.resolveCase c).commit
  | none => s

/-- LEAK_VERIFY_EXPIRY (R140). -/
def execLeakVerifyExpiry (s : State) : Host.Outcome State Fault Refusal :=
  .next (if s.live then s.leakVerifyExpiry else s)

/-- LEAK_WATCH_EXPIRY (R141): the watch, at 0, stops. -/
def execLeakWatchExpiry (s : State) : Host.Outcome State Fault Refusal :=
  .next (if s.live && s.cm.leakWatch = some 0 then s.setCm { s.cm with leakWatch := none } else s)

/-- The record of a FILTER case in PURGE when its purge timer expires (R144). -/
def Case.toRefill (l : Limits) (c : Case) : Case :=
  match c.proc with
  | .filter z pressure attempt _ => c.refill z pressure attempt l
  | _ => c

/-- The purge timer of the FILTER case of a zone expires (R144). -/
def State.purgeExpiry (z : Zone) (s : State) : State :=
  match s.expiring (.filter z) .acting .purge with
  | some c => (s.changeCase c (c.toRefill s.pmc.limits)).commit
  | none => s

/-- PURGE_EXPIRY (R144). -/
def execPurgeExpiry (zone : Zone) (s : State) : Host.Outcome State Fault Refusal :=
  .next (if s.live then s.purgeExpiry zone else s)

/-- The record of a FILTER case whose attempt has failed (R147). -/
def Case.toFailed (l : Limits) (c : Case) : Case :=
  match c.proc with
  | .filter z pressure attempt _ => c.failAttempt z pressure attempt l
  | _ => c

/-- The refill timer of the FILTER case of a zone expires (R145, R147). -/
def State.refillExpiry (z : Zone) (s : State) : State :=
  match s.expiring (.filter z) .acting .refill with
  | some c => (s.changeCase c (c.toFailed s.pmc.limits)).commit
  | none => s

/-- REFILL_EXPIRY (R145). -/
def execRefillExpiry (zone : Zone) (s : State) : Host.Outcome State Fault Refusal :=
  .next (if s.live then s.refillExpiry zone else s)

end Sys2Proof.Machine
end

