-- ==== Sys2Proof/Machine/LinkCmds.lean ====
section
/-! DEFINITION. The link's own commands: TRACE and RESTART, received characters, gaps and breaks
(R173 to R178), HOLD and the transmitter (R181), the ends of sent frames (R180, R182 to R184), the link
reset (R186). -/

namespace Sys2Proof.Machine

/-! ### TRACE and RESTART -/

/-- TRACE (R184, R192): a zone number selects it, 0xFF turns trace off. -/
def traceRequest (p : List Byte) (s : State) : Answered :=
  match zoneOperand (u8 p 0) with
  | some z => ok (s.setLk { s.lk with traceZone := some z })
  | none =>
    if u8 p 0 = 255 then ok (s.setLk { s.lk with traceZone := none }) else refuse s resBadArg

/-- TRACE (R184). -/
def execTrace (s : State) : Host.Outcome State Fault Refusal :=
  .next (takeRequest 0x10 1 false traceRequest s)

/-- RESTART (R172): answered OK; the restart follows the reply. -/
def restartRequest (_ : List Byte) (s : State) : Answered :=
  ok (s.setLk { s.lk with restart := .awaitingReply })

/-- RESTART (R172). -/
def execRestart (s : State) : Host.Outcome State Fault Refusal :=
  .next (takeRequest 0x11 0 false restartRequest s)

/-! ### Receive side -/

/-- A restart whose reply has left the reply slot, sent or discarded, is due at once (R172). -/
def RestartState.replyGone : RestartState → RestartState
  | .awaitingReply => .due
  | o => o

/-- The Link Controller after a link reset (R186). -/
def Lk.linkReset (l : Lk) : Lk :=
  { l with rx := Rx.broken, reply := none, tx := .idle, linkErrors := 0, traceGap := true,
           restart := l.restart.replyGone }

/-- LINK_RESET (R174, R186): a break makes one link reset, however long the line stays low. -/
def execLinkReset (s : State) : Host.Outcome State Fault Refusal :=
  .next (if s.live && !s.lk.rx.inBreak then s.setLk s.lk.linkReset else s)

/-- BREAK_END (R174): the line has returned high; the receiver takes the next start bit (DEDUCED, unsafe:
notes/assumptions/17.md). -/
def execBreakEnd (s : State) : Host.Outcome State Fault Refusal :=
  .next (if s.live then s.setLk { s.lk with rx := { s.lk.rx with inBreak := false } } else s)

/-- The Link Controller with a new receive side and some discards counted (R177). -/
def Lk.receive (l : Lk) (r : Rx × Nat) : Lk :=
  { l with rx := r.1, linkErrors := addLinkErrors l.linkErrors r.2 }

/-- RX_BYTE (R173, R175 to R177). While the line stays low after a break the receiver takes nothing
(R174). -/
def execRxByte (data : Byte) (ending : CharacterEnd) (s : State) : Host.Outcome State Fault Refusal :=
  .next
    (if s.live && !s.lk.rx.inBreak then
      s.setLk (s.lk.receive (s.lk.rx.take (receivedByte data ending)))
    else s)

/-- FRAME_GAP_TIMEOUT (R178): the 50 ms from the latest byte are over. -/
def execFrameGapTimeout (s : State) : Host.Outcome State Fault Refusal :=
  .next (if s.live && s.lk.rx.gap = 0 then s.setLk (s.lk.receive s.lk.rx.gapOver) else s)

/-! ### Transmit side -/

/-- HOLD_CHANGE (R181): the level of HOLD, which acts at the next frame boundary. -/
def execHoldChange (active : Bool) (s : State) : Host.Outcome State Fault Refusal :=
  .next (s.setLk { s.lk with hold := active })

/-- The start of a chosen frame (R181); the start of a TRACE notice clears the trace gap flag (R184). -/
def Lk.start (l : Lk) (chosen : TxSource × List Byte) : Lk :=
  { l with tx := .sending chosen.1 chosen.2,
           traceGap := if chosen.1 = .trace then false else l.traceGap }

/-- The arbiter at a boundary (R181): it chooses with HOLD inactive only. -/
def Lk.boundary (l : Lk) : Lk :=
  match l.tx, l.hold, l.choose with
  | .idle, false, some c => l.start c
  | _, _, _ => l

/-- TRANSMIT_START (R181). -/
def execTransmitStart (s : State) : Host.Outcome State Fault Refusal :=
  .next (if s.live then s.setLk s.lk.boundary else s)

/-- REPLY_SENT (R180, R172): the reply slot empties; after the reply to RESTART the restart is due. -/
def execReplySent (s : State) : Host.Outcome State Fault Refusal :=
  .next
    (if s.live && s.lk.isSending .reply then
      s.setLk { s.lk with tx := .idle, reply := none, restart := s.lk.restart.replyGone }
    else s)

/-- EVENT_NOTICE_SENT (R181, R182, R131, R132): the notice leaves, and its entry takes one waiting
item. -/
def execEventNoticeSent (s : State) : Host.Outcome State Fault Refusal :=
  .next
    (if s.live && s.lk.isSending .event then
      (s.setLk { s.lk with tx := .idle, events := s.lk.events.tail }).fillFreed.commit
    else s)

/-- OUTCOME_NOTICE_SENT (R183, R73, R74): the notice leaves and is counted, and the Rack Tracker
drains into the freed entry. -/
def execOutcomeNoticeSent (s : State) : Host.Outcome State Fault Refusal :=
  .next
    (if s.live && s.lk.isSending .outcome then
      (s.setLk
        { s.lk with tx := .idle, outcomes := s.lk.outcomes.tail,
                    outcomesSent := s.lk.outcomesSent + 1 }).drainRacks.commit
    else s)

/-- TRACE_NOTICE_SENT (R181, R184). -/
def execTraceNoticeSent (s : State) : Host.Outcome State Fault Refusal :=
  .next
    (if s.live && s.lk.isSending .trace then
      s.setLk { s.lk with tx := .idle, traces := s.lk.traces.tail }
    else s)

end Sys2Proof.Machine
end

