-- ==== Sys2Proof/Machine/Profile.lean ====
section
/-! DEFINITION. The profile check (R10, R11). -/

namespace Sys2Proof.Machine

/-- A failed check: its number in the table of R11, and the zone it names. -/
structure CheckFailure where
  check : Nat
  zone : Option Zone
deriving DecidableEq, Repr

/-- The online zones with their records, ascending. -/
abbrev OnlineZones := List (Zone × ZoneRecord)

/-- The zones now ONLINE, with one more where a zone is to be put online (R10). -/
def onlineZones (zones : Four ZoneSlot) (also : Option Zone) : OnlineZones :=
  Four.indices.filterMap fun z =>
    match (zones.get z).slot with
    | .online r => some (z, r)
    | .offline r => if also = some z then some (z, r) else none
    | .unconfigured => none

/-- Check 4 on a zone and the next online zone. -/
def spanOrderFails (r : ZoneRecord) (next : Option (Zone × ZoneRecord)) : Bool :=
  r.spanEnd ≤ r.spanStart || next.any fun n => n.2.spanStart < r.spanEnd

/-- The lowest-numbered zone that fails SPAN_ORDER (check 4). -/
def spanOrder : OnlineZones → Option Zone
  | [] => none
  | (z, r) :: rest => if spanOrderFails r rest.head? then some z else spanOrder rest

/-- The lowest-numbered zone with a t_min below the previous online zone's (check 5). -/
def tMinOrder : Option ZoneRecord → OnlineZones → Option Zone
  | _, [] => none
  | previous, (z, r) :: rest =>
    if previous.any fun p => r.tMin < p.tMin then some z else tMinOrder (some r) rest

/-- The lowest-numbered online zone whose record fails a test. -/
def firstFailing (online : OnlineZones) (fails : Zone → ZoneRecord → Bool) : Option Zone :=
  (online.find? fun z => fails z.1 z.2).map (·.1)

/-- Check 2: the number of final online zones is one; otherwise the second-lowest of them is named. -/
def finalCount (online : OnlineZones) : Option CheckFailure :=
  match online.filter fun z => z.2.final with
  | [] => some { check := 2, zone := none }
  | [_] => none
  | _ :: second :: _ => some { check := 2, zone := some second.1 }

/-- A check that names the zone it has found to fail. -/
def zoneCheck (number : Nat) (zone : Option Zone) : Option CheckFailure :=
  zone.map fun z => { check := number, zone := some z }

/-- Check 3: the final online zone is the highest-numbered one. -/
def finalLast (online : OnlineZones) : Option CheckFailure :=
  match online.getLast? with
  | some (z, r) => if r.final then none else some { check := 3, zone := some z }
  | none => none

/-- Check 8: exit_position reaches the highest online zone's span_end. -/
def exitShort (online : OnlineZones) (l : Limits) : Option CheckFailure :=
  match online.getLast? with
  | some (z, r) => if l.exitPosition < r.spanEnd then some { check := 8, zone := some z } else none
  | none => none

/-- The profile check: the first check of R11's table that fails. -/
def profileCheck (online : OnlineZones) (l : Limits) (chs : Four (Quad Channel)) :
    Option CheckFailure :=
  (if online.isEmpty then some { check := 1, zone := none } else none)
    <|> finalCount online
    <|> finalLast online
    <|> zoneCheck 4 (spanOrder online)
    <|> zoneCheck 5 (tMinOrder none online)
    <|> zoneCheck 6 (firstFailing online fun _ r => r.tMax ≤ r.tMin)
    <|> zoneCheck 7 (firstFailing online fun _ r =>
          !(r.levelEmpty < r.levelHeaterSafe && r.levelHeaterSafe < r.levelSetpoint))
    <|> exitShort online l
    <|> (if 23 * l.minPitch < l.exitPosition then some { check := 9, zone := none } else none)
    <|> zoneCheck 10 (firstFailing online fun z _ =>
          (chs.get z).toList.any fun c => c.calibration.isNone)

end Sys2Proof.Machine
end

