-- ==== Sys2Proof/Machine/ProfileCmds.lean ====
section
/-! DEFINITION. The requests of the Profile and Mode Controller: MODE, ZONE_LOAD, CHAN_LOAD,
LIMITS_LOAD, ZONE_ON, ZONE_OFF, HALT_CLEAR. -/

namespace Sys2Proof.Machine

/-! ### MODE -/

/-- The reply to a failed profile check (R192). -/
def orderReply (f : CheckFailure) : List Byte := [resOrder, byte f.check, zoneByte f.zone]

/-- MODE PREPARE in STANDBY (R17). -/
def modePrepareFromStandby (s : State) : Answered :=
  match profileCheck (onlineZones s.pmc.zones none) s.pmc.limits s.smp.channels with
  | some f => (s, orderReply f)
  | none => ok (s.changeMode .prepare .none)

/-- RUN entry (R17): the mode change, then the test of the debounced entry eye. -/
def State.enterRun (s : State) : State :=
  let q := s.changeMode .run .none
  if q.smp.eyeBlocked then q.entryEvent else q

/-- MODE RUN in PREPARE (R17). -/
def modeRunFromPrepare (s : State) : Answered :=
  if s.rt.queue.any Rack.keepsRunOut then refuse s resRacksPresent
  else
    match profileCheck (onlineZones s.pmc.zones none) s.pmc.limits s.smp.channels with
    | some f => (s, orderReply f)
    | none => ok s.enterRun

/-- MODE STANDBY in PREPARE or RUN (R19). -/
def modeStandby (force : Bool) (s : State) : Answered :=
  if s.rt.queue.any Rack.keepsStandbyOut then
    if force then ok ((s.flush .standbyFlush).changeMode .standby .none)
    else refuse s resRacksPresent
  else ok (s.changeMode .standby .none)

/-- The table of R16: current mode by target. -/
def modeTable (target : Mode) (force : Bool) (s : State) : Answered :=
  match s.pmc.mode, target with
  | .standby, .standby => ok s
  | .standby, .prepare => modePrepareFromStandby s
  | .standby, .run => refuse s resWrongMode
  | .prepare, .standby => modeStandby force s
  | .prepare, .prepare => ok s
  | .prepare, .run => modeRunFromPrepare s
  | .run, .standby => modeStandby force s
  | .run, .prepare => ok (s.changeMode .prepare .none)
  | .run, .run => ok s
  | .standby, .halt => ok (s.changeMode .halt .requested)
  | .prepare, .halt => ok (s.changeMode .halt .requested)
  | .run, .halt => ok (s.changeMode .halt .requested)
  | _, _ => refuse s resWrongMode

/-- The MODE request (R16, R192): targets 1..4, force 0 or 1. -/
def modeRequest (p : List Byte) (s : State) : Answered :=
  match Mode.ofCode (u8 p 0) with
  | none => refuse s resBadArg
  | some .starting => refuse s resBadArg
  | some target => if 1 < u8 p 1 then refuse s resBadArg else modeTable target (u8 p 1 = 1) s

/-- MODE (R16 to R20). -/
def execMode (s : State) : Host.Outcome State Fault Refusal :=
  .next (takeRequest 0x03 2 false modeRequest s)

/-! ### Loads -/

/-- LEVEL_GUARD_z is re-evaluated from a level reading (R54, R55). -/
def State.guardLevel (z : Zone) (level : Reading) (s : State) : State :=
  s.applySets [(.levelGuard z, levelGuardClaims z (s.pmc.zones.get z).slot level)]

/-- TEMP_GUARD_z is re-evaluated from a temperature reading (R53, R55). -/
def State.guardTemp (z : Zone) (temperature : Reading) (s : State) : State :=
  s.applySets [(.tempGuard z, tempGuardClaims z temperature)]

/-- ZONE_LOAD (R2, R5, R7). -/
def zoneLoadRequest (p : List Byte) (s : State) : Answered :=
  match zoneOperand (u8 p 0) with
  | none => refuse s resBadArg
  | some z =>
    if (s.pmc.zones.get z).slot.isOnline then refuse s resZoneBusy
    else if !zoneLoadArgsGood p then refuse s resBadArg
    else
      let r := zoneLoadRecord p
      let q := s.setSlot z { s.pmc.zones.get z with slot := .offline r.1 }
      (q.guardLevel z (q.smp.channels.get z).level.reading, loadReply r.2)

/-- ZONE_LOAD (R7). -/
def execZoneLoad (s : State) : Host.Outcome State Fault Refusal :=
  .next (takeRequest 0x04 26 false zoneLoadRequest s)

/-- The quantity of a channel number, by its place in the zone (chapter 2.1). -/
def quantityOf (channel : Nat) : Quantity :=
  match channel % 4 with
  | 0 => .temp
  | 1 => .level
  | 2 => .pressure
  | _ => .current

/-- The SENSOR case of a channel restarts its count at a CHAN_LOAD (R156). -/
def Case.chanLoaded (z : Zone) (q : Quantity) (c : Case) : Case :=
  if c.takes (.sensor z q) then { c with counter := c.counter.map fun _ => 0 } else c

/-- The guard a channel's load re-evaluates, from the UNKNOWN reading it leaves (R55). -/
def State.guardLoaded (z : Zone) (q : Quantity) (s : State) : State :=
  match q with
  | .temp => s.guardTemp z .unknown
  | .level => s.guardLevel z .unknown
  | _ => s

/-- A calibration is written (R26, R114, R156). R26's "changes no case record" gives way to R156 and R55
(DEDUCED, unsafe: notes/assumptions/14.md). -/
def State.writeCalibration (z : Zone) (q : Quantity) (c : Calibration) (s : State) : State :=
  State.guardLoaded z q
    { s with
      smp := { s.smp with
        channels := s.smp.channels.set z ((s.smp.channels.get z).set q (Channel.loaded c)) }
      fd := { s.fd with tanks := s.fd.tanks.set z ((s.fd.tanks.get z).chanLoaded q) }
      cm := { s.cm with table := s.cm.table.map (Case.chanLoaded z q) } }

/-- CHAN_LOAD (R8, R26). -/
def chanLoadRequest (p : List Byte) (s : State) : Answered :=
  match zoneOperand (u8 p 0 / 4) with
  | none => refuse s resBadArg
  | some z =>
    if (s.pmc.zones.get z).slot.isOnline then refuse s resZoneBusy
    else
      match chanLoadResult p with
      | none => refuse s resBadArg
      | some (c, clamped) => (s.writeCalibration z (quantityOf (u8 p 0)) c, loadReply clamped)

/-- CHAN_LOAD (R26). -/
def execChanLoad (s : State) : Host.Outcome State Fault Refusal :=
  .next (takeRequest 0x05 10 false chanLoadRequest s)

/-- LIMITS_LOAD (R4 to R6, R9): taken in STANDBY and PREPARE. -/
def limitsLoadRequest (p : List Byte) (s : State) : Answered :=
  match s.pmc.mode with
  | .standby | .prepare =>
    let r := limitsLoadResult p s.pmc.limits
    (s.setPmc { s.pmc with limits := r.1 }, loadReply r.2)
  | _ => refuse s resWrongMode

/-- LIMITS_LOAD (R9). -/
def execLimitsLoad (s : State) : Host.Outcome State Fault Refusal :=
  .next (takeRequest 0x06 41 false limitsLoadRequest s)

/-! ### Zone service -/

/-- The profile check that a ZONE_ON runs in PREPARE and RUN (R10, R12). -/
def zoneOnCheck (z : Zone) (s : State) : Option CheckFailure :=
  match s.pmc.mode with
  | .prepare | .run =>
    profileCheck (onlineZones s.pmc.zones (some z)) s.pmc.limits s.smp.channels
  | _ => none

/-- ZONE_ON (R12). -/
def zoneOnRequest (p : List Byte) (s : State) : Answered :=
  match zoneOperand (u8 p 0) with
  | none => refuse s resBadArg
  | some z =>
    let zs := s.pmc.zones.get z
    match zs.slot with
    | .unconfigured => refuse s resWrongState
    | .online _ => if zs.marker.isEmpty then ok s else refuse s resCaseHolds
    | .offline r =>
      if !zs.marker.isEmpty then refuse s resCaseHolds
      else
        match zoneOnCheck z s with
        | some f => (s, orderReply f)
        | none => ok (s.setSlot z { zs with slot := .online r })

/-- ZONE_ON (R12). -/
def execZoneOn (s : State) : Host.Outcome State Fault Refusal :=
  .next (takeRequest 0x07 1 false zoneOnRequest s)

/-- ZONE_OFF (R13). -/
def zoneOffRequest (p : List Byte) (s : State) : Answered :=
  match zoneOperand (u8 p 0) with
  | none => refuse s resBadArg
  | some z =>
    match (s.pmc.zones.get z).slot with
    | .unconfigured => refuse s resWrongState
    | .offline _ => ok s
    | .online _ => ok (s.takeOff z)

/-- ZONE_OFF (R13). -/
def execZoneOff (s : State) : Host.Outcome State Fault Refusal :=
  .next (takeRequest 0x08 1 false zoneOffRequest s)

/-! ### HALT_CLEAR -/

/-- HALT_CLEAR (R21): the flush, the mode change, and with it the suspension evaluated afresh. -/
def haltClearRequest (_ : List Byte) (s : State) : Answered :=
  match s.pmc.mode with
  | .halt => ok ((s.flush .haltFlush).changeMode .standby .none)
  | _ => refuse s resWrongMode

/-- HALT_CLEAR (R21). -/
def execHaltClear (s : State) : Host.Outcome State Fault Refusal :=
  .next (takeRequest 0x0F 0 false haltClearRequest s)

end Sys2Proof.Machine
end

