-- ==== Sys2Proof/Machine/ReadCmds.lean ====
section
/-! DEFINITION. The requests that report: IDENT, STATUS, ZONE_READ, LINES_READ, RACKS_READ, CASE_READ. They
change nothing but the reply slot and the inbound buffer. -/

namespace Sys2Proof.Machine

/-! ### IDENT and STATUS -/

/-- The IDENT reply (R193). -/
def identItems (s : State) : List Byte :=
  be16 Config.vendorCode ++ be16 Config.partCode
    ++ [byte Config.revision, byte s.power.cause.code]
    ++ be32 (s.ck.restored.generation.getD 0) ++ [byte s.ck.state.code]

/-- IDENT (R193). -/
def execIdent (s : State) : Host.Outcome State Fault Refusal :=
  .next (takeRequest 0x01 0 true (fun _ s => (s, resOk :: identItems s)) s)

/-- A zone state item of STATUS (R193): 0x80 more while the marker is set. -/
def zoneStateByte (zs : ZoneSlot) : Byte :=
  byte (zs.slot.code + if zs.marker.isEmpty then 0 else 0x80)

/-- Whether a dwell is active (R98). -/
def Dwell.isActive : Dwell → Bool
  | .inactive => false
  | .active _ _ _ => true

/-- Whether a queue of some length is full (R193). -/
def fullByte (n : Nat) : Byte := flagByte (queuePlaces ≤ n)

/-- The rack items of STATUS (R83): in transit; of them EXITED; carried; flushed. -/
def rackItems (q : List Rack) : List Byte :=
  [byte q.length, byte (q.countP (·.exited)), byte (q.countP (·.carried)),
   byte (q.countP fun r => r.flush.isSome)]

/-- The link items of STATUS (R193): queue counts, full flags, event pending, trace gap. -/
def queueItems (s : State) : List Byte :=
  [byte s.lk.events.length, byte s.lk.outcomes.length, byte s.lk.traces.length,
   fullByte s.lk.events.length, fullByte s.lk.outcomes.length, fullByte s.lk.traces.length,
   flagByte s.eventPending, flagByte s.lk.traceGap]

/-- The STATUS reply (R193), 38 bytes. -/
def statusItems (s : State) : List Byte :=
  [byte s.pmc.mode.code, byte s.pmc.haltCause.code]
    ++ s.pmc.zones.toList.map zoneStateByte
    ++ rackItems s.rt.queue ++ be32 s.rt.admitted.toNat ++ be32 s.lk.outcomesSent.toNat
    ++ [byte s.cm.table.length, byte (s.cm.table.countP fun c => !c.isResolved)]
    ++ queueItems s ++ [flagByte s.du.isActive] ++ be16 s.lk.linkErrors
    ++ [byte s.ck.state.code] ++ be32 (s.ck.lastWritten.getD 0)
    ++ [setByte s.ck.bad, zoneByte s.lk.traceZone]

/-- STATUS (R193). -/
def execStatus (s : State) : Host.Outcome State Fault Refusal :=
  .next (takeRequest 0x02 0 true (fun _ s => (s, resOk :: statusItems s)) s)

/-! ### ZONE_READ -/

/-- Zone z is ACTIVE (R41), with a temperature reading and the lines as they stand. -/
def zoneActive (slot : SlotState) (lines : Lines) (z : Zone) (temperature : Reading) : Bool :=
  match slot, temperature.trusted with
  | .online r, some t => lines.drive (.pump z) && r.tMin ≤ t
  | _, _ => false

/-- A channel entry of ZONE_READ (R194). -/
def channelItems (c : Channel) : List Byte :=
  [flagByte c.calibration.isSome] ++ be16 c.reading.reported
    ++ [byte c.reading.validityCode, byte c.runCount]

/-- The zone items of ZONE_READ (R42, R194): all 0 for an UNCONFIGURED zone. -/
def zoneItems (z : Zone) (s : State) : List Byte :=
  let zs := s.pmc.zones.get z
  match zs.slot with
  | .unconfigured => List.replicate 29 0
  | slot =>
    [byte slot.code, flagByte (!zs.marker.isEmpty)]
      ++ ((s.smp.channels.get z).toList.map channelItems).flatten
      ++ [flagByte (zoneActive slot s.lg z (s.smp.channels.get z).temp.reading)]
      ++ (LineId.ofZone z).map (fun id => flagByte (s.lg.drive id))
      ++ [byte (s.lg.driven z)]

/-- The ZONE_READ reply data (R42, R194), 35 bytes. -/
def zoneReadItems (z : Zone) (s : State) : List Byte :=
  zoneItems z s ++ [flagByte s.smp.panWet, flagByte s.smp.eyeBlocked] ++ be32 s.smp.travel.toNat

/-- ZONE_READ (R42). -/
def zoneReadRequest (p : List Byte) (s : State) : Answered :=
  match zoneOperand (u8 p 0) with
  | none => refuse s resBadArg
  | some z => (s, resOk :: zoneReadItems z s)

/-- ZONE_READ (R42). -/
def execZoneRead (s : State) : Host.Outcome State Fault Refusal :=
  .next (takeRequest 0x09 1 false zoneReadRequest s)

/-! ### LINES_READ -/

/-- A claim of a line entry (R194). -/
def Claim.bytes (c : Claim) : List Byte := [byte c.owner.code, byte c.owner.caseId, byte c.kind.code]

/-- A line entry (R59, R194). -/
def lineEntry (ls : Lines) (id : LineId) : List Byte :=
  let l := ls.get id
  [byte id.number, flagByte l.request, flagByte l.drive, byte l.claims.length]
    ++ (l.claims.map Claim.bytes).flatten

/-- As many whole entries as fit in some room, from the first on (R59). -/
def fitEntries : Nat → List (List Byte) → List (List Byte)
  | _, [] => []
  | room, e :: es => if e.length ≤ room then e :: fitEntries (room - e.length) es else []

/-- The room a LINES_READ reply has for entries (R194). -/
def lineEntryRoom : Nat := 245

/-- The LINES_READ reply data (R59, R194). -/
def linesReadItems (first : Nat) (s : State) : List Byte :=
  let es := fitEntries lineEntryRoom ((LineId.all.drop first).map (lineEntry s.lg))
  [byte first, byte es.length] ++ es.flatten

/-- LINES_READ (R59). -/
def linesReadRequest (p : List Byte) (s : State) : Answered :=
  if 21 < u8 p 0 then refuse s resBadArg else (s, resOk :: linesReadItems (u8 p 0) s)

/-- LINES_READ (R59). -/
def execLinesRead (s : State) : Host.Outcome State Fault Refusal :=
  .next (takeRequest 0x0A 1 false linesReadRequest s)

/-! ### RACKS_READ -/

/-- The flags of a rack entry (R194). -/
def Rack.flagsByte (r : Rack) : Byte :=
  byte (r.hold.isSome.toNat + 2 * r.dwellExpired.toNat + 4 * r.trackLost.toNat + 8 * r.exited.toNat
    + 16 * r.carried.toNat + 32 * r.linksMore.toNat)

/-- The outcome of a rack entry: all 0 while not EXITED (R194). -/
def outcomeItems (r : Rack) : List Byte :=
  match r.exited, r.outcome with
  | true, some o => [byte o.disposition.code, o.reasons.byte, setByte o.shortZones]
  | _, _ => [0, 0, 0]

/-- A rack entry of RACKS_READ (R82, R194), 28 bytes. -/
def Rack.readEntry (travel : Word32) (r : Rack) : List Byte :=
  be16 r.tag ++ be16 (r.position travel) ++ [setByte r.mask]
    ++ (r.contact.toList.map be16).flatten ++ be32 r.dose
    ++ [r.flagsByte, byte (holdCode r.hold), byte (flushCode r.flush), byte r.links.length]
    ++ linkBytes r.links ++ outcomeItems r

/-- The RACKS_READ reply data (R82, R194). -/
def racksReadItems (start : Nat) (s : State) : List Byte :=
  let rs := (s.rt.queue.drop start).take 8
  [byte s.rt.queue.length, byte rs.length] ++ (rs.map (Rack.readEntry s.smp.travel)).flatten

/-- RACKS_READ (R82). -/
def racksReadRequest (p : List Byte) (s : State) : Answered :=
  if 23 < u8 p 0 then refuse s resBadArg else (s, resOk :: racksReadItems (u8 p 0) s)

/-- RACKS_READ (R82). -/
def execRacksRead (s : State) : Host.Outcome State Fault Refusal :=
  .next (takeRequest 0x0B 1 false racksReadRequest s)

/-! ### CASE_READ -/

/-- An optional two-byte value: 0xFFFF when absent (R189). -/
def opt16 : Option Nat → List Byte
  | none => [0xFF, 0xFF]
  | some n => be16 n

/-- The run value of a case (R195): kept with its counter (R150, R152), absent without one. -/
def Case.runValue (c : Case) : Option Nat :=
  match c.proc, c.counter with
  | .heaterOpen _ _ _ _ sum, some _ => some sum
  | .heaterStuck _ _ low, some _ => some low
  | _, _ => none

/-- The reference levels a case reports (R195): those of a LEAK case in ISOLATING. -/
def Case.reportedRefs (c : Case) : Four (Option Nat) :=
  match c.proc, c.state with
  | .leak _ _ _ refs, .isolating => refs
  | _, _ => noReferences

/-- A list of claims, in line order, as the CASE_READ reply carries it (R195). -/
def claimItems (cs : ClaimSet) : List Byte :=
  let es := LineId.all.filterMap fun id => (cs.on id).map fun k => [byte id.number, byte k.code]
  byte es.length :: es.flatten

/-- The CASE_READ reply data (R130, R195). The step timer is in tenths of a second, rounded down. -/
def caseReadItems (c : Case) : List Byte :=
  [byte c.id, byte c.proc.kind.code, zoneByte c.proc.zone, c.proc.quantityByte, byte c.state.code,
   byte c.step.code]
    ++ opt16 (c.timer.map (· / 100)) ++ opt16 c.counter ++ opt16 c.runValue
    ++ [c.proc.attemptByte, byte c.recurrence, flagByte c.suspended, flagByte c.announce]
    ++ be32 c.openedAt.toNat ++ c.proc.detail
    ++ (c.reportedRefs.toList.map opt16).flatten
    ++ claimItems c.posted ++ claimItems c.held

/-- CASE_READ (R130). -/
def caseReadRequest (p : List Byte) (s : State) : Answered :=
  match findCase s.cm.table (u8 p 0) with
  | none => refuse s resNoSuch
  | some c => if u8 p 0 = 0 then refuse s resNoSuch else (s, resOk :: caseReadItems c)

/-- CASE_READ (R130). -/
def execCaseRead (s : State) : Host.Outcome State Fault Refusal :=
  .next (takeRequest 0x0C 1 false caseReadRequest s)

end Sys2Proof.Machine
end

