-- ==== Sys2Proof/Machine/ResetCmds.lean ====
section
/-! DEFINITION. Supply, resets and pins: the resets (R171, R172, R199), the end of STARTING (R170), the
request inputs (R45), and what stands at the output pins (R199). -/

namespace Sys2Proof.Machine

/-! ### Going down -/

/-- The part stops taking input; a write in flight is cut, and so is the frame in transmission, TX being held
low (R166, R199). The other registers keep what they hold until the reset (DESIGN CHOICE, safe:
notes/assumptions/18.md). -/
def State.goDown (p : Power) (s : State) : State :=
  ((s.setPower p).setCk s.ck.cut).setLk { s.lk with tx := .idle }

/-- POWER_LOST (R199): the supply falls below 2.9 V. -/
def execPowerLost (s : State) : Host.Outcome State Fault Refusal :=
  .next (s.goDown { s.power with supplyGood := false, supplyLost := true })

/-- RESET_PIN_ASSERTED (R199): RESETn goes low. -/
def execResetPinAsserted (s : State) : Host.Outcome State Fault Refusal :=
  .next (s.goDown { s.power with resetLow := true })

/-! ### Resets -/

/-- POWER_RESET (R171, R199): with RESETn low the reset goes on, to end as a power reset when RESETn
rises. -/
def execPowerReset (strap : Baud) (s : State) : Host.Outcome State Fault Refusal :=
  .next
    (if s.power.resetLow then s.goDown { s.power with supplyGood := true, supplyLost := true }
    else s.endReset .power strap)

/-- The cause of a reset that ends with RESETn (R171): a power loss during it makes it a power reset
(DEDUCED, unsafe: notes/assumptions/16.md). -/
def pinCause (p : Power) : ResetCause := if p.supplyLost then .power else .pin

/-- PIN_RESET (R171, R199): with the supply out of range the reset goes on, to end with the supply. -/
def execPinReset (strap : Baud) (s : State) : Host.Outcome State Fault Refusal :=
  .next
    (if !s.power.supplyGood then s.goDown { s.power with resetLow := false }
    else s.endReset (pinCause s.power) strap)

/-- PERFORM_RESTART (R172): performed when a taken RESTART's reply has left the reply slot. -/
def execPerformRestart (strap : Baud) (s : State) : Host.Outcome State Fault Refusal :=
  .next (if s.powered && s.lk.restart = .due then s.endReset .restart strap else s)

/-! ### The end of STARTING -/

/-- What the restore scan hands over (R168, R169): to CK its counters, to the Rack Tracker the carried
records, to the Case Manager the next case id. -/
def State.restore (s : State) : State :=
  let choice := restoreChoice s.ck.slots
  ((s.setCk s.ck.afterScan).setRt (Rt.afterScan choice)).setCm
    { s.cm with nextId := caseIdAfterScan choice }

/-- The one event that ends STARTING (R170): the restore notice, the drain step, the mode change, and the
checkpoint notice where the restore has exhausted the generations. -/
def State.startingEnd (s : State) : State :=
  let q := (s.restore.announceRestore.drainRacks).changeMode .standby .none
  (if q.ck.state = .exhausted then q.announceCheckpoint else q).commit

/-- STARTING_END (R170). -/
def execStartingEnd (s : State) : Host.Outcome State Fault Refusal :=
  .next (if s.live && s.pmc.mode = .starting then s.startingEnd else s)

/-! ### Request inputs -/

/-- REQUEST_INPUT_CHANGE (R45); while the part takes no input only the pin's level changes (R199; DEDUCED,
unsafe: notes/assumptions/15.md). A line above 21 is refused (notes/assumptions/23.md). -/
def execRequestInputChange (line : Nat) (on : Bool) (s : State) : Host.Outcome State Fault Refusal :=
  match LineId.ofNumber line with
  | none => .refused .noSuchInput
  | some id => .next (if s.live then s.request id on else s.inputOnly id on)

/-! ### Output pins -/

/-- The drive output of a line (R44, R199). -/
def State.drvPin (s : State) (id : LineId) : Bool := s.powered && s.lg.drive id

/-- TX (R173, R181, R199): the levels it goes through up to the next boundary, one for each bit time; held
low while RESETn is low or the supply is out of range, and idle high between frames. -/
def State.txPin (s : State) : List Bool := if s.powered then s.lk.tx.levels else [false]

/-- RDY (R175, R199). -/
def State.rdyPin (s : State) : Bool := s.powered && s.lk.rx.rdy

/-- ATTN (R185, R199). -/
def State.attnPin (s : State) : Bool := s.powered && s.lk.attn

end Sys2Proof.Machine
end

