-- ==== Sys2Proof/Machine/RoundCmds.lean ====
section
/-! DEFINITION. SAMPLE_ROUND and ENCODER_PULSE: debouncing (R36 to R39), the zone sample and its six
consumers (R27, R29), what a case takes from a sample (R134 to R156), travel events (R40). -/

namespace Sys2Proof.Machine

/-! ### What a case takes from a zone sample -/

/-- A tank's level at or below its level_empty, VALID or STALE (R138). -/
def tankDrained (s : State) (z : Zone) : Bool :=
  match (s.smp.channels.get z).level.reading.judged, (s.pmc.zones.get z).slot.record with
  | some v, some r => v ≤ r.levelEmpty
  | _, _ => false

/-- A LEAK case in ISOLATING at a sample of z (R136). -/
def Case.isolateSample (z : Zone) (lines : Lines) (source : LeakSource) (leaking unassessed : ZoneSet)
    (refs : Four (Option Nat)) (c : Case) : Case :=
  if (refs.get z).isSome && lines.drive (.drain z) then
    { c with proc := .leak source leaking (zoneAdd unassessed z) (refs.set z none) }
  else c

/-- A LEAK case in ACTING at a sample of z (R138). -/
def Case.drainSample (z : Zone) (s : State) (source : LeakSource) (leaking unassessed : ZoneSet)
    (c : Case) : Case :=
  if leaking.get z && (zonesIn leaking).all (tankDrained s) then
    c.leakManual source leaking unassessed
  else c

/-- A FILTER case in REFILL at a sample of its zone (R145). -/
def Case.refillSample (z : Zone) (rec : ZoneRecord) (level : Reading) (pressure attempt : Nat)
    (l : Limits) (c : Case) : Case :=
  match level.judged with
  | some v => if rec.levelSetpoint ≤ v then c.filterVerify z pressure attempt l else c
  | none => c

/-- A FILTER case in VERIFYING at a sample of its zone (R146). -/
def Case.verifySample (goal n : Nat) (c : Case) : Case :=
  if goal ≤ n + 1 then c.resolve else { c with counter := some (n + 1) }

/-- The counted samples that end an element test (R150). -/
def elementSamples : Nat := 4

/-- The mean of a finished element test says that the element is open (R150). -/
def elementOpen (rec : ZoneRecord) (sum : Nat) : Bool :=
  sum / elementSamples < halfElement rec.elementCurrent

/-- A HEATER_OPEN case in a test step at a sample of its zone (R150, R151): `driven` says whether the
element under test is driven. -/
def Case.testSample (z : Zone) (rec : ZoneRecord) (driven : Bool) (current : Reading)
    (k : Nat) (openA openB : Bool) (sum n : Nat) (c : Case) : Case :=
  match driven, current.judged with
  | true, some v =>
    if n + 1 < elementSamples then
      { c with proc := .heaterOpen z k openA openB (sum + v), counter := some (n + 1) }
    else if c.step = .testB then c.endTests z k openA (elementOpen rec (sum + v))
    else c.testElement z k (elementOpen rec (sum + v)) openB .testB
  | _, _ => c

/-- A HEATER_STUCK case in ISOLATING at a sample of its zone (R152), and whether its current was not
isolated, so that the machine halts. -/
def Case.stuckSample (z : Zone) (rec : ZoneRecord) (current : Reading) (carried lowRun n : Nat)
    (c : Case) : Case × Bool :=
  let low :=
    match current.judged with
    | some v => if v < halfElement rec.elementCurrent then lowRun + 1 else 0
    | none => 0
  if 3 ≤ low then (c.goto (.heaterStuck z carried 0) .manual .none none none, false)
  else if 8 ≤ n + 1 then (c.goto (.heaterStuck z carried 0) .manual .none none none, true)
  else ({ c with proc := .heaterStuck z carried low, counter := some (n + 1) }, false)

/-- An OVERTEMP case in ACTING at a sample of its zone (R154). -/
def Case.hotSample (z : Zone) (rec : ZoneRecord) (temperature : Reading) (carried n : Nat)
    (c : Case) : Case :=
  match temperature with
  | .unknown => { c with counter := some 0 }
  | .valid v =>
    if v + 50 ≤ rec.tMax then c.resolve
    else if rec.tMax + 30 ≤ v then
      if 3 ≤ n + 1 then c.goto (.overtemp z carried) .manual .none none none
      else { c with counter := some (n + 1) }
    else { c with counter := some 0 }
  | .stale v =>
    if rec.tMax + 30 ≤ v then
      if 3 ≤ n + 1 then c.goto (.overtemp z carried) .manual .none none none
      else { c with counter := some (n + 1) }
    else { c with counter := some 0 }

/-- A SENSOR case of a channel at a sample of its zone (R156). -/
def Case.sensorSample (reading : Reading) (n : Nat) (c : Case) : Case :=
  match reading with
  | .valid _ => if 8 ≤ n + 1 then c.resolve else { c with counter := some (n + 1) }
  | _ => { c with counter := some 0 }

/-- What a case that takes a sample of zone z makes of itself (R134), and whether the machine halts on
it (R152). `lines` are the lines as the drives stood at the sample (R29). -/
def Case.sample (z : Zone) (rec : ZoneRecord) (lines : Lines) (r : Quad Reading) (s : State) (c : Case) :
    Case × Bool :=
  match c.proc, c.state with
  | .leak src leaking un refs, .isolating => (c.isolateSample z lines src leaking un refs, false)
  | .leak src leaking un _, .acting => (c.drainSample z s src leaking un, false)
  | .filter cz pressure attempt _, .acting =>
    (if cz = z && c.step = .refill then
      c.refillSample z rec r.level pressure attempt s.pmc.limits
     else c, false)
  | .filter cz _ _ goal, .verifying =>
    (if cz = z then c.verifySample goal (c.counter.getD 0) else c, false)
  | .heaterOpen cz k a b sum, .isolating =>
    (if cz = z then
      c.testSample z rec (if c.step = .testB then lines.drivenB z else lines.drivenA z)
        r.current k a b sum (c.counter.getD 0)
     else c, false)
  | .heaterStuck cz carried low, .isolating =>
    if cz = z then c.stuckSample z rec r.current carried low (c.counter.getD 0) else (c, false)
  | .overtemp cz carried, .acting =>
    (if cz = z then c.hotSample z rec r.temp carried (c.counter.getD 0) else c, false)
  | .sensor cz q, .degraded =>
    (if cz = z then c.sensorSample (r.get q) (c.counter.getD 0) else c, false)
  | _, _ => (c, false)

/-- A case's record moves on by its own procedure: resolved (R57, R3), or changed. -/
def State.advanceCase (old new : Case) (s : State) : State :=
  if new.isResolved && !old.isResolved then (s.removeMarkers old.id).alterCase old new
  else s.alterCase old new

/-- The case with an id takes the sample of zone z, unless it is suspended (R125, R134); an unisolated
current halts the machine in the same event (R152, R20), and suspension is evaluated after both (R124). -/
def State.caseSample (z : Zone) (rec : ZoneRecord) (lines : Lines) (r : Quad Reading) (s : State)
    (id : Nat) : State :=
  match findCase s.cm.table id with
  | none => s
  | some c =>
    if c.suspended then s
    else
      let n := c.sample z rec lines r s
      let q := s.advanceCase c n.1
      ((if n.2 then q.enterHalt .unisolatedHeat else q).settleAfter c n.1).commit

/-! ### The consumers of a zone sample -/

/-- The Rack Tracker's part (R29, R68): contact in an ACTIVE zone. -/
def State.contactSample (z : Zone) (lines : Lines) (r : Quad Reading) (s : State) : State :=
  let slot := (s.pmc.zones.get z).slot
  if zoneActive slot lines z r.temp then
    s.setRt { s.rt with queue := s.rt.queue.map (Rack.addContact z slot s.smp.travel) }
  else s

/-- The increment stage of the Dose Unit (R86, R91). -/
def State.doseSample (z : Zone) (lines : Lines) (r : Quad Reading) (s : State) : State :=
  let slot := (s.pmc.zones.get z).slot
  match slot.isOnline && lines.drive (.pump z), r.temp.trusted with
  | true, some t =>
    s.setRt
      { s.rt with
        queue := s.rt.queue.map (Rack.addDose slot s.smp.travel (doseIncrement s.pmc.limits t)) }
  | _, _ => s

/-- The dwell evaluation of a final-zone sample of zone z (R93, R94). -/
def State.dwellSample (z : Zone) (s : State) : State :=
  let found := candidates (s.pmc.zones.get z).slot s.smp.travel s.pmc.limits s.rt.queue
  match s.du with
  | .inactive =>
    if found.isEmpty || s.pmc.limits.dwellLimit = 0 then s
    else
      let d := Dwell.active z (seconds s.pmc.limits.dwellLimit) found
      (s.setDu d).applySets [(.dwell, dwellClaims d)]
  | .active dz timer _ =>
    if dz = z then if found.isEmpty then s.endDwell else s.setDu (.active dz timer found)
    else s

/-- The Dose Unit's part, at a final-zone sample (R85): increment, then in RUN dwell control. -/
def State.finalSample (z : Zone) (lines : Lines) (r : Quad Reading) (s : State) : State :=
  match (s.pmc.zones.get z).slot.record with
  | none => s
  | some rec =>
    if rec.final then
      let q := s.doseSample z lines r
      if q.pmc.mode = .run then q.dwellSample z else q
    else s

/-- The Fault Detectors' part (R100, R102, R111): the tank's detectors, and the detections of the sample
in the order in which they are handed over. An UNCONFIGURED zone's sample is not taken. -/
def State.detectorSample (z : Zone) (lines : Lines) (r : Quad Reading) (runs : List Quantity)
    (s : State) : State × List Detection :=
  match (s.pmc.zones.get z).slot.record with
  | none => (s, [])
  | some rec =>
    let t := (s.fd.tanks.get z).sample lines z rec s.pmc.limits.leakWindow r
    (s.setFd { s.fd with tanks := s.fd.tanks.set z t.1 }, t.2 ++ runs.map (Detection.sensor z))

/-- The cases take the sample in table order, each as an event of its own (R134): those that stood in the
table when the sample was raised (DEDUCED, unsafe: notes/assumptions/8.md). The order is a DESIGN CHOICE,
unsafe: notes/assumptions/6.md. -/
def State.casesSample (z : Zone) (lines : Lines) (r : Quad Reading) (ids : List Nat) (s : State) : State :=
  match (s.pmc.zones.get z).slot.record with
  | none => s
  | some rec => ids.foldl (State.caseSample z rec lines r) s

/-- The Case Manager's part (R29, R102, R134): the detections, and among them, after `first` of them, the
sample itself. -/
def State.managerSample (z : Zone) (lines : Lines) (r : Quad Reading) (ds : List Detection)
    (first : Nat) (ids : List Nat) (s : State) : State :=
  let a := (ds.take first).foldl State.detectEvent s
  (ds.drop first).foldl State.detectEvent (a.casesSample z lines r ids)

/-- The standing guards of zone z, from the readings of the sample (R55). Where both change, the set of
TEMP_GUARD joins the claim lists first and the lines are resolved once: DESIGN CHOICE, unsafe,
notes/assumptions/28.md. -/
def State.guardSample (z : Zone) (r : Quad Reading) (s : State) : State :=
  s.applySets
    [(.tempGuard z, tempGuardClaims z r.temp),
     (.levelGuard z, levelGuardClaims z (s.pmc.zones.get z).slot r.level)]

/-- The Link Controller's part (R184): a TRACE notice while the zone is selected. -/
def State.traceSample (z : Zone) (r : Quad Reading) (s : State) : State :=
  if s.lk.traceZone = some z then s.setLk (s.lk.trace { zone := z, readings := r }) else s

/-- One zone sample: conversion (R27), then the six consumers (R29), every one of them on the readings
the sample carries and on the lines as they stood when it was raised. The consumers' order, where no rule
gives it, is a DESIGN CHOICE, unsafe: notes/assumptions/7.md. -/
def State.zoneSample (codes : Quad Nat) (order : ZoneOrder) (z : Zone) (s : State) : State :=
  let conv := sampleChannels (s.smp.channels.get z) codes
  let r := readingsOf conv.1
  let lines := s.lg
  let ids := s.cm.table.map (·.id)
  let s1 := s.setSmp { s.smp with channels := s.smp.channels.set z conv.1 }
  let s2 := (s1.contactSample z lines r).finalSample z lines r
  let f := s2.detectorSample z lines r conv.2
  let s3 := f.1.traceSample z r
  if order.guardsFirst then (s3.guardSample z r).managerSample z lines r f.2 order.detectionsFirst ids
  else (s3.managerSample z lines r f.2 order.detectionsFirst ids).guardSample z r

/-! ### The round -/

/-- The debounced inputs after the raw samples of a round (R36, R37). -/
def Smp.debounced (m : Smp) (input : RoundInput) : Smp :=
  { m with panWet := debounce m.panWet m.panPrevious input.panWet
           eyeBlocked := debounce m.eyeBlocked m.eyePrevious input.eyeBlocked
           panPrevious := some input.panWet
           eyePrevious := some input.eyeBlocked
           sinceRound := some 0 }

/-- The pan float's change at a round (R38, R103): wet makes a detection; dry, handed to the LEAK case,
changes nothing (R142). -/
def State.panEvent (before : Smp) (s : State) : State :=
  if !before.panWet && s.smp.panWet then s.detectEvent .leakPan else s

/-- The entry eye's change at a round (R39): clear to blocked is an entry event, taken in RUN. -/
def State.eyeEvent (before : Smp) (s : State) : State :=
  if !before.eyeBlocked && s.smp.eyeBlocked then s.entryEvent.commit else s

/-- One round (R27, R36). -/
def State.sampleRound (input : RoundInput) (s : State) : State :=
  let q := s.setSmp (s.smp.debounced input)
  let e :=
    if input.eyeFirst then (q.eyeEvent s.smp).panEvent s.smp else (q.panEvent s.smp).eyeEvent s.smp
  Four.indices.foldl (fun a z => a.zoneSample (input.codes.get z) (input.order.get z) z) e

/-- SAMPLE_ROUND (R27, R28): no rounds are raised in STARTING. -/
def execSampleRound (input : RoundInput) (s : State) : Host.Outcome State Fault Refusal :=
  if !input.codesInRange then .refused .noSuchInput
  else .next (if s.live && s.pmc.mode != .starting then s.sampleRound input else s)

/-! ### Travel -/

/-- A travel event at the Fault Detectors (R112, R113): a running silence timer restarts; a pulse with the
CONVEYOR drive on resolves the TRAVEL case (R157). They take no event in STARTING (R115). -/
def State.pulseDetectors (s : State) : State :=
  if s.pmc.mode = .starting then s
  else
    let q := s.setFd { s.fd with silence := silenceAfterPulse s.pmc.limits s.fd.silence }
    if q.lg.drive .conveyor then
      match q.cm.table.find? (Case.takes .travel) with
      | some c => q.resolveCase c
      | none => q
    else q

/-- One pulse counted into travel (R40), a travel event to the Rack Tracker and the Fault Detectors, in
either order. -/
def State.pulse (trackerFirst : Bool) (s : State) : State :=
  let q :=
    s.setSmp { s.smp with travel := s.smp.travel + BitVec.ofNat 32 s.pmc.limits.mmPerPulse }
  if trackerFirst then q.testExits.pulseDetectors.commit else q.pulseDetectors.testExits.commit

/-- ENCODER_PULSE (R40, R199): an edge that comes too soon after the last counted one is not counted. -/
def execEncoderPulse (spaced trackerFirst : Bool) (s : State) : Host.Outcome State Fault Refusal :=
  .next (if s.live && spaced then s.pulse trackerFirst else s)

end Sys2Proof.Machine
end

