-- ==== Sys2Proof/Machine/StoreCmds.lean ====
section
/-! DEFINITION. The completion events of a checkpoint write (R164, R165). -/

namespace Sys2Proof.Machine

/-- The erase is complete (R164): the slot is blank, and programming begins. -/
def Ck.eraseComplete (ck : Ck) : Ck :=
  match ck.write with
  | .busy .erasing snap target =>
    { ck with write := .busy .programming snap target, slots := ck.slots.set target .blank }
  | _ => ck

/-- ERASE_COMPLETE (R164). -/
def execEraseComplete (s : State) : Host.Outcome State Fault Refusal :=
  .next (if s.live then s.setCk s.ck.eraseComplete else s)

/-- Programming is complete (R164): the slot holds the snapshot with its check value last, less what the cells
did not take, and is read back (DESIGN CHOICE, unsafe: notes/assumptions/19.md). -/
def Ck.programComplete (damage : BitVec 16) (ck : Ck) : Ck :=
  match ck.write with
  | .busy .programming snap target =>
    { ck with write := .busy .verifying snap target,
              slots := ck.slots.set target (.record snap (snap.checkValue ^^^ damage)) }
  | _ => ck

/-- PROGRAM_COMPLETE (R164). -/
def execProgramComplete (damage : BitVec 16) (s : State) : Host.Outcome State Fault Refusal :=
  .next (if s.live then s.setCk (s.ck.programComplete damage) else s)

/-- The read-back finds the slot valid with the generation of the snapshot in flight (R164, R165). -/
def verifiedBy (snap : Snapshot) (contents : SlotContents) : Bool :=
  match contents.valid with
  | some s => s.generation = snap.generation
  | none => false

/-- A write is verified (R164): the current slot and the last written generation follow it. At the last
generation the state becomes EXHAUSTED, announced; otherwise a pending write starts. -/
def State.writeVerified (snap : Snapshot) (target : Fin 4) (s : State) : State :=
  let q :=
    s.setCk { s.ck with write := .idle, current := some target, lastWritten := some snap.generation,
                        pending := false }
  if snap.generation = lastGeneration then
    (q.setCk { q.ck with state := .exhausted }).announceCheckpoint
  else if s.ck.pending then q.startWrite
  else q

/-- A write whose read-back has failed (R165): the slot is BAD; the same snapshot goes to the next GOOD
slot, or, with none left, the state becomes FAILED, announced. What the failed slot reads as at a later
restore scan is a free value. -/
def State.writeFailed (snap : Snapshot) (target : Fin 4) (s : State) : State :=
  let marked :=
    { s.ck with
      bad := s.ck.bad.set target true
      slots := s.ck.slots.set target (.record snap (Config.failedSlotCheck s.freeIndex)) }
  let q := { s.setCk marked with freeIndex := s.freeIndex + 1 }
  match targetAfter (some target) marked.bad with
  | some t => q.setCk (q.ck.startErase snap t)
  | none =>
    (q.setCk { q.ck with write := .idle, pending := false, state := .failed }).announceCheckpoint

/-- The read-back is complete (R164, R165). -/
def State.verifyComplete (s : State) : State :=
  match s.ck.write with
  | .busy .verifying snap target =>
    if verifiedBy snap (s.ck.slots.get target) then s.writeVerified snap target
    else s.writeFailed snap target
  | _ => s

/-- VERIFY_COMPLETE (R164, R165). -/
def execVerifyComplete (s : State) : Host.Outcome State Fault Refusal :=
  .next (if s.live then s.verifyComplete else s)

end Sys2Proof.Machine
end

