-- ==== Sys2Proof/Machine/TimerCmds.lean ====
section
/-! DEFINITION. The expiries of the timers outside the Case Manager: the dwell timer (R95), the leak
windows (R106), the encoder silence timer (R113). An expiry acts where its timer stands at 0: one that an
event before it has stopped or restarted does not expire (R96, R106, R113). -/

namespace Sys2Proof.Machine

/-- The dwell timer has reached 0 (R95): the candidates still inside are flagged and the dwell ends. -/
def State.dwellExpiry (s : State) : State :=
  match s.du with
  | .active _ 0 tags =>
    (s.setRt { s.rt with queue := s.rt.queue.map (Rack.expireDwell tags) }).endDwell
  | _ => s

/-- DWELL_EXPIRY (R95). -/
def execDwellExpiry (s : State) : Host.Outcome State Fault Refusal :=
  .next (if s.live then s.dwellExpiry else s)

/-- The leak window of a tank expires (R106). -/
def State.leakWindowExpiry (tank : Zone) (s : State) : State :=
  s.setFd
    { s.fd with
      tanks := s.fd.tanks.set tank
        (Tank.windowExpired s.pmc.limits.leakWindow (s.smp.channels.get tank).level.reading
          (s.fd.tanks.get tank)) }

/-- The Fault Detectors take events: not in STARTING (R115). -/
def State.detecting (s : State) : Bool := s.live && s.pmc.mode != .starting

/-- LEAK_WINDOW_EXPIRY (R106). -/
def execLeakWindowExpiry (tank : Zone) (s : State) : Host.Outcome State Fault Refusal :=
  .next (if s.detecting then s.leakWindowExpiry tank else s)

/-- The encoder silence timer has reached 0 (R113): it restarts, and a TRAVEL detection is made. A HALT
or a claim that the detection brings about stops the timer again with the drive (R112; DEDUCED, unsafe:
notes/assumptions/21.md). -/
def State.silenceExpiry (s : State) : State :=
  match s.fd.silence with
  | some 0 =>
    (s.setFd { s.fd with silence := some (seconds s.pmc.limits.encoderSilence) }).detectEvent .travel
  | _ => s

/-- ENCODER_SILENCE_EXPIRY (R113). -/
def execEncoderSilenceExpiry (s : State) : Host.Outcome State Fault Refusal :=
  .next (if s.detecting then s.silenceExpiry else s)

end Sys2Proof.Machine
end

