-- ==== Sys2Proof/Machine/Dispatch.lean ====
section
/-! DEFINITION. The meaning of every command: one arm per constructor, each one call of that command's
own meaning. -/

namespace Sys2Proof.Machine

/-- What a command does to everything but the queue of waiting commands. -/
def exec (i : Instr) (s : State) : Host.Outcome State Fault Refusal :=
  match i with
  | .powerReset strap => Sys2Proof.Machine.execPowerReset strap s
  | .pinReset strap => Sys2Proof.Machine.execPinReset strap s
  | .performRestart strap => Sys2Proof.Machine.execPerformRestart strap s
  | .startingEnd => Sys2Proof.Machine.execStartingEnd s
  | .linkReset => Sys2Proof.Machine.execLinkReset s
  | .rxByte data ending => Sys2Proof.Machine.execRxByte data ending s
  | .frameGapTimeout => Sys2Proof.Machine.execFrameGapTimeout s
  | .unknownKind => Sys2Proof.Machine.execUnknownKind s
  | .ident => Sys2Proof.Machine.execIdent s
  | .status => Sys2Proof.Machine.execStatus s
  | .mode => Sys2Proof.Machine.execMode s
  | .zoneLoad => Sys2Proof.Machine.execZoneLoad s
  | .chanLoad => Sys2Proof.Machine.execChanLoad s
  | .limitsLoad => Sys2Proof.Machine.execLimitsLoad s
  | .zoneOn => Sys2Proof.Machine.execZoneOn s
  | .zoneOff => Sys2Proof.Machine.execZoneOff s
  | .zoneRead => Sys2Proof.Machine.execZoneRead s
  | .linesRead => Sys2Proof.Machine.execLinesRead s
  | .racksRead => Sys2Proof.Machine.execRacksRead s
  | .caseRead => Sys2Proof.Machine.execCaseRead s
  | .caseClear => Sys2Proof.Machine.execCaseClear s
  | .caseRetry => Sys2Proof.Machine.execCaseRetry s
  | .haltClear => Sys2Proof.Machine.execHaltClear s
  | .trace => Sys2Proof.Machine.execTrace s
  | .restart => Sys2Proof.Machine.execRestart s
  | .requestInputChange line on => Sys2Proof.Machine.execRequestInputChange line on s
  | .holdChange active => Sys2Proof.Machine.execHoldChange active s
  | .transmitStart => Sys2Proof.Machine.execTransmitStart s
  | .replySent => Sys2Proof.Machine.execReplySent s
  | .eventNoticeSent => Sys2Proof.Machine.execEventNoticeSent s
  | .outcomeNoticeSent => Sys2Proof.Machine.execOutcomeNoticeSent s
  | .traceNoticeSent => Sys2Proof.Machine.execTraceNoticeSent s
  | .sampleRound input => Sys2Proof.Machine.execSampleRound input s
  | .encoderPulse spaced trackerFirst => Sys2Proof.Machine.execEncoderPulse spaced trackerFirst s
  | .eraseComplete => Sys2Proof.Machine.execEraseComplete s
  | .programComplete damage => Sys2Proof.Machine.execProgramComplete damage s
  | .verifyComplete => Sys2Proof.Machine.execVerifyComplete s
  | .dwellExpiry => Sys2Proof.Machine.execDwellExpiry s
  | .leakWindowExpiry tank => Sys2Proof.Machine.execLeakWindowExpiry tank s
  | .encoderSilenceExpiry => Sys2Proof.Machine.execEncoderSilenceExpiry s
  | .localiseExpiry => Sys2Proof.Machine.execLocaliseExpiry s
  | .drainTimeoutExpiry => Sys2Proof.Machine.execDrainTimeoutExpiry s
  | .leakVerifyExpiry => Sys2Proof.Machine.execLeakVerifyExpiry s
  | .leakWatchExpiry => Sys2Proof.Machine.execLeakWatchExpiry s
  | .purgeExpiry zone => Sys2Proof.Machine.execPurgeExpiry zone s
  | .refillExpiry zone => Sys2Proof.Machine.execRefillExpiry zone s
  | .powerLost => Sys2Proof.Machine.execPowerLost s
  | .resetPinAsserted => Sys2Proof.Machine.execResetPinAsserted s
  | .breakEnd => Sys2Proof.Machine.execBreakEnd s

end Sys2Proof.Machine
end

