-- ==== Sys2Proof/Machine/Step.lean ====
section
/-! DEFINITION. The step of the part: the command at the front of the queue is taken; with none waiting,
one millisecond passes (DESIGN CHOICE, safe: notes/assumptions/2.md). -/

namespace Sys2Proof.Machine

/-- One step: the oldest waiting command is carried out on the state with the rest of the queue; with an
empty queue the oscillator runs on by one millisecond. -/
def step (s : State) : Host.Outcome State Fault Refusal :=
  match s.pending with
  | [] => .next s.tick
  | c :: rest => exec c { s with pending := rest }

/-- `s` with the command that a table word spells put at the front of the queue; no row of the table has
bits, so no word spells one (DEDUCED, safe: notes/assumptions/3.md). -/
def State.withFetchWord (s : State) (nbits w : Nat) : State :=
  match decodeTableWord nbits w with
  | some c => { s with pending := c :: s.pending }
  | none => s

end Sys2Proof.Machine
end

