-- ==== Sys2Proof/Safety.lean ====
section
/-! DEFINITION. What holds of a sound machine: the laws of the device (R48, R53 to R55, R62, R80, R91,
R120, R124, R125, R163, R175, R181) as predicates over one state. -/

namespace Sys2Proof.Machine

/-! ### Lines and claims -/

/-- The kind of an owner's claim on a line, if it holds one there. -/
def Lines.claimOf (ls : Lines) (o : Owner) (id : LineId) : Option ClaimKind :=
  ((ls.get id).claims.find? fun c => c.owner = o).map (·.kind)

/-- The kinds of an owner's claims on a line, in the order of the claim list. -/
def Lines.claimsOf (ls : Lines) (o : Owner) (id : LineId) : List ClaimKind :=
  ((ls.get id).claims.filter fun c => c.owner = o).map (·.kind)

/-- R48: every drive is off under a BLOCK, on under a FORCE without one, and else equal to its request. -/
def State.DrivesResolved (s : State) : Prop :=
  ∀ id : LineId,
    let l := s.lg.get id
    l.drive =
      if l.claims.any (fun c => c.kind = .block) then false
      else if l.claims.any (fun c => c.kind = .force) then true
      else l.request

/-- What an owner is to claim, from the state that decides it: the mode (R15), a zone slot (R52), a
reading (R53, R54), the dwell state (R92), the outcome queue (R74), a case record (R57, table 8.10). -/
def State.ownerWants (s : State) : Owner → ClaimSet
  | .mode => modeClaims s.pmc.mode
  | .ofCase n =>
    match findCase s.cm.table n with
    | some c => c.posted
    | none => []
  | .zoneOff z => zoneOffClaims z (s.pmc.zones.get z).slot
  | .tempGuard z => tempGuardClaims z (s.smp.channels.get z).temp.reading
  | .levelGuard z =>
    levelGuardClaims z (s.pmc.zones.get z).slot (s.smp.channels.get z).level.reading
  | .dwell => dwellClaims s.du
  | .outcomeStall => stallClaims s.lk.outcomes

/-- Every owner has on every line exactly the claim it is to have there, once, or none (R46, R47, R52 to
R58). -/
def State.ClaimsStand (s : State) : Prop :=
  ∀ (o : Owner) (id : LineId), s.lg.claimsOf o id = ((s.ownerWants o).on id).toList

/-! ### Cases -/

/-- R118, R120: at most 8 cases, each id once, and at most one case of a key outside RESOLVED. -/
def State.TableSound (s : State) : Prop :=
  s.cm.table.length ≤ casePlaces ∧ (s.cm.table.map (·.id)).Nodup
    ∧ ∀ k : Key, s.cm.table.countP (Case.takes k) ≤ 1

/-- R124, R125: exactly the cases that are to be held back are suspended. -/
def State.SuspensionSettled (s : State) : Prop :=
  ∀ c ∈ s.cm.table, c.suspended = c.heldBack s.pmc.mode s.cm.table

/-! ### Racks -/

/-- R68, R91, R61: the dose, the contact values and the links of a rack keep within their ranges. -/
def Rack.Bounded (r : Rack) : Prop :=
  r.dose ≤ doseLimit ∧ (∀ z : Zone, r.contact.get z ≤ contactLimit) ∧ r.links.length ≤ 4

/-- The same of a rack entry of a snapshot (R160). -/
def RackEntry.Bounded (e : RackEntry) : Prop :=
  e.dose ≤ doseLimit ∧ ∀ z : Zone, e.contact.get z ≤ contactLimit

/-- A snapshot holds at most 24 rack entries, each within its ranges (R160). -/
def Snapshot.Bounded (s : Snapshot) : Prop :=
  s.racks.length ≤ transitPlaces ∧ ∀ e ∈ s.racks, e.Bounded

/-- What a slot holds is within its ranges. -/
def SlotContents.Bounded : SlotContents → Prop
  | .record s _ => s.Bounded
  | _ => True

/-- The snapshots of the slots and of a write in flight are within their ranges. -/
def Ck.Bounded (ck : Ck) : Prop :=
  (∀ i : Fin 4, (ck.slots.get i).Bounded) ∧
    match ck.write with
    | .busy _ s _ => s.Bounded
    | .idle => True

/-- R62: EXITED records first, then those that are not; and every EXITED record has its outcome and its
exit position (R61, R69, R76). -/
def Rt.Shaped (rt : Rt) : Prop :=
  rt.queue.Pairwise (fun a b => b.exited = true → a.exited = true) ∧
    ∀ r ∈ rt.queue, r.exited = true → r.outcome.isSome = true ∧ r.exitPosition.isSome = true

/-- R62, R68, R91: at most 24 racks, in shape, each within its ranges, and so the snapshots. -/
def State.RacksSound (s : State) : Prop :=
  s.rt.queue.length ≤ transitPlaces ∧ s.rt.Shaped ∧ (∀ r ∈ s.rt.queue, r.Bounded) ∧ s.ck.Bounded

/-- R64: tags that were given one after another, and the one that is to be given next: 65535 is followed by 1. -/
def TagsRun (tags : List Nat) (next : Nat) : Prop :=
  (tags ++ [next]).IsChain (fun a b => b = if a = 65535 then 1 else a + 1)
    ∧ ∀ t ∈ tags ++ [next], 1 ≤ t ∧ t ≤ 65535

/-- R64, R76: the racks of a snapshot carry such a run of tags. -/
def Snapshot.TagsSound (s : Snapshot) : Prop := TagsRun (s.racks.map (·.tag)) s.nextTag

/-- R62 to R64: the tags of the transit queue are a run, so are those of the snapshots; the records that are
not EXITED have a stamp and no exit position, stand below 20,000 mm, and do not increase in position from head to
tail; exit_position and mm_per_pulse lie within their ranges (R4). -/
def State.RacksOrdered (s : State) : Prop :=
  TagsRun (s.rt.queue.map (·.tag)) s.rt.nextTag
    ∧ (∀ r ∈ s.rt.queue, r.exited = false →
        r.exitPosition = none ∧ r.entryStamp.isSome = true ∧ r.position s.smp.travel < 20000)
    ∧ s.rt.queue.Pairwise (fun a b => a.exited = false → b.exited = false →
        b.position s.smp.travel ≤ a.position s.smp.travel)
    ∧ s.pmc.limits.exitPosition ≤ 20000 ∧ s.pmc.limits.mmPerPulse ≤ 20
    ∧ (∀ (i : Fin 4) (sn : Snapshot) (check : BitVec 16),
        s.ck.slots.get i = .record sn check → sn.TagsSound)
    ∧ match s.ck.write with
      | .busy _ sn _ => sn.TagsSound
      | .idle => True

/-- R80: admitted = in transit + in the outcome queue + sent, modulo 2^32. -/
def State.RacksCounted (s : State) : Prop :=
  s.rt.admitted
    = BitVec.ofNat 32 (s.rt.queue.length + s.lk.outcomes.length) + s.lk.outcomesSent

/-! ### Queues -/

/-- R181, R175: each notice queue holds at most 16 notices, the inbound buffer at most 256 bytes. -/
def State.QueuesBounded (s : State) : Prop :=
  s.lk.events.length ≤ queuePlaces ∧ s.lk.outcomes.length ≤ queuePlaces
    ∧ s.lk.traces.length ≤ queuePlaces ∧ s.lk.rx.count ≤ inboundPlaces

/-- A frame of a queue is being sent only while that queue holds it (R181). -/
def Lk.SendsHeld (l : Lk) : Prop :=
  (l.isSending .reply = true → l.reply.isSome = true) ∧ (l.isSending .event = true → l.events ≠ [])
    ∧ (l.isSending .outcome = true → l.outcomes ≠ []) ∧ (l.isSending .trace = true → l.traces ≠ [])

/-! ### Start-up and checkpoints -/

/-- In STARTING nothing is tracked yet: no rack, no case, no outcome, no write, nothing sent (R84, R133,
R161, R187); between events no checkpoint trigger stands (R162). -/
def State.Quiet (s : State) : Prop :=
  s.ck.trigger = false ∧
    (s.pmc.mode = .starting →
      s.rt.queue = [] ∧ s.cm.table = [] ∧ s.ck.write = .idle ∧ s.lk.outcomes = []
        ∧ s.lk.outcomesSent = 0 ∧ s.rt.admitted = 0)

/-- R163, R165: the first slot marked GOOD after a slot, counting 0, 1, 2, 3 and round; from slot 0 on where
there is none. -/
def NextGood (after : Option (Fin 4)) (bad : ZoneSet) (target : Fin 4) : Prop :=
  let slot := fun k : Nat => Fin.ofNat 4 ((match after with
    | none => 0
    | some a => a.val + 1) + k)
  bad.get target = false ∧ ∃ k, k < 4 ∧ target = slot k ∧ ∀ j, j < k → bad.get (slot j) = true

/-- R163: after STARTING every slot with a matching check value, and a write in flight, has a generation
below the next one. -/
def Ck.GenerationsBelow (ck : Ck) : Prop :=
  (∀ (i : Fin 4) (sn : Snapshot), (ck.slots.get i).valid = some sn → sn.generation < ck.nextGeneration)
    ∧ match ck.write with
      | .busy _ sn _ => sn.generation < ck.nextGeneration
      | .idle => True

/-- R163 on the state: the generations stand below the next one once STARTING has ended. -/
def State.GenerationsSound (s : State) : Prop :=
  s.pmc.mode ≠ .starting → s.ck.GenerationsBelow

/-! ### Profile -/

/-- R4, R6: dose_floor lies in 400..t_ref, t_ref in 600..800. -/
def State.DoseLimitsSound (s : State) : Prop :=
  400 ≤ s.pmc.limits.doseFloor ∧ s.pmc.limits.doseFloor ≤ s.pmc.limits.tRef
    ∧ 600 ≤ s.pmc.limits.tRef ∧ s.pmc.limits.tRef ≤ 800

/-- The zone that a check over the online zones names (R11): the lowest-numbered of those at the bad places. -/
def LowestBad (zones : OnlineZones) (bad : Nat → Prop) (named : Option Zone) : Prop :=
  ∃ i e, zones[i]? = some e ∧ named = some e.1 ∧ bad i ∧ ∀ j, j < i → ¬bad j

/-- The rows of R11's table: check `number` fails on the online zones, in ascending order, and names `zone`. -/
def FailsCheck (zones : OnlineZones) (l : Limits) (chs : Four (Quad Channel)) (number : Nat)
    (named : Option Zone) : Prop :=
  let finals := zones.filter fun e => e.2.final
  match number with
  | 1 => zones = [] ∧ named = none
  | 2 => finals.length ≠ 1 ∧ named = (finals[1]?).map (·.1)
  | 3 => ∃ e ∈ finals, ∃ highest, zones.getLast? = some highest ∧ e.1 ≠ highest.1
      ∧ named = some highest.1
  | 4 => LowestBad zones (fun i => ∃ e, zones[i]? = some e
      ∧ (e.2.spanEnd ≤ e.2.spanStart
        ∨ ∃ next, zones[i + 1]? = some next ∧ next.2.spanStart < e.2.spanEnd)) named
  | 5 => LowestBad zones (fun i => ∃ previous e, 0 < i ∧ zones[i - 1]? = some previous
      ∧ zones[i]? = some e ∧ e.2.tMin < previous.2.tMin) named
  | 6 => LowestBad zones (fun i => ∃ e, zones[i]? = some e ∧ e.2.tMax ≤ e.2.tMin) named
  | 7 => LowestBad zones (fun i => ∃ e, zones[i]? = some e
      ∧ ¬(e.2.levelEmpty < e.2.levelHeaterSafe ∧ e.2.levelHeaterSafe < e.2.levelSetpoint)) named
  | 8 => ∃ highest, zones.getLast? = some highest ∧ l.exitPosition < highest.2.spanEnd
      ∧ named = some highest.1
  | 9 => 23 * l.minPitch < l.exitPosition ∧ named = none
  | 10 => LowestBad zones (fun i => ∃ e q, zones[i]? = some e
      ∧ ((chs.get e.1).get q).calibration = none) named
  | _ => False

/-! ### Requests and events -/

/-- `r` is the request that LK takes next (R180): of the oldest checked frame, with the reply slot empty;
and no checkpoint trigger stands between events (R162). -/
def State.Asks (s : State) (r : Request) : Prop :=
  s.live = true ∧ s.lk.reply = none ∧ s.lk.rx.headRequest = some r ∧ s.ck.trigger = false

/-- The Link Controller when a request has been taken and answered and nothing else has touched it (R175,
R180): the frame's bytes have left the buffer and the reply stands in the slot. -/
def State.answered (s : State) (r : Request) (payload : List Byte) : Lk :=
  { s.lk with rx := s.lk.rx.dropHead,
              reply := some { kind := r.kind + 0x80, tag := r.tag, payload := payload } }

/-- A reply with a payload stands in the slot for the request, whose frame has left the buffer. -/
def State.RepliesTo (t s : State) (r : Request) (payload : List Byte) : Prop :=
  t.lk.rx = s.lk.rx.dropHead
    ∧ t.lk.reply = some { kind := r.kind + 0x80, tag := r.tag, payload := payload }

/-- Between two states the washer's blocks that no link command touches are the same: all but the Link
Controller and the Checkpoint Store. -/
def State.SameWasher (t s : State) : Prop :=
  t.power = s.power ∧ t.pmc = s.pmc ∧ t.smp = s.smp ∧ t.lg = s.lg ∧ t.rt = s.rt ∧ t.du = s.du
    ∧ t.fd = s.fd ∧ t.cm = s.cm

/-- What no event but a reset, a supply change or a sample changes: supply and reset pins, the free value
index, the queue of waiting commands. -/
def State.SameOutside (t s : State) : Prop :=
  t.power = s.power ∧ t.freeIndex = s.freeIndex ∧ t.pending = s.pending

/-- A case record less what evaluations and announcements change of it: its suspended and announce pending
flags (R124, R131). -/
def Case.bare (c : Case) : Case := { c with suspended := false, announce := false }

/-- The cases but the one with an id, and but RESOLVED ones, keep their records (less the two flags). -/
def State.KeepsOtherCases (t s : State) (id : Nat) : Prop :=
  ∀ o ∈ s.cm.table, o.id ≠ id → o.isResolved = false → ∃ o' ∈ t.cm.table, o'.bare = o.bare

/-- A case that has gone RESOLVED has ended (R57, R128, R132): it claims nothing and marks no zone; it has
left the table, or, where the event queue had no room for its notice, waits in it with announce pending. -/
def State.CaseEnded (t s : State) (id : Nat) : Prop :=
  (∀ l, t.lg.claimOf (.ofCase id) l = none)
    ∧ (∀ z : Zone, id ∉ (t.pmc.zones.get z).marker)
    ∧ (s.lk.events.length < queuePlaces → ∀ c ∈ t.cm.table, c.id ≠ id)
    ∧ (queuePlaces ≤ s.lk.events.length →
        ∃ c ∈ t.cm.table, c.id = id ∧ c.state = .resolved ∧ c.announce = true)

/-- A mode change has been made, with the effects of R15 and R22: mode and cause, the MODE claims, a dwell
ended on leaving RUN, the MODE notice (or its flag), and a checkpoint trigger taken by the Checkpoint
Store, whose write holds the state after the change. -/
def State.ModeChanged (t s : State) (m : Mode) (cause : HaltCause) : Prop :=
  t.pmc = { s.pmc with mode := m, haltCause := cause }
    ∧ (∀ id, t.lg.claimOf .mode id =
        if m = .starting ∨ m = .halt ∨ (m ≠ .run ∧ id = .conveyor) then some .block else none)
    ∧ t.du = (if s.pmc.mode = .run then .inactive else s.du)
    ∧ (s.lk.events.length < queuePlaces → EventNotice.mode m cause ∈ t.lk.events)
    ∧ (queuePlaces ≤ s.lk.events.length → t.lk.modeFlag = true)
    ∧ (s.ck.state = .on → s.ck.write ≠ .idle → t.ck.pending = true)
    ∧ (s.ck.state = .on → s.ck.write = .idle → (targetAfter s.ck.current s.ck.bad).isSome = true →
        ∃ sn target, t.ck.write = .busy .erasing sn target ∧ sn.mode = m)
    ∧ (∀ target, s.ck.state = .on → s.ck.write = .idle → NextGood s.ck.current s.ck.bad target →
        t.ck.write = .busy .erasing (t.snapshot s.ck.nextGeneration) target
          ∧ t.ck.nextGeneration = s.ck.nextGeneration + 1)
    ∧ t.smp = s.smp ∧ t.SameOutside s

/-- What stands in a reply after a load (R191): OK and a count of 0, or ADJUSTED with the numbers of the
clamped fields. -/
def clampedReply (clamped : List Nat) : List Byte :=
  if clamped = [] then [0x00, 0x00]
  else 0x01 :: BitVec.ofNat 8 clamped.length :: clamped.map (BitVec.ofNat 8)

/-- One numeric field of a load (R2, R4, R191): its number, the value it takes when absent, its range, and
the number the request carries for it. -/
structure LoadField where
  number : Nat
  absent : Nat
  lo : Nat
  hi : Nat
  sent : Nat

/-- What a load makes of one field (R5): absent, it takes `absent` and is not listed; present, it takes the
nearest value of its range and is listed exactly where that is not the value sent. -/
def LoadField.Taken (f : LoadField) (presence : Nat) (listed : List Nat) (written : Nat) : Prop :=
  if presence.testBit f.number then
    written = max f.lo (min f.hi f.sent) ∧ (f.number ∈ listed ↔ written ≠ f.sent)
  else written = f.absent ∧ f.number ∉ listed

/-- The number at an offset of a payload, two bytes (R189). -/
def sent16 (p : List Byte) (offset : Nat) : Nat :=
  256 * (p.getD offset 0).toNat + (p.getD (offset + 1) 0).toNat

/-- The numeric fields of a ZONE_LOAD payload (the table of R2, laid out by R191). -/
def zoneFields (p : List Byte) : List LoadField :=
  [⟨0, 0, 0, 20000, sent16 p 3⟩, ⟨1, 0, 0, 20000, sent16 p 5⟩, ⟨2, 600, 0, 1000, sent16 p 7⟩,
   ⟨3, 900, 300, 990, sent16 p 9⟩, ⟨4, 40, 0, 65535, sent16 p 11⟩, ⟨5, 400, 0, 1000, sent16 p 13⟩,
   ⟨6, 250, 0, 1000, sent16 p 15⟩, ⟨7, 30, 0, 1000, sent16 p 17⟩, ⟨8, 15, 1, 200, sent16 p 19⟩,
   ⟨9, 250, 10, 2000, sent16 p 21⟩, ⟨10, 100, 10, 500, sent16 p 23⟩]

/-- The numeric fields of a zone record, in the order of R2. -/
def ZoneRecord.numbers (r : ZoneRecord) : List Nat :=
  [r.spanStart, r.spanEnd, r.tMin, r.tMax, r.contactRequired, r.levelSetpoint, r.levelHeaterSafe,
   r.levelEmpty, r.leakThreshold, r.filterThreshold, r.elementCurrent]

/-- The fields of a LIMITS_LOAD payload (the table of R4, laid out by R191), absent ones keeping the value
now; the upper end of dose_floor's range is the t_ref that results (R6). -/
def limitFields (p : List Byte) (now : Limits) (tRef : Nat) : List LoadField :=
  [⟨0, now.tRef, 600, 800, sent16 p 3⟩, ⟨1, now.doseFloor, 400, tRef, sent16 p 5⟩,
   ⟨2, now.doseRequired, 0, 9999999, 65536 * sent16 p 7 + sent16 p 9⟩,
   ⟨3, now.dwellLimit, 0, 120, sent16 p 11⟩, ⟨4, now.dwellMargin, 0, 500, sent16 p 13⟩,
   ⟨5, now.minPitch, 200, 2000, sent16 p 15⟩, ⟨6, now.exitPosition, 100, 20000, sent16 p 17⟩,
   ⟨7, now.mmPerPulse, 1, 20, sent16 p 19⟩, ⟨8, now.encoderSilence, 2, 30, sent16 p 21⟩,
   ⟨9, now.leakWindow, 10, 120, sent16 p 23⟩, ⟨10, now.localiseTime, 10, 120, sent16 p 25⟩,
   ⟨11, now.leakVerify, 30, 600, sent16 p 27⟩, ⟨12, now.leakWatch, 0, 3600, sent16 p 29⟩,
   ⟨13, now.drainTimeout, 30, 600, sent16 p 31⟩, ⟨14, now.purgeTime, 1, 30, sent16 p 33⟩,
   ⟨15, now.refillTimeout, 10, 300, sent16 p 35⟩, ⟨16, now.filterVerify, 2, 60, sent16 p 37⟩,
   ⟨17, now.maxAttempts, 1, 5, sent16 p 39⟩]

/-- The limits in the order of R4. -/
def Limits.numbers (l : Limits) : List Nat :=
  [l.tRef, l.doseFloor, l.doseRequired, l.dwellLimit, l.dwellMargin, l.minPitch, l.exitPosition,
   l.mmPerPulse, l.encoderSilence, l.leakWindow, l.localiseTime, l.leakVerify, l.leakWatch,
   l.drainTimeout, l.purgeTime, l.refillTimeout, l.filterVerify, l.maxAttempts]

/-- The requests (R188, R190 to R195): kind, payload length and command of each. -/
def requestRows : List (Nat × Nat × Instr) :=
  [(0x01, 0, .ident), (0x02, 0, .status), (0x03, 2, .mode), (0x04, 26, .zoneLoad),
   (0x05, 10, .chanLoad), (0x06, 41, .limitsLoad), (0x07, 1, .zoneOn), (0x08, 1, .zoneOff),
   (0x09, 1, .zoneRead), (0x0A, 1, .linesRead), (0x0B, 1, .racksRead), (0x0C, 1, .caseRead),
   (0x0D, 1, .caseClear), (0x0E, 1, .caseRetry), (0x0F, 0, .haltClear), (0x10, 1, .trace),
   (0x11, 0, .restart)]

/-- The tags of a list of racks. -/
def tagsOf (q : List Rack) : List Nat := q.map (·.tag)

/-- The tags of a list of outcomes. -/
def noticeTags (q : List OutcomeNotice) : List Nat := q.map (·.tag)

end Sys2Proof.Machine
end

