-- ==== Sys2Proof/Certificates/Slice0/Obligations.lean ====
section
/-! DEFINITION. The statements for the provers, spread over the manual's chapters. -/

open Sys2Proof Sys2Proof.Machine

/-! ### The step -/

/-- The part takes its commands in order: a step with a command at the front of the queue is that command
on the state with the queue's rest; with none waiting, a millisecond passes (log entry 2). In it every running
timer goes down by one and stops at 0, but the step timer of a suspended case stands still (R125); the uptime
and the time since the latest round go up; nothing else changes, and a part that is down does not run. -/
def Obligations.StepTakesTheFrontCommand : Prop :=
  (∀ (c : Instr) (s : State), step { s with pending := c :: s.pending } = exec c s)
    ∧ (∀ s : State, s.pending = [] → step s = .next s.tick)
    ∧ (∀ s : State, s.live = false → s.tick = s)
    ∧ ∀ s : State, s.live = true →
        s.tick.power = s.power ∧ s.tick.pmc = s.pmc ∧ s.tick.lg = s.lg ∧ s.tick.rt = s.rt
        ∧ s.tick.ck = s.ck ∧ s.tick.freeIndex = s.freeIndex ∧ s.tick.pending = s.pending
        ∧ s.tick.smp = { s.smp with sinceRound := s.smp.sinceRound.map (fun ms => ms + 1) }
        ∧ (s.du = .inactive → s.tick.du = .inactive)
        ∧ (∀ z ms tags, s.du = .active z ms tags → s.tick.du = .active z (ms - 1) tags)
        ∧ (∀ z : Zone, s.tick.fd.tanks.get z
            = { s.fd.tanks.get z with
                level := (s.fd.tanks.get z).level.map fun w => { w with window := w.window - 1 } })
        ∧ s.tick.fd.silence = s.fd.silence.map (fun ms => ms - 1)
        ∧ s.tick.cm.table
            = s.cm.table.map (fun c =>
                if c.suspended then c else { c with timer := c.timer.map fun ms => ms - 1 })
        ∧ s.tick.cm.nextId = s.cm.nextId ∧ s.tick.cm.leakWatch = s.cm.leakWatch.map (fun ms => ms - 1)
        ∧ (s.cm.uptimeMs < 999 →
            s.tick.cm.uptime = s.cm.uptime ∧ s.tick.cm.uptimeMs = s.cm.uptimeMs + 1)
        ∧ (999 ≤ s.cm.uptimeMs → s.tick.cm.uptime = s.cm.uptime + 1 ∧ s.tick.cm.uptimeMs = 0)
        ∧ s.tick.lk = { s.lk with rx := { s.lk.rx with gap := s.lk.rx.gap - 1 } }

/-- Every command whose operands name things that exist completes, in every state, and leaves the queue of
waiting commands as it was; an ill-formed one is turned away by name (the model's choice: log entry 23). -/
def Obligations.CommandsComplete : Prop :=
  ∀ (c : Instr) (s : State),
    if c.wellFormed then ∃ t, exec c s = .next t ∧ t.pending = s.pending
    else exec c s = .refused .noSuchInput

/-! ### Sensing -/

/-- R30: the five bands of a converter code. -/
def Obligations.CodesAreClassified : Prop :=
  ∀ (c : Calibration) (r : Nat), c.rawLo < c.rawHi →
    ((r : Int) < (c.rawLo : Int) - 40 → c.classify r = none)
      ∧ ((c.rawLo : Int) - 40 ≤ r → r < c.rawLo → c.classify r = some c.engLo)
      ∧ (c.rawLo ≤ r → r ≤ c.rawHi → c.classify r = some (c.convert r))
      ∧ (c.rawHi < r → r ≤ c.rawHi + 40 → c.classify r = some c.engHi)
      ∧ (c.rawHi + 40 < r → c.classify r = none)

/-- R31: on the line the converted value is eng_lo plus the quotient truncated toward zero, which lies
between the two engineering values; every reading lies in its quantity's range, and a value in range is
kept as it is. -/
def Obligations.ConvertedReadingsInRange : Prop :=
  ∀ (c : Calibration) (q : Quantity) (r : Nat), c.rawLo < c.rawHi →
    (c.rawLo ≤ r → r ≤ c.rawHi →
      (c.convert r - c.engLo) * ((c.rawHi : Int) - c.rawLo)
            + Int.tmod (((r : Int) - c.rawLo) * (c.engHi - c.engLo)) ((c.rawHi : Int) - c.rawLo)
          = ((r : Int) - c.rawLo) * (c.engHi - c.engLo)
        ∧ min c.engLo c.engHi ≤ c.convert r ∧ c.convert r ≤ max c.engLo c.engHi)
      ∧ ∀ (v : Int) (upper : Nat),
          upper = (match q with
            | .temp => 1200
            | .level => 1000
            | .pressure => 2000
            | .current => 500) →
          (0 ≤ v → v ≤ upper → (clampReading q v : Int) = v)
            ∧ (v < 0 → clampReading q v = 0)
            ∧ ((upper : Int) < v → clampReading q v = upper)

/-- R32, R33, R34: what a sample of a configured channel does to its record, for every validity before, and
when it marks an invalid-run event; and R35: a sample of an unconfigured channel leaves its record as it is
and marks nothing. -/
def Obligations.ChannelValidity : Prop :=
  (∀ (q : Quantity) (ch : Channel) (code : Nat), ch.calibration = none →
    Channel.sample q ch code = (ch, false))
  ∧ ∀ (q : Quantity) (ch : Channel) (c : Calibration) (code : Nat), ch.calibration = some c →
    (∀ v, c.classify code = some v →
      Channel.sample q ch code
        = ({ ch with reading := .valid (clampReading q v), runCount := 0 }, false))
    ∧ (c.classify code = none →
        (Channel.sample q ch code).1.calibration = some c
          ∧ (Channel.sample q ch code).1.runCount = min (ch.runCount + 1) 255
          ∧ ((Channel.sample q ch code).2 = true ↔ ch.runCount + 1 = 4)
          ∧ (∀ v, ch.reading = .valid v ∨ ch.reading = .stale v →
              (ch.runCount + 1 ≤ 3 → (Channel.sample q ch code).1.reading = .stale v)
                ∧ (4 ≤ ch.runCount + 1 → (Channel.sample q ch code).1.reading = .unknown))
          ∧ (ch.reading = .unknown → (Channel.sample q ch code).1.reading = .unknown))

/-- SAMPLE_ROUND (R27, R28, R36, R37, R35, R184): with rounds being raised, a round completes; it debounces
the two inputs, converts every channel of every zone and changes no other part of the sampler; the zone that
trace selects gives one TRACE notice with the readings of its sample, dropped with the gap flag set where the
trace queue is full; the profile's limits, the supply, the free values and the waiting commands stay as they
are. In STARTING no round is raised and nothing changes. What the round does: the pan float gone wet hands a
detection over (R38, R103), the entry eye gone blocked is an entry event (R39), each the end of its own event,
in the order the command gives; then the zones in ascending order. What a zone sample does (R27, R29, R102,
R134), in the order of log entry 7: the channels; contact, dose and dwell; the detectors of a configured tank;
the trace; then the detections, in their order, the SENSOR ones last in channel order, and among them, where
the command puts it, the sample at each case that stood in the table (log entries 6 and 8), before or after
the guards. Of the guards TEMP_GUARD's claims are set first and LEVEL_GUARD's behind them (the model's choice,
log entry 28); each detection, the pan event and the eye event is an event of its own, which ends with its
checkpoint trigger taken (the model's reading, log entry 10). -/
def Obligations.RoundSamplesEveryInput : Prop :=
  ∀ (s : State) (input : RoundInput), input.codesInRange = true → s.live = true →
    (s.pmc.mode = .starting → exec (.sampleRound input) s = .next s)
    ∧ (s.pmc.mode ≠ .starting →
        ∃ t, exec (.sampleRound input) s = .next t
          ∧ t.smp =
              { channels := Four.ofFn fun z =>
                  (sampleChannels (s.smp.channels.get z) (input.codes.get z)).1
                panWet := if s.smp.panPrevious = some input.panWet then input.panWet else s.smp.panWet
                eyeBlocked :=
                  if s.smp.eyePrevious = some input.eyeBlocked then input.eyeBlocked
                  else s.smp.eyeBlocked
                panPrevious := some input.panWet
                eyePrevious := some input.eyeBlocked
                travel := s.smp.travel
                sinceRound := some 0 }
          ∧ t.pmc.limits = s.pmc.limits ∧ t.SameOutside s
          ∧ t.lk.traceZone = s.lk.traceZone
          ∧ (s.lk.traceZone = none → t.lk.traces = s.lk.traces ∧ t.lk.traceGap = s.lk.traceGap)
          ∧ ∀ z, s.lk.traceZone = some z →
              (s.lk.traces.length < 16 →
                t.lk.traceGap = s.lk.traceGap
                  ∧ t.lk.traces = s.lk.traces ++
                      [{ zone := z
                         readings :=
                           { temp := (t.smp.channels.get z).temp.reading
                             level := (t.smp.channels.get z).level.reading
                             pressure := (t.smp.channels.get z).pressure.reading
                             current := (t.smp.channels.get z).current.reading } }])
              ∧ (16 ≤ s.lk.traces.length → t.lk.traces = s.lk.traces ∧ t.lk.traceGap = true))
    ∧ (s.pmc.mode ≠ .starting →
        let q := { s with
          smp :=
            { s.smp with
              panWet := if s.smp.panPrevious = some input.panWet then input.panWet else s.smp.panWet
              eyeBlocked :=
                if s.smp.eyePrevious = some input.eyeBlocked then input.eyeBlocked
                else s.smp.eyeBlocked
              panPrevious := some input.panWet
              eyePrevious := some input.eyeBlocked
              sinceRound := some 0 } }
        let pan := fun a : State =>
          if s.smp.panWet = false ∧ q.smp.panWet = true then (a.detect .leakPan).commit else a
        let eye := fun a : State =>
          if s.smp.eyeBlocked = false ∧ q.smp.eyeBlocked = true then a.entryEvent.commit else a
        let zone := fun (a : State) (z : Zone) => a.zoneSample (input.codes.get z) (input.order.get z) z
        exec (.sampleRound input) s
          = .next ([0, 1, 2, 3].foldl zone (if input.eyeFirst then pan (eye q) else eye (pan q))))
    ∧ ∀ (a : State) (codes : Quad Nat) (order : ZoneOrder) (z : Zone),
        let chs := a.smp.channels.get z
        let now := (sampleChannels chs codes).1
        let r : Quad Reading :=
          { temp := now.temp.reading, level := now.level.reading, pressure := now.pressure.reading
            current := now.current.reading }
        let m := { a with smp := { a.smp with channels := a.smp.channels.set z now } }
        let accrued := (m.contactSample z a.lg r).finalSample z a.lg r
        let traced := fun b : State =>
          if b.lk.traceZone = some z then
            if b.lk.traces.length < 16 then
              { b with lk := { b.lk with traces := b.lk.traces ++ [{ zone := z, readings := r }] } }
            else { b with lk := { b.lk with traceGap := true } }
          else b
        let guards := fun b : State =>
          b.applySets [(.tempGuard z, tempGuardClaims z r.temp),
            (.levelGuard z, levelGuardClaims z (b.pmc.zones.get z).slot r.level)]
        (∀ q : Quantity, now.get q = (Channel.sample q (chs.get q) (codes.get q)).1)
        ∧ ((a.pmc.zones.get z).slot = .unconfigured →
            a.zoneSample codes order z = guards (traced accrued))
        ∧ ∀ rec, (a.pmc.zones.get z).slot.record = some rec →
            let out := (accrued.fd.tanks.get z).sample a.lg z rec a.pmc.limits.leakWindow r
            let found := out.2 ++
              (([.temp, .level, .pressure, .current] : List Quantity).filter fun q =>
                (Channel.sample q (chs.get q) (codes.get q)).2).map (Detection.sensor z)
            let b :=
              traced { accrued with
                fd := { accrued.fd with tanks := accrued.fd.tanks.set z out.1 } }
            let take := fun (ds : List Detection) (x : State) =>
              ds.foldl (fun y d => (y.detect d).commit) x
            let cases := fun x : State =>
              (a.cm.table.map (·.id)).foldl (State.caseSample z rec a.lg r) x
            let managed := fun x : State =>
              take (found.drop order.detectionsFirst)
                (cases (take (found.take order.detectionsFirst) x))
            a.zoneSample codes order z
              = if order.guardsFirst then managed (guards b) else guards (managed b)

/-! ### Contact, dose and dwell -/

/-- R68, R86, R91: what one zone sample of a final or other zone gives each rack: a quarter-second of
contact where the zone is ACTIVE and the rack in it, the increment of the zone's temperature where the
zone is final, ONLINE, pumped and its temperature VALID, and nothing else; the racks stay the same racks in
the same order. -/
def Obligations.AccrualAtZoneSample : Prop :=
  ∀ (s : State) (codes : Quad Nat) (order : ZoneOrder) (z : Zone),
    let slot := (s.pmc.zones.get z).slot
    let temp := (readingsOf (sampleChannels (s.smp.channels.get z) codes).1).temp
    (s.zoneSample codes order z).rt.queue.map (fun r => (r.tag, r.contact, r.dose))
      = s.rt.queue.map fun r =>
          (r.tag,
           if zoneActive slot s.lg z temp && r.inZone slot s.smp.travel then
             r.contact.set z (min (r.contact.get z + 1) 65535)
           else r.contact,
           match slot, temp with
           | .online rec, .valid v =>
             if rec.final && s.lg.drive (.pump z) && r.inZone slot s.smp.travel then
               min (r.dose + doseIncrement s.pmc.limits v) 9999999
             else r.dose
           | _, _ => r.dose)

/-- R86 to R90: below dose_floor the increment is 0; from dose_floor on it lies in 7..7660, grows with the
temperature, and is 250 at t_ref. -/
def Obligations.DoseIncrementRange : Prop :=
  ∀ (l : Limits) (t : Nat), 600 ≤ l.tRef → l.tRef ≤ 800 → 400 ≤ l.doseFloor → l.doseFloor ≤ l.tRef →
    (t < l.doseFloor → doseIncrement l t = 0)
    ∧ (l.doseFloor ≤ t → t ≤ 1200 →
        7 ≤ doseIncrement l t ∧ doseIncrement l t ≤ 7660
          ∧ doseIncrement l t ≤ doseIncrement l (t + 1))
    ∧ doseIncrement l l.tRef = 250

/-- R85, R93, R94: the candidates are the racks not EXITED, inside the span of an ONLINE zone and at least at
span_end less dwell_margin, short of dose_required and not flagged DWELL_EXPIRED; the dwell evaluation of a
final-zone sample, row by row; it follows the increment and is made in RUN only. -/
def Obligations.DwellEvaluation : Prop :=
  ∀ (s : State) (z : Zone),
    let found := candidates (s.pmc.zones.get z).slot s.smp.travel s.pmc.limits s.rt.queue
    found.Sublist (s.rt.queue.map (·.tag))
    ∧ (∀ tag, tag ∈ found ↔
        ∃ r ∈ s.rt.queue, ∃ rec, r.tag = tag ∧ (s.pmc.zones.get z).slot = .online rec
          ∧ r.exited = false ∧ rec.spanStart ≤ r.position s.smp.travel
          ∧ r.position s.smp.travel < rec.spanEnd
          ∧ (rec.spanEnd : Int) - s.pmc.limits.dwellMargin ≤ r.position s.smp.travel
          ∧ r.dose < s.pmc.limits.doseRequired ∧ r.dwellExpired = false)
    ∧ (∀ lines readings,
        (∀ rec, (s.pmc.zones.get z).slot.record = some rec → rec.final = true → s.pmc.mode = .run →
          s.finalSample z lines readings = (s.doseSample z lines readings).dwellSample z)
        ∧ (∀ rec, (s.pmc.zones.get z).slot.record = some rec → rec.final = true → s.pmc.mode ≠ .run →
            s.finalSample z lines readings = s.doseSample z lines readings)
        ∧ ((∀ rec, (s.pmc.zones.get z).slot.record = some rec → rec.final = false) →
            s.finalSample z lines readings = s)
        ∧ (s.doseSample z lines readings).du = s.du)
    ∧ (s.du = .inactive → found = [] → s.dwellSample z = s)
    ∧ (s.du = .inactive → s.pmc.limits.dwellLimit = 0 → s.dwellSample z = s)
    ∧ (s.du = .inactive → found ≠ [] → 0 < s.pmc.limits.dwellLimit →
        (s.dwellSample z).du = .active z (s.pmc.limits.dwellLimit * 1000) found
          ∧ (s.dwellSample z).lg.claimOf .dwell .conveyor = some .block
          ∧ (s.dwellSample z).rt = s.rt)
    ∧ (∀ timer old, s.du = .active z timer old →
        (found ≠ [] → s.dwellSample z = { s with du := .active z timer found })
        ∧ (found = [] →
            (s.dwellSample z).du = .inactive ∧ (s.dwellSample z).lg.claimOf .dwell .conveyor = none
              ∧ (s.dwellSample z).rt = s.rt))
    ∧ (∀ dz timer old, dz ≠ z → s.du = .active dz timer old → s.dwellSample z = s)

/-- DWELL_EXPIRY (R95, R92): with the timer at 0, the records of the candidate set that are not EXITED
are flagged, no other record changes, the dwell ends and its claim is withdrawn. With the dwell
INACTIVE, or with time left, nothing expires and nothing changes: two clauses that are the model's
choice (log entries 4 and 5). -/
def Obligations.DwellExpiryFlags : Prop :=
  ∀ s : State, s.live = true →
    (s.du = .inactive → exec .dwellExpiry s = .next s)
    ∧ (∀ z ms tags, s.du = .active z (ms + 1) tags → exec .dwellExpiry s = .next s)
    ∧ ∀ z tags, s.du = .active z 0 tags →
        ∃ t, exec .dwellExpiry s = .next t ∧ t.du = .inactive
          ∧ (∀ id, t.lg.claimOf .dwell id = none)
          ∧ (∀ o id, o ≠ .dwell → t.lg.claimOf o id = s.lg.claimOf o id)
          ∧ t.rt =
              { s.rt with
                queue := s.rt.queue.map fun r =>
                  if !r.exited && tags.contains r.tag then { r with dwellExpired := true } else r }
          ∧ t.pmc = s.pmc ∧ t.smp = s.smp ∧ t.cm = s.cm ∧ t.ck = s.ck ∧ t.lk = s.lk
          ∧ (s.ClaimsStand → t.fd.tanks = s.fd.tanks) ∧ t.SameOutside s

/-! ### Lines -/

/-- R48, the law of the device: whatever the command, every drive stays what its claims and its request
resolve to. -/
def Obligations.DrivesStayResolved : Prop :=
  ∀ s t : State, s.DrivesResolved → step s = .next t → t.DrivesResolved

/-- R46, R47, R52 to R58, R74, R92: whatever the command, every owner stays with exactly the claims that the
mode, the zone slots, the readings, the dwell, the outcome queue and the case records call for. -/
def Obligations.ClaimsStayStanding : Prop :=
  ∀ s t : State, s.TableSound → s.ClaimsStand → step s = .next t → t.TableSound ∧ t.ClaimsStand

/-- R55, the law of the device: a heater drive is off whenever its tank's temperature is UNKNOWN, its level
UNKNOWN, or its level below level_heater_safe; and (R52) while its zone is not ONLINE. In every state the pump
and the fill of a zone that is not ONLINE are off (R52), and so is the fill of a tank whose level is UNKNOWN
(R54), whatever a case would force, since BLOCK wins (R48). The claims of the three standing guards, line by
line (R52 to R54). -/
def Obligations.HeatersSupervised : Prop :=
  ∀ (s : State) (z : Zone), s.DrivesResolved → s.ClaimsStand →
    (((s.smp.channels.get z).temp.reading = .unknown
      ∨ (s.smp.channels.get z).level.reading = .unknown
      ∨ (∃ v r, ((s.smp.channels.get z).level.reading = .valid v
            ∨ (s.smp.channels.get z).level.reading = .stale v)
          ∧ (s.pmc.zones.get z).slot.record = some r ∧ v < r.levelHeaterSafe)
      ∨ (s.pmc.zones.get z).slot.isOnline = false) →
    s.lg.drive (.heatA z) = false ∧ s.lg.drive (.heatB z) = false ∧ s.lg.driven z = 0)
    ∧ ((s.pmc.zones.get z).slot.isOnline = false →
        s.lg.drive (.pump z) = false ∧ s.lg.drive (.fill z) = false)
    ∧ ((s.smp.channels.get z).level.reading = .unknown → s.lg.drive (.fill z) = false)
    ∧ (∀ id, s.lg.claimOf (.zoneOff z) id
        = if (s.pmc.zones.get z).slot.isOnline = false
              ∧ id ∈ [LineId.heatA z, .heatB z, .pump z, .fill z] then some .block else none)
    ∧ (∀ id, s.lg.claimOf (.tempGuard z) id
        = if (s.smp.channels.get z).temp.reading = .unknown ∧ id ∈ [LineId.heatA z, .heatB z] then
            some .block
          else none)
    ∧ ((s.smp.channels.get z).level.reading = .unknown → ∀ id,
        s.lg.claimOf (.levelGuard z) id
          = if id ∈ [LineId.heatA z, .heatB z, .fill z] then some .block else none)
    ∧ ∀ v, (s.smp.channels.get z).level.reading = .valid v
          ∨ (s.smp.channels.get z).level.reading = .stale v →
        ((s.pmc.zones.get z).slot = .unconfigured
            ∨ (∃ r, (s.pmc.zones.get z).slot.record = some r ∧ v < r.levelHeaterSafe) →
          ∀ id, s.lg.claimOf (.levelGuard z) id
            = if id ∈ [LineId.heatA z, .heatB z] then some .block else none)
        ∧ ∀ r, (s.pmc.zones.get z).slot.record = some r → r.levelHeaterSafe ≤ v →
            ∀ id, s.lg.claimOf (.levelGuard z) id = none

/-- R56: in STARTING and HALT every drive is off whatever the cases hold, and outside RUN the conveyor's. -/
def Obligations.DrivesOffInHalt : Prop :=
  ∀ (s : State) (id : LineId), s.DrivesResolved → s.ClaimsStand →
    (s.pmc.mode = .starting ∨ s.pmc.mode = .halt → s.lg.drive id = false)
    ∧ (s.pmc.mode ≠ .run → s.lg.drive .conveyor = false)

/-- REQUEST_INPUT_CHANGE (R45): in every mode the level is recorded and the line resolved against its claims;
no other line and no block but the Fault Detectors changes, and they only by the drive (R50): a FILL or DRAIN
drive going on disarms the level decline detector of its tank (R104). While the part takes no input only the
pin's level changes, and a line above 21 is refused: the model's choices, log entries 15 and 23. -/
def Obligations.RequestInputIsRecorded : Prop :=
  (∀ (s : State) (id : LineId) (on : Bool), s.live = true →
    ∃ t, exec (.requestInputChange id.number on) s = .next t
      ∧ t.lg.get id =
          { input := on, request := on, claims := (s.lg.get id).claims,
            drive := if (s.lg.get id).claims.any (fun c => c.kind = .block) then false
                     else if (s.lg.get id).claims.any (fun c => c.kind = .force) then true else on }
      ∧ (∀ o, o ≠ id → t.lg.get o = s.lg.get o)
      ∧ (t.lg.drive id = s.lg.drive id → t.fd = s.fd)
      ∧ (∀ z, id ≠ .fill z → id ≠ .drain z → t.fd.tanks.get z = s.fd.tanks.get z)
      ∧ (∀ z, id = .fill z ∨ id = .drain z →
          (s.lg.drive id = false → t.lg.drive id = true →
            t.fd.tanks.get z = { s.fd.tanks.get z with level := none })
          ∧ (s.lg.drive id = true ∨ t.lg.drive id = false → t.fd.tanks.get z = s.fd.tanks.get z)
          ∧ ∀ z', z' ≠ z → t.fd.tanks.get z' = s.fd.tanks.get z')
      ∧ (id ≠ .conveyor → t.fd.silence = s.fd.silence)
      ∧ (id = .conveyor → s.lg.drive .conveyor = false → t.lg.drive .conveyor = true →
          t.fd.silence = some (s.pmc.limits.encoderSilence * 1000))
      ∧ (id = .conveyor → s.lg.drive .conveyor = true → t.lg.drive .conveyor = false →
          t.fd.silence = none)
      ∧ t.pmc = s.pmc ∧ t.smp = s.smp ∧ t.rt = s.rt ∧ t.du = s.du ∧ t.cm = s.cm ∧ t.ck = s.ck
      ∧ t.lk = s.lk ∧ t.SameOutside s)
  ∧ (∀ (s : State) (id : LineId) (on : Bool), s.live = false →
      ∃ t, exec (.requestInputChange id.number on) s = .next t
        ∧ t.lg.get id = { s.lg.get id with input := on }
        ∧ (∀ o, o ≠ id → t.lg.get o = s.lg.get o) ∧ t = { s with lg := t.lg })
  ∧ ∀ (s : State) (n : Nat) (on : Bool), 22 ≤ n →
      exec (.requestInputChange n on) s = .refused .noSuchInput

/-! ### Cases -/

/-- R118, R120, the law of the device: whatever the command, the case table holds at most 8 cases, each id
once, and at most one case of a key outside RESOLVED. -/
def Obligations.CaseTableStaysSound : Prop :=
  ∀ s t : State, s.TableSound → step s = .next t → t.TableSound

/-- R124: whatever the command, exactly the cases that are to be held back stay suspended. -/
def Obligations.SuspensionStaysSettled : Prop :=
  ∀ s t : State, s.TableSound → s.SuspensionSettled → step s = .next t → t.SuspensionSettled

/-- R124, R125, R58, the laws of the device: in HALT every case that is not RESOLVED is suspended, and a
suspended case has no FORCE claim on any line: what it would force it holds back, and its BLOCKs stay. A
millisecond leaves its step timer and its counter alone, and it takes no zone sample. Exactly these cases are
suspended (R124): those not RESOLVED in HALT, and those for which a case in ISOLATING or ACTING is of strictly
higher severity, HEATER_STUCK before LEAK, OVERTEMP, FILTER and HEATER_OPEN, a SENSOR case counting on neither
side. And the claims a case has on the 22 lines, by kind, state and step, row by row of the table of 8.10
(R57, R58, R135, R138 to R140, R144 to R147, R149 to R157): its BLOCKs; its FORCEs while it is not suspended,
held back while it is. -/
def Obligations.SuspendedCasesHoldNoForce : Prop :=
  ∀ (s : State) (c : Case), s.TableSound → s.SuspensionSettled → s.ClaimsStand → c ∈ s.cm.table →
    (s.pmc.mode = .halt → c.isResolved = false → c.suspended = true)
    ∧ (c.suspended = true →
        c ∈ s.tick.cm.table ∧ ∀ z rec lines r, s.caseSample z rec lines r c.id = s)
    ∧ (c.suspended = true → ∀ id,
        s.lg.claimOf (.ofCase c.id) id ≠ some .force
          ∧ ((id, ClaimKind.force) ∈ c.held ↔ (id, ClaimKind.force) ∈ c.wanted)
          ∧ ((id, ClaimKind.block) ∈ c.posted ↔ (id, ClaimKind.block) ∈ c.wanted))
    ∧ (let severity : Proc → Option Nat := fun p =>
        match p with
        | .heaterStuck _ _ _ => some 1
        | .leak _ _ _ _ => some 2
        | .overtemp _ _ => some 3
        | .filter _ _ _ _ => some 4
        | .heaterOpen _ _ _ _ _ => some 5
        | .sensor _ _ => none
        | .travel => none
      (c.suspended = true ↔
        c.state ≠ .resolved
          ∧ (s.pmc.mode = .halt
            ∨ ∃ o ∈ s.cm.table, (o.state = .isolating ∨ o.state = .acting)
                ∧ ∃ a b, severity o.proc = some a ∧ severity c.proc = some b ∧ a < b)))
    ∧ (let holds : List LineId → List LineId → Prop := fun blocks forces =>
        (∀ id, s.lg.claimOf (.ofCase c.id) id
          = if id ∈ blocks then some .block
            else if id ∈ forces ∧ c.suspended = false then some .force
            else none)
        ∧ ∀ id, (id, ClaimKind.force) ∈ c.held ↔ id ∈ forces ∧ c.suspended = true
      let fills := [LineId.fill 0, .fill 1, .fill 2, .fill 3]
      let pumps := [LineId.pump 0, .pump 1, .pump 2, .pump 3]
      (c.state = .resolved → holds [] [])
      ∧ (∀ src leaking un refs, c.proc = .leak src leaking un refs →
          let tanks := ([0, 1, 2, 3] : List Zone).filter fun z => leaking.get z
          (c.state = .isolating → holds (fills ++ pumps ++ [.conveyor]) [])
          ∧ (c.state = .acting →
              holds (fills ++ pumps ++ [.conveyor] ++ tanks.map .heatA ++ tanks.map .heatB)
                (tanks.map .drain))
          ∧ (c.state = .verifying → holds fills [])
          ∧ (c.state = .manual → holds (fills ++ [.conveyor]) []))
      ∧ (∀ z p a g, c.proc = .filter z p a g →
          (c.state = .acting → c.step = .purge →
            holds [.conveyor, .pump z, .heatA z, .heatB z] [.drain z])
          ∧ (c.state = .acting → c.step = .refill →
              holds [.conveyor, .pump z, .heatA z, .heatB z] [.fill z])
          ∧ (c.state = .verifying → holds [.conveyor] [])
          ∧ (c.state = .manual → holds [.conveyor, .pump z] []))
      ∧ (∀ z k openA openB sum, c.proc = .heaterOpen z k openA openB sum →
          (c.state = .isolating → c.step = .testA → holds [.heatB z] [])
          ∧ (c.state = .isolating → c.step = .testB → holds [.heatA z] [])
          ∧ (c.state = .degraded →
              holds ((if openA then [.heatA z] else []) ++ if openB then [.heatB z] else []) []))
      ∧ (∀ z i n, c.proc = .heaterStuck z i n → c.state = .isolating ∨ c.state = .manual →
          holds [.main, .heatA z, .heatB z] [])
      ∧ (∀ z v, c.proc = .overtemp z v →
          (c.state = .acting → holds [.heatA z, .heatB z] [])
          ∧ (c.state = .manual → holds [.heatA z, .heatB z, .main] []))
      ∧ ((∃ z q, c.proc = .sensor z q) ∨ c.proc = .travel → holds [] []))

/-- R121: a detection whose key has no case outside RESOLVED, with a slot free, opens a case: an id that no
case carries (the next case id where it is free), the opening state of its kind, recurrence 0, opened-at from
the uptime; a checkpoint trigger stands, and the other cases keep their records. A HEATER_OPEN case opens by k
and by the heater drives as they stand at the opening (R149): DEGRADED with the one driven element open and
blocked, or ISOLATING in TEST_A with HEAT_B blocked. The racks (R127, R77, R79): a LEAK case links every one,
a FILTER case those in its zone, a TRAVEL case loses every one; no other case touches them. A LEAK case of
source PAN holds no leaking tank, the VALID levels of the configured tanks as references and the other
configured tanks unassessed, and blocks every fill, every pump and the conveyor; one of source TANK z holds z
as leaking and no reference (R135), and nothing unassessed, the model's choice (log entry 32). A HEATER_STUCK
case holds its current and a low run of 0 and blocks MAIN and both heaters (R152), an OVERTEMP case holds its
temperature and blocks both heaters (R154). -/
def Obligations.DetectionOpensACase : Prop :=
  ∀ (s : State) (d : Detection),
    s.TableSound → s.cm.table.length < 8 → (∀ c ∈ s.cm.table, c.takes d.key = false) →
    ∃ c ∈ (s.detect d).cm.table,
      c.proc.key = d.key ∧ c.recurrence = 0 ∧ c.openedAt = s.cm.uptime
        ∧ (∀ o ∈ s.cm.table, o.id ≠ c.id)
        ∧ ((∀ o ∈ s.cm.table, o.id ≠ s.cm.nextId) → c.id = s.cm.nextId)
        ∧ (s.detect d).cm.nextId = (if 255 ≤ c.id then 1 else c.id + 1)
        ∧ (s.detect d).ck.trigger = true
        ∧ (s.detect d).KeepsOtherCases s c.id
        ∧ (s.detect d).rt =
            { s.rt with
              queue := s.rt.queue.map fun r =>
                match d with
                | .leakPan => r.link c.id
                | .leakTank _ _ _ => r.link c.id
                | .filter z _ =>
                  if r.inZone (s.pmc.zones.get z).slot s.smp.travel then r.link c.id else r
                | .travel => if r.exited then r else { r with trackLost := true }
                | _ => r }
        ∧ (d = .leakPan → c.state = .isolating ∧ c.step = .none
            ∧ c.timer = some (s.pmc.limits.localiseTime * 1000)
            ∧ (let un : ZoneSet := Four.ofFn fun z =>
                match (s.pmc.zones.get z).slot, (s.smp.channels.get z).level.reading with
                | .unconfigured, _ => false
                | _, .valid _ => false
                | _, _ => true
              let refs : Four (Option Nat) := Four.ofFn fun z =>
                match (s.pmc.zones.get z).slot, (s.smp.channels.get z).level.reading with
                | .unconfigured, _ => none
                | _, .valid v => some v
                | _, _ => none
              c.proc = .leak .pan (Four.fill false) un refs)
            ∧ ∀ id, (s.detect d).lg.claimOf (.ofCase c.id) id
                = match id with
                  | .fill _ => some .block
                  | .pump _ => some .block
                  | .conveyor => some .block
                  | _ => none)
        ∧ (∀ z ref v, d = .leakTank z ref v →
            c.state = .acting ∧ c.step = .drain ∧ c.timer = some (s.pmc.limits.drainTimeout * 1000)
              ∧ c.proc = .leak (.tank z) (Four.ofFn fun z' => z' = z) (Four.fill false) (Four.fill none)
              ∧ c.id ∈ ((s.detect d).pmc.zones.get z).marker)
        ∧ (∀ z p, d = .filter z p →
            c.state = .acting ∧ c.step = .purge ∧ c.timer = some (s.pmc.limits.purgeTime * 1000)
              ∧ c.proc = .filter z p 0 0)
        ∧ (∀ z k i, d = .heaterOpen z k i →
            (k = 1 → s.lg.drivenA z ≠ s.lg.drivenB z →
              c.state = .degraded ∧ c.step = .none ∧ c.counter = none
                ∧ c.proc = .heaterOpen z k (s.lg.drivenA z) (s.lg.drivenB z) 0
                ∧ (s.detect d).lg.claimOf (.ofCase c.id) (.heatA z)
                    = (if s.lg.drivenA z then some .block else none)
                ∧ (s.detect d).lg.claimOf (.ofCase c.id) (.heatB z)
                    = (if s.lg.drivenB z then some .block else none))
            ∧ (k ≠ 1 ∨ s.lg.drivenA z = s.lg.drivenB z →
                c.state = .isolating ∧ c.step = .testA ∧ c.counter = some 0
                  ∧ c.proc = .heaterOpen z k false false 0
                  ∧ (s.detect d).lg.claimOf (.ofCase c.id) (.heatA z) = none
                  ∧ (s.detect d).lg.claimOf (.ofCase c.id) (.heatB z) = some .block))
        ∧ (∀ z i, d = .heaterStuck z i →
            c.state = .isolating ∧ c.step = .none ∧ c.timer = none ∧ c.counter = some 0
              ∧ c.proc = .heaterStuck z i 0
              ∧ ∀ id, (s.detect d).lg.claimOf (.ofCase c.id) id
                  = if id = .main ∨ id = .heatA z ∨ id = .heatB z then some .block else none)
        ∧ (∀ z k, d = .overtemp z k →
            c.state = .acting ∧ c.step = .none ∧ c.timer = none ∧ c.counter = some 0
              ∧ c.proc = .overtemp z k
              ∧ ∀ id, (s.detect d).lg.claimOf (.ofCase c.id) id
                  = if id = .heatA z ∨ id = .heatB z then some .block else none)
        ∧ (∀ z q, d = .sensor z q →
            c.state = .degraded ∧ c.step = .none ∧ c.timer = none ∧ c.counter = some 0
              ∧ c.proc = .sensor z q)
        ∧ (d = .travel → c.state = .degraded ∧ c.step = .none ∧ c.timer = none ∧ c.counter = none
            ∧ c.proc = .travel
            ∧ (s.detect d).rt =
                { s.rt with
                  queue := s.rt.queue.map fun r =>
                    if r.exited then r else { r with trackLost := true } })

/-- R122, R20: a detection that needs a new case with all 8 slots occupied is not recorded: no case opens and
no id is used; the mode becomes HALT with cause CASE_TABLE_FULL, and in HALT already nothing changes. -/
def Obligations.FullTableHalts : Prop :=
  ∀ (s : State) (d : Detection),
    8 ≤ s.cm.table.length → (∀ c ∈ s.cm.table, c.takes d.key = false) →
    (s.detect d).cm.nextId = s.cm.nextId
    ∧ (∀ c ∈ (s.detect d).cm.table, ∃ o ∈ s.cm.table, o.id = c.id)
    ∧ (s.detect d).cm.table.length ≤ s.cm.table.length
    ∧ (s.pmc.mode = .halt → s.detect d = s)
    ∧ (s.pmc.mode ≠ .halt → s.pmc.mode ≠ .starting →
        (s.detect d).pmc = { s.pmc with mode := .halt, haltCause := .caseTableFull }
          ∧ (s.detect d).rt = s.rt ∧ (s.detect d).ck.trigger = true
          ∧ (∀ id, (s.detect d).lg.claimOf .mode id = some .block)
          ∧ (s.TableSound → ∀ o ∈ s.cm.table, o.isResolved = false →
              ∃ o' ∈ (s.detect d).cm.table, o'.bare = o.bare))

/-- R123, R142, R147, R148, R151, R153, R155 to R157: a detection delivered to a case adds 1 to its
recurrence, saturating at 255, and nothing else changes, but for three: a TANK detection adds a new tank to a
LEAK case, which drains it, or in MANUAL only marks its zone; a PAN detection sends a verifying LEAK case to
MANUAL; a verifying FILTER case has failed an attempt. With them come the reports to the Rack Tracker (R127).
What a zone sample makes of a HEATER_OPEN, HEATER_STUCK, OVERTEMP or SENSOR case (R150 to R152, R154, R156):
its counts, its end of a step, and whether the machine is to halt. -/
def Obligations.DeliveredDetectionsCount : Prop :=
  (∀ (s : State) (d : Detection) (c : Case),
    s.TableSound → c ∈ s.cm.table → c.takes d.key = true →
    let counted := { c with recurrence := min (c.recurrence + 1) 255 }
    let becomes := fun c' : Case => ∃ x ∈ (s.detect d).cm.table, x.bare = c'.bare
    (∃ c' ∈ (s.detect d).cm.table, c'.id = c.id ∧ c'.recurrence = min (c.recurrence + 1) 255)
    ∧ (s.ClaimsStand →
        (match c.proc, d with
          | .leak _ leaking _ _, .leakTank z _ _ => leaking.get z = true
          | .leak _ _ _ _, .leakPan => c.state ≠ .verifying
          | .filter _ _ _ _, .filter _ _ => c.state ≠ .verifying
          | _, _ => True) →
        s.detect d = { s with cm := { s.cm with
          table := s.cm.table.map fun o => if o.id = c.id then counted else o } })
    ∧ (∀ src leaking un refs z ref v, c.proc = .leak src leaking un refs → d = .leakTank z ref v →
        leaking.get z = false →
        (c.state = .isolating ∨ c.state = .acting ∨ c.state = .verifying →
          becomes { counted with
            proc := .leak src (leaking.set z true) (un.set z false) (Four.fill none)
            state := .acting, step := .drain, timer := some (s.pmc.limits.drainTimeout * 1000)
            counter := none })
        ∧ (c.state = .manual →
            becomes { counted with proc := .leak src (leaking.set z true) (un.set z false) refs })
        ∧ (c.state ≠ .degraded → c.id ∈ ((s.detect d).pmc.zones.get z).marker)
        ∧ (s.detect d).rt =
            { s.rt with
              queue := s.rt.queue.map fun r =>
                if c.state = .isolating ∨ c.state = .verifying then r.link c.id else r })
    ∧ (∀ src leaking un refs, c.proc = .leak src leaking un refs → d = .leakPan → c.state = .verifying →
        becomes { counted with
          proc := .leak src leaking un (Four.fill none), state := .manual, step := .none, timer := none
          counter := none }
        ∧ (s.detect d).rt = { s.rt with queue := s.rt.queue.map (Rack.holdFor c.id) })
    ∧ (∀ z p a g, c.proc = .filter z p a g → c.state = .verifying →
        becomes (if a + 1 < s.pmc.limits.maxAttempts then
            { counted with proc := .filter z p (a + 1) 0, state := .acting, step := .purge
                           timer := some (s.pmc.limits.purgeTime * 1000), counter := none }
          else
            { counted with proc := .filter z p (a + 1) 0, state := .manual, step := .none
                           timer := none, counter := none })
        ∧ (s.detect d).rt =
            { s.rt with
              queue := s.rt.queue.map fun r =>
                let l := if r.inZone (s.pmc.zones.get z).slot s.smp.travel then r.link c.id else r
                if a + 1 < s.pmc.limits.maxAttempts then l else l.holdFor c.id }))
  ∧ ∀ (s : State) (c : Case) (z : Zone) (rec : ZoneRecord) (lines : Lines) (r : Quad Reading) (n : Nat),
    c.counter = some n →
    let out := c.sample z rec lines r s
    let ended : Case := { c with state := .resolved, step := .none, timer := none, counter := none
                                 suspended := false }
    let manual := fun proc : Proc => { c with proc := proc, state := .manual, step := .none, timer := none
                                              counter := none }
    (∀ k a b sum, c.proc = .heaterOpen z k a b sum → c.state = .isolating →
      c.step = .testA ∨ c.step = .testB →
      let driven := if c.step = .testA then lines.drivenA z else lines.drivenB z
      (driven = false ∨ r.current = .unknown → out = (c, false))
      ∧ ∀ v, driven = true → r.current = .valid v ∨ r.current = .stale v →
          let low := decide ((sum + v) / 4 < rec.elementCurrent / 2)
          (n + 1 < 4 →
            out = ({ c with proc := .heaterOpen z k a b (sum + v), counter := some (n + 1) }, false))
          ∧ (4 ≤ n + 1 → c.step = .testA →
              out = ({ c with proc := .heaterOpen z k low b 0, step := .testB, timer := none
                              counter := some 0 }, false))
          ∧ (4 ≤ n + 1 → c.step = .testB →
              (a = true ∨ low = true →
                out = ({ c with proc := .heaterOpen z k a low 0, state := .degraded, step := .none
                                timer := none, counter := none }, false))
              ∧ (a = false → low = false →
                  out = ({ ended with proc := .heaterOpen z k a low 0 }, false))))
    ∧ (∀ i low, c.proc = .heaterStuck z i low → c.state = .isolating →
        let below := ∃ v, (r.current = .valid v ∨ r.current = .stale v) ∧ v < rec.elementCurrent / 2
        ∀ low', (below → low' = low + 1) → (¬below → low' = 0) →
          (3 ≤ low' → out = (manual (.heaterStuck z i 0), false))
          ∧ (low' < 3 → 8 ≤ n + 1 → out = (manual (.heaterStuck z i 0), true))
          ∧ (low' < 3 → n + 1 < 8 →
              out = ({ c with proc := .heaterStuck z i low', counter := some (n + 1) }, false)))
    ∧ (∀ k, c.proc = .overtemp z k → c.state = .acting →
        let hot := ∃ v, (r.temp = .valid v ∨ r.temp = .stale v) ∧ rec.tMax + 30 ≤ v
        let cool := ∃ v, r.temp = .valid v ∧ v + 50 ≤ rec.tMax
        (cool → out = (ended, false))
        ∧ (hot → 3 ≤ n + 1 → out = (manual (.overtemp z k), false))
        ∧ (hot → n + 1 < 3 → out = ({ c with counter := some (n + 1) }, false))
        ∧ (¬cool → ¬hot → out = ({ c with counter := some 0 }, false)))
    ∧ ∀ q, c.proc = .sensor z q → c.state = .degraded →
        (∀ v, r.get q = .valid v →
          out = if 8 ≤ n + 1 then (ended, false) else ({ c with counter := some (n + 1) }, false))
        ∧ ((∀ v, r.get q ≠ .valid v) → out = ({ c with counter := some 0 }, false))

/-- CASE_CLEAR (R128, R195): NO_SUCH for an id that no case carries, WRONG_STATE for a case in a state other
than MANUAL or DEGRADED; otherwise OK and the case ends, the others going on, with no rack and no sensor
touched. -/
def Obligations.CaseClearEndsACase : Prop :=
  ∀ (s : State) (r : Request) (b : Byte), s.Asks r → s.TableSound → r.kind = 0x0D → r.payload = [b] →
    s.pmc.mode ≠ .starting →
    (b = 0 ∨ (∀ c ∈ s.cm.table, c.id ≠ b.toNat) →
        exec .caseClear s = .next { s with lk := s.answered r [0x16] })
    ∧ ∀ c ∈ s.cm.table, c.id = b.toNat → b ≠ 0 →
        (c.state ≠ .manual → c.state ≠ .degraded →
          exec .caseClear s = .next { s with lk := s.answered r [0x17] })
        ∧ (c.state = .manual ∨ c.state = .degraded →
            ∃ t, exec .caseClear s = .next t ∧ t.RepliesTo s r [0x00] ∧ t.CaseEnded s c.id
              ∧ t.KeepsOtherCases s c.id ∧ t.rt = s.rt ∧ t.smp = s.smp ∧ t.du = s.du
              ∧ (∀ z : Zone, (t.pmc.zones.get z).slot = (s.pmc.zones.get z).slot)
              ∧ t.pmc.mode = s.pmc.mode ∧ t.pmc.limits = s.pmc.limits ∧ t.SameOutside s)

/-- CASE_RETRY (R129, R143, R148): NO_SUCH, WRONG_STATE, or OK: a FILTER case purges afresh with attempt 0, a
LEAK case localises afresh, each configured tank with a VALID level giving a reference and each other
configured tank unassessed, and the case marks no zone, so that ZONE_ON is open to the host. A LEAK case links
every rack, a FILTER case those in its zone (R127; log entry 31). -/
def Obligations.CaseRetryRestarts : Prop :=
  ∀ (s : State) (r : Request) (b : Byte), s.Asks r → s.TableSound → r.kind = 0x0E → r.payload = [b] →
    s.pmc.mode ≠ .starting →
    (b = 0 ∨ (∀ c ∈ s.cm.table, c.id ≠ b.toNat) →
        exec .caseRetry s = .next { s with lk := s.answered r [0x16] })
    ∧ ∀ c ∈ s.cm.table, c.id = b.toNat → b ≠ 0 →
        (c.state ≠ .manual ∨ (c.proc.kind ≠ .filter ∧ c.proc.kind ≠ .leak) →
          exec .caseRetry s = .next { s with lk := s.answered r [0x17] })
        ∧ (∀ z p a g, c.state = .manual → c.proc = .filter z p a g →
            ∃ t, exec .caseRetry s = .next t ∧ t.RepliesTo s r [0x00] ∧ t.KeepsOtherCases s c.id
              ∧ (∀ z' : Zone, c.id ∉ (t.pmc.zones.get z').marker
                  ∧ (t.pmc.zones.get z').slot = (s.pmc.zones.get z').slot)
              ∧ t.pmc.limits = s.pmc.limits ∧ t.smp = s.smp ∧ t.SameOutside s
              ∧ t.rt =
                  { s.rt with
                    queue := s.rt.queue.map fun x =>
                      if x.inZone (s.pmc.zones.get z).slot s.smp.travel then x.link c.id else x }
              ∧ ∃ c' ∈ t.cm.table,
                  c'.bare
                    = { c with proc := .filter z p 0 0, state := .acting, step := .purge,
                               timer := some (s.pmc.limits.purgeTime * 1000),
                               counter := none }.bare)
        ∧ (∀ src lk un refs, c.state = .manual → c.proc = .leak src lk un refs →
            ∃ t, exec .caseRetry s = .next t ∧ t.RepliesTo s r [0x00] ∧ t.KeepsOtherCases s c.id
              ∧ (∀ z' : Zone, c.id ∉ (t.pmc.zones.get z').marker
                  ∧ (t.pmc.zones.get z').slot = (s.pmc.zones.get z').slot)
              ∧ t.pmc.limits = s.pmc.limits ∧ t.smp = s.smp ∧ t.SameOutside s
              ∧ t.rt = { s.rt with queue := s.rt.queue.map (Rack.link c.id) }
              ∧ ∃ c' ∈ t.cm.table,
                  let un' : ZoneSet := Four.ofFn fun z =>
                    match (s.pmc.zones.get z).slot, (s.smp.channels.get z).level.reading with
                    | .unconfigured, _ => false
                    | _, .valid _ => false
                    | _, _ => true
                  let refs' : Four (Option Nat) := Four.ofFn fun z =>
                    match (s.pmc.zones.get z).slot, (s.smp.channels.get z).level.reading with
                    | .unconfigured, _ => none
                    | _, .valid v => some v
                    | _, _ => none
                  c'.bare
                    = { c with proc := .leak src (Four.fill false) un' refs', state := .isolating,
                               step := .none, timer := some (s.pmc.limits.localiseTime * 1000),
                               counter := none }.bare)

/-- LOCALISE_EXPIRY (R137, R138, R139, R140): with the timer at 0 the tanks that have fallen by their
leak_threshold join the leaking set, the unreadable ones the unassessed set; with a leaking tank the
case drains, taking the tanks out of service under its marker; else with a wet pan or a running leak
watch it goes MANUAL; else it verifies. Entering ACTING links every rack, entering MANUAL holds the
linked ones (R127, R78). -/
def Obligations.LocaliseExpiryJudges : Prop :=
  ∀ (s : State) (c : Case) (src : LeakSource) (leaking un : ZoneSet) (refs : Four (Option Nat)),
    s.live = true → s.TableSound → c ∈ s.cm.table → c.proc = .leak src leaking un refs →
    c.state = .isolating → c.step = .none → c.suspended = false → c.timer = some 0 →
    let found : ZoneSet := Four.ofFn fun z =>
      leaking.get z ||
        match refs.get z, (s.smp.channels.get z).level.reading.judged,
              (s.pmc.zones.get z).slot.record with
        | some ref, some v, some rec => v + rec.leakThreshold ≤ ref
        | _, _, _ => false
    let un' : ZoneSet := Four.ofFn fun z =>
      un.get z || ((refs.get z).isSome && (s.smp.channels.get z).level.reading = .unknown)
    let proc := Proc.leak src found un' (Four.fill none)
    ∃ t, exec .localiseExpiry s = .next t ∧ t.KeepsOtherCases s c.id
      ∧ t.rt =
          { s.rt with
            queue := s.rt.queue.map fun r =>
              if zoneSetAny found then r.link c.id
              else if s.smp.panWet || s.cm.leakWatch.isSome then r.holdFor c.id
              else r }
      ∧ t.smp = s.smp ∧ t.pmc.mode = s.pmc.mode ∧ t.pmc.limits = s.pmc.limits ∧ t.SameOutside s
      ∧ ∃ c' ∈ t.cm.table,
          c'.bare =
            (if zoneSetAny found then
              { c with proc := proc, state := .acting, step := .drain,
                       timer := some (s.pmc.limits.drainTimeout * 1000), counter := none }
            else if s.smp.panWet || s.cm.leakWatch.isSome then
              { c with proc := proc, state := .manual, step := .none, timer := none, counter := none }
            else
              { c with proc := .leak src (Four.fill false) un' (Four.fill none), state := .verifying,
                       step := .none, timer := some (s.pmc.limits.leakVerify * 1000),
                       counter := none }).bare
          ∧ ∀ z : Zone, found.get z = true →
              c.id ∈ (t.pmc.zones.get z).marker
                ∧ (c.id ∉ (s.pmc.zones.get z).marker → (t.pmc.zones.get z).slot.isOnline = false)

/-- DRAIN_TIMEOUT_EXPIRY, LEAK_VERIFY_EXPIRY and LEAK_WATCH_EXPIRY (R138, R140, R141): the drained case goes
MANUAL, which holds the racks linked to it (R127, R78); the verified case ends and the leak watch starts, or
with leak_watch 0 stands stopped; the watch's own end stops it and changes nothing else. A timer with time
left does not expire (R134; a command that comes early does nothing: log entries 4 and 5). What a zone sample
makes of a LEAK case (R136, R138): in ISOLATING an open drain ends the tank's assessment; in ACTING the case
goes MANUAL when every leaking tank is drained. -/
def Obligations.LeakTimersExpire : Prop :=
  (∀ (s : State) (c : Case) (src : LeakSource) (leaking un : ZoneSet) (refs : Four (Option Nat)),
    s.live = true → s.TableSound → c ∈ s.cm.table → c.proc = .leak src leaking un refs →
    c.suspended = false → c.isResolved = false →
    (∀ ms, c.timer = some (ms + 1) →
      exec .localiseExpiry s = .next s ∧ exec .drainTimeoutExpiry s = .next s
        ∧ exec .leakVerifyExpiry s = .next s)
    ∧ (c.timer = some 0 → c.state = .acting → c.step = .drain →
      ∃ t, exec .drainTimeoutExpiry s = .next t ∧ t.KeepsOtherCases s c.id
        ∧ t.rt = { s.rt with queue := s.rt.queue.map (Rack.holdFor c.id) }
        ∧ t.smp = s.smp ∧ t.SameOutside s
        ∧ ∃ c' ∈ t.cm.table,
            c'.bare
              = { c with proc := .leak src leaking un (Four.fill none), state := .manual,
                         step := .none, timer := none, counter := none }.bare)
    ∧ (c.timer = some 0 → c.state = .verifying → c.step = .none →
        ∃ t, exec .leakVerifyExpiry s = .next t ∧ t.CaseEnded s c.id ∧ t.KeepsOtherCases s c.id
          ∧ t.cm.leakWatch
              = (if s.pmc.limits.leakWatch = 0 then none else some (s.pmc.limits.leakWatch * 1000))
          ∧ t.rt = s.rt ∧ t.smp = s.smp ∧ t.SameOutside s))
  ∧ (∀ s : State, s.live = true →
      (s.cm.leakWatch = some 0 →
        exec .leakWatchExpiry s = .next { s with cm := { s.cm with leakWatch := none } })
      ∧ (s.cm.leakWatch ≠ some 0 → exec .leakWatchExpiry s = .next s))
  ∧ ∀ (s : State) (c : Case) (z : Zone) (rec : ZoneRecord) (lines : Lines) (r : Quad Reading)
      (src : LeakSource) (leaking un : ZoneSet) (refs : Four (Option Nat)),
      c.proc = .leak src leaking un refs →
      let out := c.sample z rec lines r s
      let drained := ∀ z' : Zone, leaking.get z' = true → ∃ v rec',
        ((s.smp.channels.get z').level.reading = .valid v
          ∨ (s.smp.channels.get z').level.reading = .stale v)
        ∧ (s.pmc.zones.get z').slot.record = some rec' ∧ v ≤ rec'.levelEmpty
      (c.state = .isolating → (∃ ref, refs.get z = some ref) → lines.drive (.drain z) = true →
        out = ({ c with proc := .leak src leaking (un.set z true) (refs.set z none) }, false))
      ∧ (c.state = .isolating → refs.get z = none ∨ lines.drive (.drain z) = false → out = (c, false))
      ∧ (c.state = .acting → leaking.get z = true → drained →
          out = ({ c with proc := .leak src leaking un (Four.fill none), state := .manual, step := .none
                          timer := none, counter := none }, false))
      ∧ (c.state = .acting → leaking.get z = false ∨ ¬drained → out = (c, false))
      ∧ (c.state = .verifying ∨ c.state = .manual → out = (c, false))

/-- PURGE_EXPIRY and REFILL_EXPIRY (R144, R147): the purge ends in REFILL, whose FORCE stands on FILL and no
longer on DRAIN; the refill that is not done in time fails the attempt: the case purges again, or at
max_attempts goes MANUAL and marks its zone. A timer with time left does not expire (R134; a command that
comes early does nothing: log entries 4 and 5). What a zone sample makes of a FILTER case (R145, R146):
refilled to level_setpoint it verifies, and verified by its count of samples, a number fixed when the
verification starts (R158; log entry 13), it ends. And how any case that is not suspended takes a zone sample
(R124, R134, R152, R20): it becomes what its procedure makes of it, or ends; the other cases go on; an
unisolated current halts the machine, with every case suspended. Entering MANUAL holds the linked racks, and
nothing else here touches a rack (R127, R78). -/
def Obligations.FilterTimersExpire : Prop :=
  (∀ (s : State) (c : Case) (z : Zone) (rec : ZoneRecord) (lines : Lines) (r : Quad Reading),
    s.TableSound → c ∈ s.cm.table → c.suspended = false → c.isResolved = false →
    let out := c.sample z rec lines r s
    let t := s.caseSample z rec lines r c.id
    t.KeepsOtherCases s c.id ∧ t.smp = s.smp ∧ t.SameOutside s
    ∧ t.rt =
        { s.rt with
          queue := s.rt.queue.map fun x =>
            if c.state ≠ .manual ∧ out.1.state = .manual then x.holdFor c.id else x }
    ∧ (out.1.isResolved = false → ∃ c' ∈ t.cm.table, c'.bare = out.1.bare)
    ∧ (out.1.isResolved = true → t.CaseEnded s c.id)
    ∧ (out.2 = false → t.pmc.mode = s.pmc.mode ∧ t.pmc.haltCause = s.pmc.haltCause)
    ∧ (out.2 = true → s.pmc.mode ≠ .halt → s.pmc.mode ≠ .starting →
        t.pmc.mode = .halt ∧ t.pmc.haltCause = .unisolatedHeat
          ∧ (∀ id, t.lg.claimOf .mode id = some .block)
          ∧ ∀ x ∈ t.cm.table, x.isResolved = false → x.suspended = true))
  ∧ (∀ (s : State) (c : Case) (z : Zone) (p a g : Nat) (rec : ZoneRecord) (lines : Lines)
      (r : Quad Reading), c.proc = .filter z p a g →
      let out := c.sample z rec lines r s
      let full := ∃ v, (r.level = .valid v ∨ r.level = .stale v) ∧ rec.levelSetpoint ≤ v
      (c.state = .acting → c.step = .refill → full →
        out = ({ c with proc := .filter z p a (s.pmc.limits.filterVerify * 4), state := .verifying
                        step := .none, timer := none, counter := some 0 }, false))
      ∧ (c.state = .acting → c.step ≠ .refill ∨ ¬full → out = (c, false))
      ∧ (∀ n, c.state = .verifying → c.counter = some n →
          (n + 1 < g → out = ({ c with counter := some (n + 1) }, false))
          ∧ (g ≤ n + 1 →
              out = ({ c with state := .resolved, step := .none, timer := none, counter := none
                              suspended := false }, false)))
      ∧ (c.state = .manual → out = (c, false)))
  ∧ ∀ (s : State) (c : Case) (z : Zone) (p a g : Nat),
    s.live = true → s.TableSound → c ∈ s.cm.table → c.proc = .filter z p a g → c.state = .acting →
    c.suspended = false →
    (∀ ms, c.timer = some (ms + 1) →
      exec (.purgeExpiry z) s = .next s ∧ exec (.refillExpiry z) s = .next s)
    ∧ (c.timer = some 0 →
    (c.step = .purge →
      ∃ t, exec (.purgeExpiry z) s = .next t ∧ t.KeepsOtherCases s c.id ∧ t.rt = s.rt
        ∧ t.lg.claimOf (.ofCase c.id) (.fill z) = some .force
        ∧ t.lg.claimOf (.ofCase c.id) (.drain z) = none
        ∧ t.lg.claimOf (.ofCase c.id) (.pump z) = some .block
        ∧ t.lg.claimOf (.ofCase c.id) .conveyor = some .block
        ∧ t.smp = s.smp ∧ t.SameOutside s
        ∧ ∃ c' ∈ t.cm.table,
            c'.bare
              = { c with proc := .filter z p a 0, step := .refill,
                         timer := some (s.pmc.limits.refillTimeout * 1000), counter := none }.bare)
    ∧ (c.step = .refill → a + 1 < s.pmc.limits.maxAttempts →
        ∃ t, exec (.refillExpiry z) s = .next t ∧ t.KeepsOtherCases s c.id ∧ t.rt = s.rt
          ∧ t.lg.claimOf (.ofCase c.id) (.drain z) = some .force
          ∧ t.lg.claimOf (.ofCase c.id) (.fill z) = none
          ∧ t.smp = s.smp ∧ t.SameOutside s
          ∧ ∃ c' ∈ t.cm.table,
              c'.bare
                = { c with proc := .filter z p (a + 1) 0, step := .purge,
                           timer := some (s.pmc.limits.purgeTime * 1000), counter := none }.bare)
    ∧ (c.step = .refill → s.pmc.limits.maxAttempts ≤ a + 1 →
        ∃ t, exec (.refillExpiry z) s = .next t ∧ t.KeepsOtherCases s c.id
          ∧ t.rt = { s.rt with queue := s.rt.queue.map (Rack.holdFor c.id) }
          ∧ c.id ∈ (t.pmc.zones.get z).marker ∧ t.smp = s.smp ∧ t.SameOutside s
          ∧ ∃ c' ∈ t.cm.table,
              c'.bare
                = { c with proc := .filter z p (a + 1) 0, state := .manual, step := .none,
                           timer := none, counter := none }.bare))

/-! ### Racks -/

/-- R65, R66: an entry event in RUN admits a rack under the pitch rule; with 24 racks inside it admits none
and every rack inside is TRACK_LOST; a bounce and an event outside RUN change nothing. -/
def Obligations.EntryEventAdmits : Prop :=
  ∀ s : State,
    (s.pmc.mode ≠ .run → s.entryEvent = s)
    ∧ (∀ stamp, s.rt.lastStamp = some stamp →
        (s.smp.travel - stamp).toNat < s.pmc.limits.minPitch → s.entryEvent = s)
    ∧ (s.pmc.mode = .run →
        (∀ stamp, s.rt.lastStamp = some stamp →
          s.pmc.limits.minPitch ≤ (s.smp.travel - stamp).toNat) →
        (s.rt.queue.length < 24 →
          (∃ r : Rack,
            s.entryEvent.rt =
              { queue := s.rt.queue ++ [r], nextTag := if 65535 ≤ s.rt.nextTag then 1 else s.rt.nextTag + 1,
                lastStamp := some s.smp.travel, admitted := s.rt.admitted + 1 }
            ∧ r.tag = s.rt.nextTag ∧ r.entryStamp = some s.smp.travel ∧ r.exitPosition = none
            ∧ r.position s.smp.travel = 0 ∧ r.dose = 0
            ∧ (∀ z : Zone, r.contact.get z = 0
                ∧ r.mask.get z = (s.pmc.zones.get z).slot.isOnline)
            ∧ r.hold = none ∧ r.exited = false ∧ r.carried = false ∧ r.dwellExpired = false
            ∧ r.trackLost = false ∧ r.flush = none ∧ r.links = [] ∧ r.linksMore = false
            ∧ r.outcome = none)
          ∧ s.entryEvent.ck.trigger = true)
        ∧ (24 ≤ s.rt.queue.length →
            s.entryEvent
              = { s with
                  rt := { s.rt with
                    queue := s.rt.queue.map fun r =>
                      if r.exited then r else { r with trackLost := true }
                    lastStamp := some s.smp.travel } }))

/-- R70, R71, the law of the device: the disposition of a rack judged at its exit, and its reasons. -/
def Obligations.OutcomeOfARack : Prop :=
  ∀ (r : Rack) (required : Four Nat) (doseRequired : Nat),
    let o := r.judge required doseRequired
    (o.disposition = .hold ↔ r.hold.isSome = true ∨ r.trackLost = true)
    ∧ (o.disposition = .clean ↔
        doseRequired ≤ r.dose ∧ (∀ z : Zone, r.mask.get z = true → required.get z ≤ r.contact.get z)
          ∧ r.hold = none ∧ r.dwellExpired = false ∧ r.trackLost = false ∧ r.carried = false)
    ∧ (∀ z : Zone, o.shortZones.get z = true ↔
        r.mask.get z = true ∧ r.contact.get z < required.get z)
    ∧ (o.reasons.contactShort = true ↔ ∃ z : Zone, o.shortZones.get z = true)
    ∧ (o.reasons.doseShort = true ↔ r.dose < doseRequired)
    ∧ o.reasons.dwellExpired = r.dwellExpired ∧ (o.reasons.caseHold = true ↔ r.hold = some .byCase)
    ∧ o.reasons.trackLost = r.trackLost ∧ o.reasons.carried = r.carried
    ∧ (o.reasons.standbyFlush = true ↔ r.flush = some .standbyFlush)
    ∧ (o.reasons.haltFlush = true ↔ r.flush = some .haltFlush)
    ∧ (o.disposition = .clean → o.reasons.contactShort = false ∧ o.reasons.doseShort = false
        ∧ o.reasons.caseHold = false)
    ∧ (o.disposition = .rewash → o.reasons.contactShort = true ∨ o.reasons.doseShort = true
        ∨ o.reasons.dwellExpired = true ∨ o.reasons.carried = true)

/-- ENCODER_PULSE (R40, R69, R73, R74): a counted pulse moves travel by mm_per_pulse; the racks keep their
order, the oldest moving into the outcome queue; those at or beyond exit_position exit, each with its position
stored and its outcome decided on the profile in force (R63, R69, R70), and each notice carries the record's
contents (R72); afterwards the first rack inside is short of exit_position, the head is not EXITED unless the
outcome queue is full, and the stall claim stands exactly with 16 notices. Outside STARTING a pulse with the
CONVEYOR drive on restarts a running silence timer (R112) and ends the TRAVEL case (R113, R157); with the
drive off it touches no case. An edge that comes too soon changes nothing (R199). -/
def Obligations.PulseMovesRacks : Prop :=
  ∀ (s : State) (trackerFirst : Bool), s.live = true →
    exec (.encoderPulse false trackerFirst) s = .next s
    ∧ (s.lk.outcomes.length ≤ 16 → s.rt.Shaped →
        let travel := s.smp.travel + BitVec.ofNat 32 s.pmc.limits.mmPerPulse
        let required : Four Nat := Four.ofFn fun z =>
          match (s.pmc.zones.get z).slot.record with
          | none => 0
          | some rec => rec.contactRequired
        let out := fun r : Rack =>
          { r with exited := true, exitPosition := some (r.position travel)
                   outcome := some (r.judge required s.pmc.limits.doseRequired) }
        ∃ t, exec (.encoderPulse true trackerFirst) s = .next t
          ∧ t.smp = { s.smp with travel := s.smp.travel + BitVec.ofNat 32 s.pmc.limits.mmPerPulse }
          ∧ noticeTags t.lk.outcomes ++ tagsOf t.rt.queue
              = noticeTags s.lk.outcomes ++ tagsOf s.rt.queue
          ∧ (∃ waiting leaving staying : List Rack, s.rt.queue = waiting ++ leaving ++ staying
              ∧ (∀ r ∈ waiting, r.exited = true)
              ∧ (∀ r ∈ leaving, r.exited = false ∧ s.pmc.limits.exitPosition ≤ r.position travel)
              ∧ (∀ r ∈ staying, r.exited = false)
              ∧ (∀ r, staying.head? = some r → r.position travel < s.pmc.limits.exitPosition)
              ∧ ∃ n, n = min (16 - s.lk.outcomes.length) (waiting ++ leaving).length
                ∧ t.rt.queue = (waiting ++ leaving.map out).drop n ++ staying
                ∧ t.lk.outcomes
                    = s.lk.outcomes ++ ((waiting ++ leaving.map out).take n).filterMap fun r =>
                        r.outcome.map fun o =>
                          { tag := r.tag, outcome := o, mask := r.mask, contact := r.contact
                            dose := r.dose, exitPosition := r.position travel, links := r.links
                            linksMore := r.linksMore })
          ∧ (∀ r, t.rt.queue.head? = some r → r.exited = true → t.lk.outcomes.length = 16)
          ∧ (∀ r, (t.rt.queue.find? fun r => !r.exited) = some r →
              r.position t.smp.travel < s.pmc.limits.exitPosition)
          ∧ (t.lg.claimOf .outcomeStall .conveyor = some .block ↔ t.lk.outcomes.length = 16)
          ∧ t.lk.outcomes.length ≤ 16 ∧ t.pmc.mode = s.pmc.mode ∧ t.pmc.limits = s.pmc.limits
          ∧ t.rt.nextTag = s.rt.nextTag ∧ t.rt.admitted = s.rt.admitted ∧ t.SameOutside s
          ∧ (∀ ms, s.pmc.mode ≠ .starting → s.fd.silence = some ms → s.lg.drive .conveyor = true →
              t.lg.drive .conveyor = true → t.fd.silence = some (s.pmc.limits.encoderSilence * 1000))
          ∧ (s.pmc.mode = .starting ∨ (trackerFirst = false ∧ s.lg.drive .conveyor = false) →
              t.cm = s.cm)
          ∧ ∀ c ∈ s.cm.table, s.TableSound → s.DrivesResolved → s.ClaimsStand → s.pmc.mode ≠ .starting →
              c.proc = .travel → c.isResolved = false → s.lg.drive .conveyor = true →
              trackerFirst = false ∨ t.lk.outcomes.length < 16 →
              t.CaseEnded s c.id ∧ t.KeepsOtherCases s c.id)

/-- R62, R68, R91: whatever the command, at most 24 racks stay in the transit queue, the EXITED ones first,
each with its dose, contacts and links in range, and so the snapshots. R62 to R64, the law of the device:
whatever the command, tags stay a run, so that no two records share one, and the positions of the records that
are not EXITED stay below 20,000 mm and do not increase from head to tail. -/
def Obligations.RacksStaySound : Prop :=
  (∀ s t : State, s.RacksSound → step s = .next t → t.RacksSound)
  ∧ (∀ s t : State, s.RacksOrdered → step s = .next t → t.RacksOrdered)
  ∧ ∀ s : State, s.RacksSound → s.RacksOrdered → (s.rt.queue.map (·.tag)).Nodup

/-- R80, the law of the device: whatever the command, the admitted counter stays the racks in transit plus
the notices in the outcome queue plus outcomes_sent. -/
def Obligations.RacksStayCounted : Prop :=
  ∀ s t : State, s.Quiet → s.lk.SendsHeld → s.RacksCounted → step s = .next t →
    t.Quiet ∧ t.lk.SendsHeld ∧ t.RacksCounted

/-- R77, R78, R79: what linking, a case going MANUAL and lost tracking make of a rack; and R67: which racks
are in a zone. -/
def Obligations.LinksAndHolds : Prop :=
  (∀ (r : Rack) (slot : SlotState) (travel : Word32),
    r.inZone slot travel = true ↔
      r.exited = false ∧ ∃ rec, slot = .online rec ∧ rec.spanStart ≤ r.position travel
        ∧ r.position travel < rec.spanEnd)
  ∧ ∀ (r : Rack) (id : Nat),
    (r.exited = true → r.link id = r ∧ r.holdFor id = r ∧ r.lose = r)
    ∧ (r.exited = false →
        (id ∈ r.links → r.link id = r)
        ∧ (id ∉ r.links → r.links.length < 4 → r.link id = { r with links := r.links ++ [id] })
        ∧ (id ∉ r.links → 4 ≤ r.links.length → r.link id = { r with linksMore := true })
        ∧ (id ∈ r.links ∨ r.linksMore = true →
            (r.hold = none → r.holdFor id = { r with hold := some .byCase })
              ∧ (∀ h, r.hold = some h → r.holdFor id = r))
        ∧ (id ∉ r.links → r.linksMore = false → r.holdFor id = r)
        ∧ r.lose = { r with trackLost := true })

/-- HALT_CLEAR (R21, R75): in HALT it is answered OK and the mode becomes STANDBY; every rack still inside is
EXITED with HOLD and the flush reason, no rack is lost or reordered; in another mode it is refused. -/
def Obligations.HaltClearFlushes : Prop :=
  ∀ (s : State) (r : Request), s.Asks r → r.kind = 0x0F → r.payload = [] →
    (s.pmc.mode ≠ .halt → s.pmc.mode ≠ .starting →
      exec .haltClear s = .next { s with lk := s.answered r [0x13] })
    ∧ (s.pmc.mode = .halt →
        ∃ t, exec .haltClear s = .next t ∧ t.RepliesTo s r [0x00]
          ∧ t.pmc = { s.pmc with mode := .standby, haltCause := .none } ∧ t.smp = s.smp
          ∧ noticeTags t.lk.outcomes ++ tagsOf t.rt.queue
              = noticeTags s.lk.outcomes ++ tagsOf s.rt.queue
          ∧ (∀ x ∈ t.rt.queue, x.exited = true)
          ∧ (∀ x ∈ s.rt.queue, x.exited = false →
              ∃ y : Rack, y.tag = x.tag ∧ y.exited = true ∧ y.flush = some .haltFlush
                ∧ y.hold = some (x.hold.getD .byFlush)
                ∧ (∃ o, y.outcome = some o ∧ o.disposition = .hold ∧ o.reasons.haltFlush = true
                    ∧ (y ∈ t.rt.queue ∨ y.notice o ∈ t.lk.outcomes)))
          ∧ (∀ id, t.lg.claimOf .mode id = if id = .conveyor then some .block else none)
          ∧ t.SameOutside s)

/-! ### Fault detectors -/

/-- R107 to R110, R102: the counts of a configured tank's detectors at one zone sample, and the trips, each
with the reading it was judged on, in the order HEATER_STUCK, LEAK, OVERTEMP, FILTER, HEATER_OPEN. -/
def Obligations.DetectorCounts : Prop :=
  ∀ (lines : Lines) (z : Zone) (rec : ZoneRecord) (window : Nat) (r : Quad Reading) (t : Tank),
    let out := t.sample lines z rec window r
    let k := lines.driven z
    let high := ∃ v, (r.pressure = .valid v ∨ r.pressure = .stale v) ∧ rec.filterThreshold ≤ v
    let low := ∃ v, (r.current = .valid v ∨ r.current = .stale v)
      ∧ v < (2 * k - 1) * rec.elementCurrent / 2
    let flowing := ∃ v, (r.current = .valid v ∨ r.current = .stale v) ∧ rec.elementCurrent / 2 ≤ v
    let hot := ∃ v, (r.temp = .valid v ∨ r.temp = .stale v) ∧ rec.tMax ≤ v
    (t.filterCount ≤ 7 → t.openCount ≤ 2 → t.stuckCount ≤ 2 → t.overtempCount ≤ 1 →
      (lines.drive (.pump z) = true ∧ high →
        out.1.filterCount = (if t.filterCount = 7 then 0 else t.filterCount + 1)
          ∧ ((∃ p, Detection.filter z p ∈ out.2) ↔ t.filterCount = 7))
      ∧ (¬(lines.drive (.pump z) = true ∧ high) →
          out.1.filterCount = 0 ∧ ∀ p, Detection.filter z p ∉ out.2)
      ∧ (1 ≤ k ∧ low →
          out.1.openCount = (if t.openCount = 2 then 0 else t.openCount + 1)
            ∧ ((∃ i, Detection.heaterOpen z k i ∈ out.2) ↔ t.openCount = 2))
      ∧ (¬(1 ≤ k ∧ low) → out.1.openCount = 0 ∧ ∀ n i, Detection.heaterOpen z n i ∉ out.2)
      ∧ (k = 0 ∧ flowing →
          out.1.stuckCount = (if t.stuckCount = 2 then 0 else t.stuckCount + 1)
            ∧ ((∃ i, Detection.heaterStuck z i ∈ out.2) ↔ t.stuckCount = 2))
      ∧ (¬(k = 0 ∧ flowing) → out.1.stuckCount = 0 ∧ ∀ i, Detection.heaterStuck z i ∉ out.2)
      ∧ (hot →
          out.1.overtempCount = (if t.overtempCount = 1 then 0 else t.overtempCount + 1)
            ∧ ((∃ v, Detection.overtemp z v ∈ out.2) ↔ t.overtempCount = 1))
      ∧ (¬hot → out.1.overtempCount = 0 ∧ ∀ v, Detection.overtemp z v ∉ out.2))
    ∧ ∃ stuck leak heat filter opened : List Detection,
        out.2 = stuck ++ leak ++ heat ++ filter ++ opened
        ∧ leak.length ≤ 1 ∧ (∀ d ∈ leak, ∃ ref v, d = .leakTank z ref v)
        ∧ (∀ v, (r.current = .valid v ∨ r.current = .stale v) →
            stuck = (if k = 0 ∧ rec.elementCurrent / 2 ≤ v ∧ 2 ≤ t.stuckCount then
                [.heaterStuck z v] else [])
            ∧ opened = (if 1 ≤ k ∧ v < (2 * k - 1) * rec.elementCurrent / 2 ∧ 2 ≤ t.openCount then
                [.heaterOpen z k v] else []))
        ∧ (r.current = .unknown → stuck = [] ∧ opened = [])
        ∧ (∀ v, (r.temp = .valid v ∨ r.temp = .stale v) →
            heat = if rec.tMax ≤ v ∧ 1 ≤ t.overtempCount then [.overtemp z v] else [])
        ∧ (r.temp = .unknown → heat = [])
        ∧ (∀ v, (r.pressure = .valid v ∨ r.pressure = .stale v) →
            filter = if lines.drive (.pump z) = true ∧ rec.filterThreshold ≤ v ∧ 7 ≤ t.filterCount then
                [.filter z v] else [])
        ∧ (r.pressure = .unknown → filter = [])

/-- R104, R105: how a sample arms, disarms and trips the level decline detector. -/
def Obligations.LevelDeclineDetector : Prop :=
  ∀ (lines : Lines) (z : Zone) (rec : ZoneRecord) (window : Nat) (r : Quad Reading) (t : Tank),
    let out := t.sample lines z rec window r
    (t.level = none →
      (∀ v, r.level = .valid v → lines.drive (.fill z) = false → lines.drive (.drain z) = false →
        out.1.level = some { reference := v, window := window * 1000 })
      ∧ ((∀ v, r.level ≠ .valid v) ∨ lines.drive (.fill z) = true ∨ lines.drive (.drain z) = true →
          out.1.level = none)
      ∧ ∀ ref v, Detection.leakTank z ref v ∉ out.2)
    ∧ ∀ w, t.level = some w →
        (r.level = .unknown → out.1.level = none ∧ ∀ ref v, Detection.leakTank z ref v ∉ out.2)
        ∧ ∀ v, (r.level = .valid v ∨ r.level = .stale v) →
            (rec.leakThreshold + v ≤ w.reference →
              out.1.level = some { reference := v, window := window * 1000 }
                ∧ Detection.leakTank z w.reference v ∈ out.2)
            ∧ (w.reference < rec.leakThreshold + v →
                out.1.level = some w ∧ ∀ ref v', Detection.leakTank z ref v' ∉ out.2)

/-- LEAK_WINDOW_EXPIRY (R106): with its window at 0 an armed detector takes the value its level channel holds
as the reference and its window restarts; nothing else changes, and nothing at all for a detector that is not
armed or whose window has time left (log entries 4 and 5). -/
def Obligations.LeakWindowTakesReference : Prop :=
  ∀ (s : State) (z : Zone), s.live = true → s.pmc.mode ≠ .starting →
    ((s.fd.tanks.get z).level = none → exec (.leakWindowExpiry z) s = .next s)
    ∧ (∀ w, (s.fd.tanks.get z).level = some w → w.window ≠ 0 →
        exec (.leakWindowExpiry z) s = .next s)
    ∧ ∀ w v, (s.fd.tanks.get z).level = some w → w.window = 0 →
        ((s.smp.channels.get z).level.reading = .valid v
          ∨ (s.smp.channels.get z).level.reading = .stale v) →
        ∃ t, exec (.leakWindowExpiry z) s = .next t
          ∧ t.fd.tanks.get z
              = { s.fd.tanks.get z with
                  level := some { reference := v, window := s.pmc.limits.leakWindow * 1000 } }
          ∧ (∀ z', z' ≠ z → t.fd.tanks.get z' = s.fd.tanks.get z')
          ∧ t.fd.silence = s.fd.silence ∧ t = { s with fd := t.fd }

/-- ENCODER_SILENCE_EXPIRY (R113, R79, R123, R157): with the timer at 0 it restarts and a TRAVEL detection
is made: it opens a TRAVEL case and every rack inside is TRACK_LOST, or adds to the recurrence of the
TRAVEL case there is and touches nothing else; with the timer stopped, or restarted by a pulse taken first,
nothing happens (log entries 4 and 5). -/
def Obligations.EncoderSilenceDetects : Prop :=
  ∀ s : State, s.live = true → s.pmc.mode ≠ .starting → s.TableSound → s.ck.trigger = false →
    (s.fd.silence ≠ some 0 → exec .encoderSilenceExpiry s = .next s)
    ∧ (s.fd.silence = some 0 → s.cm.table.length < 8 →
        (∀ c ∈ s.cm.table, c.takes .travel = false) →
        ∃ t, exec .encoderSilenceExpiry s = .next t
          ∧ (∃ c ∈ t.cm.table, c.proc = .travel ∧ c.state = .degraded ∧ c.recurrence = 0)
          ∧ t.rt =
              { s.rt with
                queue := s.rt.queue.map fun r => if r.exited then r else { r with trackLost := true } }
          ∧ (s.lg.drive .conveyor = true → t.lg.drive .conveyor = true →
              t.fd.silence = some (s.pmc.limits.encoderSilence * 1000))
          ∧ t.smp = s.smp ∧ t.pmc = s.pmc ∧ t.SameOutside s)
    ∧ (∀ c ∈ s.cm.table, s.fd.silence = some 0 → c.proc = .travel → c.isResolved = false →
        s.ClaimsStand →
        exec .encoderSilenceExpiry s
          = .next { s with
              fd := { s.fd with silence := some (s.pmc.limits.encoderSilence * 1000) }
              cm := { s.cm with
                table := s.cm.table.map fun o =>
                  if o.id = c.id then { o with recurrence := min (o.recurrence + 1) 255 } else o } })

/-! ### Checkpoints -/

/-- ERASE_COMPLETE and PROGRAM_COMPLETE (R164): the target slot is blank and programming begins; the slot
holds the snapshot in flight with its check value last, less the bits the cells did not take (log entry 19),
and is read back: it is valid exactly where the cells took them all. In another stage nothing happens (log
entry 4); no other slot changes. -/
def Obligations.WriteStagesFollow : Prop :=
  ∀ s : State, s.live = true →
    (∀ snap target, s.ck.write = .busy .erasing snap target →
      exec .eraseComplete s
        = .next { s with
            ck := { s.ck with write := .busy .programming snap target,
                              slots := s.ck.slots.set target .blank } })
    ∧ ((∀ snap target, s.ck.write ≠ .busy .erasing snap target) → exec .eraseComplete s = .next s)
    ∧ (∀ damage snap target, s.ck.write = .busy .programming snap target →
        ∃ contents : SlotContents,
          exec (.programComplete damage) s
            = .next { s with
                ck := { s.ck with write := .busy .verifying snap target,
                                  slots := s.ck.slots.set target contents } }
          ∧ contents = .record snap (crc16 snap.bytes ^^^ damage)
          ∧ (1 ≤ snap.generation → snap.generation ≤ 4294967294 →
              (contents.valid = some snap ↔ damage = 0) ∧ (contents.valid = none ↔ damage ≠ 0)))
    ∧ ∀ damage, (∀ snap target, s.ck.write ≠ .busy .programming snap target) →
        exec (.programComplete damage) s = .next s

/-- VERIFY_COMPLETE (R164, R165): a slot read back valid with the generation in flight becomes the current
slot, and the write is over, or EXHAUSTED at the last generation, or a pending write starts with a fresh
snapshot; a slot read back otherwise becomes BAD and the same snapshot goes to the next GOOD slot, or with
none left the state becomes FAILED. The slots after the target are tried counting round, BAD ones passed over
(R163). Nothing of the washer changes. What a snapshot holds (R160, R63): an entry for each record of the
transit queue and a summary of each case of the table, in their orders. -/
def Obligations.VerifyCompletes : Prop :=
  (∀ (s : State) (n : Nat),
    s.snapshot n =
      { generation := n, nextTag := s.rt.nextTag, nextCaseId := s.cm.nextId, mode := s.pmc.mode
        onlineMask := Four.ofFn fun z =>
          match (s.pmc.zones.get z).slot with
          | .online _ => true
          | _ => false
        racks := s.rt.queue.map fun r =>
          { tag := r.tag, position := r.position s.smp.travel, hold := r.hold
            dwellExpired := r.dwellExpired, trackLost := r.trackLost, flush := r.flush, dose := r.dose
            contact := r.contact, mask := r.mask }
        cases := s.cm.table.map fun c =>
          { id := c.id
            kind := match c.proc with
              | .leak _ _ _ _ => .leak
              | .filter _ _ _ _ => .filter
              | .heaterOpen _ _ _ _ _ => .heaterOpen
              | .heaterStuck _ _ _ => .heaterStuck
              | .overtemp _ _ => .overtemp
              | .sensor _ _ => .sensor
              | .travel => .sensor
            zone := match c.proc with
              | .leak .pan _ _ _ => none
              | .leak (.tank z) _ _ _ => some z
              | .filter z _ _ _ => some z
              | .heaterOpen z _ _ _ _ => some z
              | .heaterStuck z _ _ => some z
              | .overtemp z _ => some z
              | .sensor z _ => some z
              | .travel => none
            state := c.state } })
  ∧ (∀ (r : Rack) (travel : Word32),
      (∀ p, r.exitPosition = some p → r.position travel = p)
      ∧ ∀ stamp, r.exitPosition = none → r.entryStamp = some stamp →
          r.position travel = (travel - stamp).toNat)
  ∧ ∀ (s : State) (snap : Snapshot) (target : Fin 4), s.live = true →
    s.ck.write = .busy .verifying snap target →
    ((∃ sn, (s.ck.slots.get target).valid = some sn ∧ sn.generation = snap.generation) →
      ∃ t, exec .verifyComplete s = .next t ∧ t.SameWasher s ∧ t.SameOutside s
        ∧ t.ck.current = some target ∧ t.ck.lastWritten = some snap.generation
        ∧ t.ck.pending = false ∧ t.ck.bad = s.ck.bad
        ∧ (snap.generation = 4294967294 →
            t.ck.write = .idle ∧ t.ck.state = .exhausted ∧ t.ck.slots = s.ck.slots
              ∧ (s.lk.events.length < 16 →
                  t.lk.events
                    = s.lk.events ++ [.checkpoint .exhausted (some snap.generation) s.ck.bad])
              ∧ (16 ≤ s.lk.events.length → t.lk.checkpointFlag = true ∧ t.lk.events = s.lk.events))
        ∧ (snap.generation ≠ 4294967294 → t.lk = s.lk ∧ t.ck.state = s.ck.state)
        ∧ (snap.generation ≠ 4294967294 → s.ck.pending = false →
            t.ck.write = .idle ∧ t.ck.slots = s.ck.slots
              ∧ t.ck.nextGeneration = s.ck.nextGeneration)
        ∧ (snap.generation ≠ 4294967294 → s.ck.pending = true → s.ck.bad.get (target + 1) = false →
            t.ck.write = .busy .erasing (s.snapshot s.ck.nextGeneration) (target + 1)
              ∧ t.ck.nextGeneration = s.ck.nextGeneration + 1
              ∧ ∀ i, i ≠ target + 1 → t.ck.slots.get i = s.ck.slots.get i)
        ∧ (∀ next, snap.generation ≠ 4294967294 → s.ck.pending = true →
            NextGood (some target) s.ck.bad next →
            t.ck.write = .busy .erasing (s.snapshot s.ck.nextGeneration) next
              ∧ t.ck.nextGeneration = s.ck.nextGeneration + 1
              ∧ ∀ i, i ≠ next → t.ck.slots.get i = s.ck.slots.get i))
    ∧ ((∀ sn, (s.ck.slots.get target).valid = some sn → sn.generation ≠ snap.generation) →
        ∃ t, exec .verifyComplete s = .next t ∧ t.SameWasher s ∧ t.pending = s.pending
          ∧ t.ck.bad = s.ck.bad.set target true ∧ t.ck.current = s.ck.current
          ∧ t.ck.lastWritten = s.ck.lastWritten ∧ t.ck.nextGeneration = s.ck.nextGeneration
          ∧ (s.ck.bad.get (target + 1) = false →
              t.ck.write = .busy .erasing snap (target + 1) ∧ t.ck.pending = s.ck.pending
                ∧ t.ck.state = s.ck.state ∧ t.lk = s.lk)
          ∧ (∀ next, NextGood (some target) (s.ck.bad.set target true) next →
              t.ck.write = .busy .erasing snap next ∧ t.ck.pending = s.ck.pending
                ∧ t.ck.state = s.ck.state ∧ t.lk = s.lk
                ∧ ∀ i, i ≠ next → i ≠ target → t.ck.slots.get i = s.ck.slots.get i)
          ∧ ((∀ i : Fin 4, i ≠ target → s.ck.bad.get i = true) →
              t.ck.write = .idle ∧ t.ck.pending = false ∧ t.ck.state = .failed
                ∧ (s.lk.events.length < 16 →
                    t.lk.events
                      = s.lk.events ++ [.checkpoint .failed s.ck.lastWritten (Four.fill true)])))

/-- R163, the law of the device: whatever the command, once STARTING has ended every slot with a matching
check value and the write in flight stay below the next generation, which the next write takes. -/
def Obligations.GenerationsStaySound : Prop :=
  ∀ s t : State, s.Quiet → s.lk.SendsHeld → s.GenerationsSound → step s = .next t → t.GenerationsSound

/-- R168, R159: a slot is valid exactly where it holds a record with its generation in 1..4,294,967,294 and
with the check value of the fields before it; the restore scan selects a valid slot with the greatest
generation, the lower-numbered of two with the same; it selects none only when no slot is valid. -/
def Obligations.RestoreChoosesNewest : Prop :=
  ∀ slots : Four SlotContents,
    (∀ i sn, restoreChoice slots = some (i, sn) →
      (slots.get i).valid = some sn
        ∧ ∀ j sn', (slots.get j).valid = some sn' →
            sn'.generation ≤ sn.generation ∧ (j < i → sn'.generation < sn.generation))
    ∧ (restoreChoice slots = none ↔ ∀ j : Fin 4, (slots.get j).valid = none)
    ∧ ∀ (j : Fin 4) (sn : Snapshot), (slots.get j).valid = some sn ↔
        slots.get j = .record sn (crc16 sn.bytes) ∧ 1 ≤ sn.generation ∧ sn.generation ≤ 4294967294

/-! ### Supply and resets -/

/-- POWER_LOST and RESET_PIN_ASSERTED (R166, R199): the part takes no input and holds its outputs low, TX too,
which cuts a frame in transmission; a write that was erasing or programming leaves its slot invalid, no other
slot changes. While the part is powered DRV follows the drive of its line (R44), RDY the level the buffer has
given it (R175), and ATTN is high exactly while the event or the outcome queue holds a notice (R185). -/
def Obligations.PartGoesDown : Prop :=
  (∀ s : State, s.power.supplyGood = true → s.power.resetLow = false →
    (∀ id, s.drvPin id = s.lg.drive id) ∧ s.rdyPin = s.lk.rx.rdy
      ∧ (s.attnPin = true ↔ s.lk.events ≠ [] ∨ s.lk.outcomes ≠ []))
  ∧ ∀ (s : State) (c : Instr), c = .powerLost ∨ c = .resetPinAsserted →
    ∃ t, exec c s = .next t ∧ t.live = false ∧ (∀ id, t.drvPin id = false) ∧ t.rdyPin = false
      ∧ t.attnPin = false ∧ t.txPin = [false] ∧ t.lk.tx = .idle
      ∧ (c = .powerLost → t.power.supplyGood = false ∧ t.power.supplyLost = true
          ∧ t.power.resetLow = s.power.resetLow)
      ∧ (c = .resetPinAsserted → t.power.resetLow = true ∧ t.power.supplyGood = s.power.supplyGood
          ∧ t.power.supplyLost = s.power.supplyLost)
      ∧ t.power.cause = s.power.cause ∧ t.ck.write = .idle ∧ t.ck.pending = false
      ∧ (s.ck.write = .idle → t.ck.slots = s.ck.slots)
      ∧ (∀ snap target, s.ck.write = .busy .verifying snap target → t.ck.slots = s.ck.slots)
      ∧ (∀ stage snap target, s.ck.write = .busy stage snap target → stage ≠ .verifying →
          (t.ck.slots.get target).valid = none
            ∧ ∀ i, i ≠ target → t.ck.slots.get i = s.ck.slots.get i)

/-- POWER_RESET, PIN_RESET and PERFORM_RESTART (R171, R172, R199, R24, R43, R60, R84, R99, R117, R133, R161,
R187): each block stands as after a reset: STARTING, profile gone, every drive off, queues and tables empty,
the strap's rate, TX idle high and RDY high; kept are the slots, the levels at the pins and the waiting
commands; the slot of a write cut before it was VERIFYING is invalid (R166); the cause is recorded. Until the
restore scan sets them the current slot, the next and the last written generation read none, 1 and none
(R161), and the next rack tag (R84) and the next case id (R133) read 1: the model's choice, log entry 1. -/
def Obligations.ResetsLeaveTheResetState : Prop :=
  ∀ (s : State) (strap : Baud) (c : Instr) (cause : ResetCause),
    (c = .powerReset strap ∧ s.power.resetLow = false ∧ cause = .power)
      ∨ (c = .pinReset strap ∧ s.power.supplyGood = true
          ∧ cause = (if s.power.supplyLost then .power else .pin))
      ∨ (c = .performRestart strap ∧ s.powered = true ∧ s.lk.restart = .due ∧ cause = .restart) →
    ∃ t, exec c s = .next t ∧ t.live = true ∧ t.txPin = [true] ∧ t.rdyPin = true
      ∧ t.power = { supplyGood := true, resetLow := false, supplyLost := false, cause := cause }
      ∧ t.pmc.mode = .starting ∧ t.pmc.haltCause = .none ∧ t.pmc.limits = Limits.default
      ∧ (∀ z : Zone, t.pmc.zones.get z = { slot := .unconfigured, marker := [] })
      ∧ (∀ (z : Zone) (q : Quantity), (t.smp.channels.get z).get q
          = { calibration := none, reading := .unknown, runCount := 0 })
      ∧ t.smp.panWet = false ∧ t.smp.eyeBlocked = false ∧ t.smp.panPrevious = none
      ∧ t.smp.eyePrevious = none ∧ t.smp.travel = 0 ∧ t.smp.sinceRound = none
      ∧ (∀ id, t.lg.drive id = false ∧ (t.lg.get id).input = (s.lg.get id).input
          ∧ (t.lg.get id).request = (s.lg.get id).input
          ∧ t.lg.claimOf .mode id = some .block ∧ ∀ n, t.lg.claimOf (.ofCase n) id = none)
      ∧ t.rt = { queue := [], nextTag := 1, lastStamp := none, admitted := 0 } ∧ t.du = .inactive
      ∧ t.fd.silence = none
      ∧ (∀ z : Zone, t.fd.tanks.get z
          = { level := none, filterCount := 0, openCount := 0, stuckCount := 0, overtempCount := 0 })
      ∧ t.cm = { table := [], nextId := 1, uptime := 0, uptimeMs := 0, leakWatch := none }
      ∧ t.ck.write = .idle ∧ t.ck.pending = false ∧ t.ck.state = .on
      ∧ t.ck.current = none ∧ t.ck.nextGeneration = 1 ∧ t.ck.lastWritten = none
      ∧ t.ck.restored.generation = none
      ∧ (∀ st sn i, s.ck.write = .busy st sn i →
          (st = .verifying → t.ck.slots.get i = s.ck.slots.get i)
            ∧ (st ≠ .verifying → (t.ck.slots.get i).valid = none))
      ∧ (∀ i : Fin 4, t.ck.bad.get i = false)
      ∧ (∀ i : Fin 4, (∀ st sn, s.ck.write ≠ .busy st sn i) → t.ck.slots.get i = s.ck.slots.get i)
      ∧ t.lk.rate = strap ∧ t.lk.hold = s.lk.hold ∧ t.lk.rx.checked = [] ∧ t.lk.rx.assembly = []
      ∧ t.lk.rx.rdy = true ∧ t.lk.reply = none ∧ t.lk.events = [] ∧ t.lk.outcomes = []
      ∧ t.lk.traces = [] ∧ t.lk.restoreFlag = false ∧ t.lk.modeFlag = false
      ∧ t.lk.checkpointFlag = false ∧ t.lk.linkErrors = 0 ∧ t.lk.outcomesSent = 0
      ∧ t.lk.traceZone = none ∧ t.lk.traceGap = false ∧ t.lk.tx = .idle ∧ t.lk.restart = .none
      ∧ t.freeIndex = s.freeIndex ∧ t.pending = s.pending

/-- A reset goes on while the other condition lasts (R199, R171): a supply back while RESETn is low, and
RESETn high while the supply is out, leave the part down; and no restart is performed that is not due
(R172). -/
def Obligations.ResetsWaitForBoth : Prop :=
  ∀ (s : State) (strap : Baud),
    (s.power.resetLow = true →
      ∃ t, exec (.powerReset strap) s = .next t ∧ t.live = false ∧ t.power.supplyGood = true
        ∧ pinCause t.power = .power)
    ∧ (s.power.supplyGood = false →
        ∃ t, exec (.pinReset strap) s = .next t ∧ t.live = false ∧ t.power.resetLow = false
          ∧ t.power.supplyLost = s.power.supplyLost)
    ∧ (s.lk.restart ≠ .due → exec (.performRestart strap) s = .next s)

/-- STARTING_END (R169, R170, R76, R133): the newest valid slot is carried over: RESTORED is queued, then
MODE, then CHECKPOINT where the generations are exhausted; the carried racks leave in order into the outcome
queue, each as HOLD or REWASH with the reason CARRIED (with no slot chosen the notice's mask is empty: log
entry 30); each carried record takes its entry's values, and is HOLD exactly with HOLD or TRACK_LOST (R76);
the counters go on from the snapshot; one checkpoint write starts for the event, unless the state is not ON
(R169, R170); the mode becomes STANDBY, whose claim is on CONVEYOR alone. -/
def Obligations.StartingEnds : Prop :=
  ∀ s : State, s.live = true → s.pmc.mode = .starting → s.Quiet → s.lk.events = [] →
    ∃ t, exec .startingEnd s = .next t
      ∧ t.pmc = { s.pmc with mode := .standby, haltCause := .none }
      ∧ (∀ id, t.lg.claimOf .mode id = if id = .conveyor then some .block else none)
      ∧ t.smp = s.smp ∧ t.cm.table = [] ∧ t.SameOutside s
      ∧ (restoreChoice s.ck.slots = none →
          t.rt = { queue := [], nextTag := 1, lastStamp := none, admitted := 0 } ∧ t.cm.nextId = 1
            ∧ t.lk.outcomes = [] ∧ t.ck.current = none ∧ t.ck.lastWritten = none
            ∧ t.ck.pending = s.ck.pending
            ∧ (s.ck.state ≠ .on →
                t.ck.write = .idle ∧ t.ck.nextGeneration = 1 ∧ t.ck.slots = s.ck.slots)
            ∧ (∀ target, s.ck.state = .on → NextGood none s.ck.bad target →
                t.ck.write
                    = .busy .erasing
                        { generation := 1, nextTag := 1, nextCaseId := 1, mode := .standby
                          onlineMask := Four.ofFn fun z => (s.pmc.zones.get z).slot.isOnline
                          racks := [], cases := [] } target
                  ∧ t.ck.nextGeneration = 2
                  ∧ ∀ i, i ≠ target → t.ck.slots.get i = s.ck.slots.get i)
            ∧ t.lk.events =
                [.restored { generation := none, carried := 0, mode := none,
                             onlineMask := ZoneSet.none, abandoned := [] },
                 .mode .standby .none]
              ++ (if s.ck.state = .exhausted then [.checkpoint .exhausted none s.ck.bad] else []))
      ∧ (∀ i sn, restoreChoice s.ck.slots = some (i, sn) →
          let carried : List Rack := sn.racks.map fun e =>
            { tag := e.tag, entryStamp := none, exitPosition := some e.position, mask := e.mask
              contact := e.contact, dose := e.dose, hold := e.hold, dwellExpired := e.dwellExpired
              trackLost := e.trackLost, exited := true, carried := true, flush := e.flush, links := []
              linksMore := false
              outcome := some
                { disposition := if e.hold ≠ none ∨ e.trackLost = true then .hold else .rewash
                  reasons :=
                    { contactShort := false, doseShort := false, dwellExpired := e.dwellExpired
                      caseHold := e.hold = some .byCase, trackLost := e.trackLost, carried := true
                      standbyFlush := e.flush = some .standbyFlush
                      haltFlush := e.flush = some .haltFlush }
                  shortZones := Four.fill false } }
          t.rt.queue = carried.drop 16 ∧ t.rt.lastStamp = none
          ∧ t.lk.outcomes
              = (carried.take 16).filterMap (fun r => r.outcome.map fun o =>
                  { tag := r.tag, outcome := o, mask := r.mask, contact := r.contact, dose := r.dose
                    exitPosition := r.exitPosition.getD 0, links := [], linksMore := false })
          ∧ t.ck.pending = s.ck.pending
          ∧ (s.ck.state ≠ .on ∨ sn.generation = 4294967294 →
              t.ck.write = .idle ∧ t.ck.nextGeneration = sn.generation + 1
                ∧ t.ck.slots = s.ck.slots)
          ∧ (∀ target, s.ck.state = .on → sn.generation ≠ 4294967294 →
              NextGood (some i) s.ck.bad target →
              t.ck.write
                  = .busy .erasing
                      { generation := sn.generation + 1, nextTag := sn.nextTag
                        nextCaseId := sn.nextCaseId, mode := .standby
                        onlineMask := Four.ofFn fun z => (s.pmc.zones.get z).slot.isOnline
                        racks := sn.racks.drop 16, cases := [] } target
                ∧ t.ck.nextGeneration = sn.generation + 2
                ∧ ∀ j, j ≠ target → t.ck.slots.get j = s.ck.slots.get j)
          ∧ t.rt.nextTag = sn.nextTag ∧ t.cm.nextId = sn.nextCaseId ∧ t.ck.current = some i
            ∧ t.ck.lastWritten = some sn.generation
            ∧ t.rt.admitted = BitVec.ofNat 32 sn.racks.length
            ∧ noticeTags t.lk.outcomes ++ tagsOf t.rt.queue = sn.racks.map (·.tag)
            ∧ t.lk.outcomes.length = min 16 sn.racks.length
            ∧ (∀ o ∈ t.lk.outcomes, o.outcome.reasons.carried = true
                ∧ o.outcome.disposition ≠ .clean)
            ∧ (∀ x ∈ t.rt.queue, x.carried = true ∧ x.exited = true)
            ∧ t.lk.events =
                [.restored { generation := some sn.generation, carried := sn.racks.length,
                             mode := some sn.mode, onlineMask := sn.onlineMask,
                             abandoned := sn.cases },
                 .mode .standby .none]
              ++ (if sn.generation = 4294967294 ∨ s.ck.state = .exhausted then
                    [.checkpoint .exhausted (some sn.generation) s.ck.bad]
                  else []))

/-- R15, R24, R43, R60, R62, R80, R84, R117, R118, R120, R124, R133, R161, R181, R187: the state after reset
meets every law. -/
def Obligations.ResetMeetsTheLaws : Prop :=
  State.reset.DrivesResolved ∧ State.reset.ClaimsStand ∧ State.reset.TableSound
    ∧ State.reset.SuspensionSettled ∧ State.reset.RacksSound ∧ State.reset.RacksOrdered ∧ State.reset.RacksCounted
    ∧ State.reset.QueuesBounded ∧ State.reset.lk.SendsHeld ∧ State.reset.Quiet
    ∧ State.reset.GenerationsSound ∧ State.reset.DoseLimitsSound

/-! ### The link -/

/-- R179: the check value of the nine characters "123456789". -/
def Obligations.CheckValueOfTheTestText : Prop :=
  crc16 [0x31, 0x32, 0x33, 0x34, 0x35, 0x36, 0x37, 0x38, 0x39] = 0x29B1#16

/-- R173, R176, R175, R188: the bytes of a whole frame, received one by one as characters of even parity with
the stop bit high, with room for them, by an assembler that is hunting, leave one more checked frame, which
holds the kind, tag and payload sent, and count no error. -/
def Obligations.FramesAreReceived : Prop :=
  ∀ (rx : Rx) (kind tag : Byte) (payload : List Byte),
    payload.length ≤ 248 → rx.assembly = [] → rx.overflow = false →
    rx.count + payload.length + 6 ≤ 256 →
    let out := (frame kind tag payload).foldl
      (fun (a : Rx × Nat) b =>
        let n := a.1.take (receivedByte b { parity := parityBit b, stop := true })
        (n.1, a.2 + n.2))
      (rx, 0)
    out.2 = 0 ∧ out.1.checked = rx.checked ++ [frame kind tag payload] ∧ out.1.assembly = []
      ∧ out.1.overflow = false ∧ out.1.inBreak = rx.inBreak
      ∧ Request.ofFrame (frame kind tag payload) = { kind := kind, tag := tag, payload := payload }

/-- RX_BYTE (R173 to R177): a character whose data and parity bits hold an odd number of ones, or whose stop
bit is low, carries an error mark; hunting passes over a byte that is no SYNC; a SYNC starts a frame and joins
the buffer, RDY falling at 192 bytes; a byte at a full buffer is lost and spoils a frame in assembly; a LEN
outside 2..250 discards the frame uncounted; the last byte of a frame with the bad mark, set by any of its
bytes or by a byte lost at a full buffer, discards it, counted; an ordinary byte joins the frame; the last
byte of a frame without marks leaves it checked where the check value agrees, and discards it, counted, where
not; in a break nothing is taken. Where a frame is discarded RDY goes high with 64 bytes or fewer left (R175).
Nothing but the receive side and the error count changes. -/
def Obligations.CharactersAreTaken : Prop :=
  ∀ (s : State) (b : Byte) (ending : CharacterEnd) (mark : Bool),
    (mark = true ↔
      ((List.range 8).countP (fun i => b.getLsbD i) + ending.parity.toNat) % 2 = 1
        ∨ ending.stop = false) →
    s.live = true → s.lk.linkErrors ≤ 65535 →
    (s.lk.rx.inBreak = true → exec (.rxByte b ending) s = .next s)
    ∧ (s.lk.rx.inBreak = false → s.lk.rx.assembly = [] → b ≠ 0xC3 ∨ mark = true →
        exec (.rxByte b ending) s = .next s)
    ∧ (s.lk.rx.inBreak = false → s.lk.rx.assembly = [] → s.lk.rx.overflow = false →
        s.lk.rx.count < 256 → b = 0xC3 → mark = false →
        exec (.rxByte b ending) s
          = .next { s with
              lk := { s.lk with
                rx := { s.lk.rx with
                  assembly := [{ byte := 0xC3, errorMark := false }], gap := 50,
                  rdy := if 192 ≤ s.lk.rx.count + 1 then false else s.lk.rx.rdy } } })
    ∧ (s.lk.rx.inBreak = false → 256 ≤ s.lk.rx.count →
        exec (.rxByte b ending) s
          = .next { s with
              lk := { s.lk with
                rx := { s.lk.rx with overflow := s.lk.rx.overflow || !s.lk.rx.assembly.isEmpty } } })
    ∧ (∀ first, s.lk.rx.inBreak = false → s.lk.rx.assembly = [first] → first.isSync = true →
        s.lk.rx.count < 256 → b.toNat < 2 ∨ 250 < b.toNat → b ≠ 0xC3 ∨ mark = true →
        ∃ t, exec (.rxByte b ending) s = .next t ∧ t.lk.rx.assembly = []
          ∧ t.lk.rx.checked = s.lk.rx.checked ∧ t.lk.linkErrors = s.lk.linkErrors
          ∧ t.lk.rx.rdy
              = (if (s.lk.rx.checked.map List.length).sum ≤ 64 then true
                else if 192 ≤ s.lk.rx.count + 1 then false else s.lk.rx.rdy)
          ∧ t = { s with lk := { s.lk with rx := t.lk.rx } })
    ∧ (∀ first len rest, s.lk.rx.inBreak = false → s.lk.rx.assembly = first :: len :: rest →
        first.isSync = true → s.lk.rx.count < 256 → 2 ≤ len.byte.toNat → len.byte.toNat ≤ 250 →
        rest.length + 3 = len.byte.toNat + 4 →
        mark = true ∨ s.lk.rx.overflow = true ∨ (∃ x ∈ len :: rest, x.errorMark = true) →
        b ≠ 0xC3 ∨ mark = true →
        (∀ x ∈ len :: rest, x.isSync = false) →
        ∃ t, exec (.rxByte b ending) s = .next t ∧ t.lk.rx.assembly = []
          ∧ t.lk.rx.checked = s.lk.rx.checked
          ∧ t.lk.rx.rdy
              = (if (s.lk.rx.checked.map List.length).sum ≤ 64 then true
                else if 192 ≤ s.lk.rx.count + 1 then false else s.lk.rx.rdy)
          ∧ t.lk.linkErrors = min (s.lk.linkErrors + 1) 65535
          ∧ t = { s with lk := { s.lk with rx := t.lk.rx, linkErrors := t.lk.linkErrors } })
    ∧ (∀ first tail, s.lk.rx.inBreak = false → s.lk.rx.assembly = first :: tail →
        first.isSync = true → s.lk.rx.count < 256 →
        (∀ len, (tail ++ [({ byte := b, errorMark := mark } : RxByte)]).head? = some len →
          2 ≤ len.byte.toNat ∧ len.byte.toNat ≤ 250 ∧ tail.length + 2 < len.byte.toNat + 4) →
        exec (.rxByte b ending) s
          = .next { s with
              lk := { s.lk with
                rx := { s.lk.rx with
                  assembly := s.lk.rx.assembly ++ [{ byte := b, errorMark := mark }], gap := 50
                  rdy := if 192 ≤ s.lk.rx.count + 1 then false else s.lk.rx.rdy } } })
    ∧ (∀ first len rest, s.lk.rx.inBreak = false → s.lk.rx.assembly = first :: len :: rest →
        first.isSync = true → s.lk.rx.count < 256 → 2 ≤ len.byte.toNat → len.byte.toNat ≤ 250 →
        rest.length + 3 = len.byte.toNat + 4 → mark = false → s.lk.rx.overflow = false →
        (∀ x ∈ len :: rest, x.errorMark = false) →
        let f := s.lk.rx.assembly.map (·.byte) ++ [b]
        let covered := (f.drop 1).take (f.length - 3)
        (be16 (crc16 covered).toNat = f.drop (f.length - 2) →
          exec (.rxByte b ending) s
            = .next { s with
                lk := { s.lk with
                  rx := { s.lk.rx with
                    checked := s.lk.rx.checked ++ [f], assembly := [], gap := 50
                    rdy := if 192 ≤ s.lk.rx.count + 1 then false else s.lk.rx.rdy } } })
        ∧ (be16 (crc16 covered).toNat ≠ f.drop (f.length - 2) → b ≠ 0xC3 →
            (∀ x ∈ len :: rest, x.isSync = false) →
            ∃ t, exec (.rxByte b ending) s = .next t ∧ t.lk.rx.assembly = []
              ∧ t.lk.rx.checked = s.lk.rx.checked
              ∧ t.lk.rx.rdy
                  = (if (s.lk.rx.checked.map List.length).sum ≤ 64 then true
                    else if 192 ≤ s.lk.rx.count + 1 then false else s.lk.rx.rdy)
              ∧ t.lk.linkErrors = min (s.lk.linkErrors + 1) 65535
              ∧ t = { s with lk := { s.lk with rx := t.lk.rx, linkErrors := t.lk.linkErrors } }))

/-- FRAME_GAP_TIMEOUT, LINK_RESET and BREAK_END (R178, R174, R186, R172): the end of a gap leaves no frame in
assembly, and one that a byte taken first has put off does nothing (log entries 4 and 5). The frame whose gap
has ended is discarded uncounted (R177), RDY going high with 64 bytes or fewer left (R175); its remaining
bytes are hunted, and only frames they hold whole are judged, and counted where bad (log entry 20). A break
clears the receive side, the reply slot, the transmitter and the error count, sets the trace gap flag, keeps
the notice queues, and makes a restart whose reply it discards due; one break makes one link reset. -/
def Obligations.GapsAndBreaks : Prop :=
  ∀ s : State, s.live = true →
    (s.lk.rx.gap ≠ 0 → exec .frameGapTimeout s = .next s)
    ∧ (s.lk.rx.gap = 0 → ∃ t, exec .frameGapTimeout s = .next t ∧ t.lk.rx.assembly = []
        ∧ s.lk.rx.checked <+: t.lk.rx.checked
        ∧ t = { s with lk := { s.lk with rx := t.lk.rx, linkErrors := t.lk.linkErrors } })
    ∧ (s.lk.rx.gap = 0 → s.lk.linkErrors ≤ 65535 →
        (s.lk.rx.assembly = [] → exec .frameGapTimeout s = .next s)
        ∧ ∀ first rest, s.lk.rx.assembly = first :: rest → first.isSync = true →
          (∀ len, rest.head? = some len →
            2 ≤ len.byte.toNat ∧ len.byte.toNat ≤ 250 ∧ rest.length + 1 < len.byte.toNat + 4) →
          (let h := hunt true false 0 rest
            ∃ t, exec .frameGapTimeout s = .next t ∧ t.lk.rx.checked = s.lk.rx.checked ++ h.checked
              ∧ t.lk.linkErrors = min (s.lk.linkErrors + h.errors) 65535)
          ∧ ((∀ x ∈ rest, x.isSync = false) →
              exec .frameGapTimeout s
                = .next { s with
                    lk := { s.lk with
                      rx := { s.lk.rx with
                        assembly := [], overflow := false
                        rdy := if (s.lk.rx.checked.map List.length).sum ≤ 64 then true
                          else s.lk.rx.rdy } } }))
    ∧ (s.lk.rx.inBreak = false →
        exec .linkReset s
          = .next { s with
              lk := { s.lk with
                rx := { checked := [], assembly := [], overflow := false, gap := 0, rdy := true,
                        inBreak := true }
                reply := none
                tx := .idle
                linkErrors := 0
                traceGap := true
                restart := if s.lk.restart = .awaitingReply then .due else s.lk.restart } })
    ∧ (s.lk.rx.inBreak = true → exec .linkReset s = .next s)
    ∧ exec .breakEnd s
        = .next { s with lk := { s.lk with rx := { s.lk.rx with inBreak := false } } }

/-- TRANSMIT_START and HOLD_CHANGE (R181, R184): with the line idle and HOLD inactive the arbiter starts the
reply, else the head event notice, else the head outcome notice, else the head trace notice with the gap
marker, which clears the gap flag; with HOLD active, a frame being sent or nothing to send it starts none. A
change of HOLD is recorded and touches no frame, in every state, the part that is down included (log entry
15). TX rests high, and sends a frame's bytes back to back, each as a low start bit, eight data bits from the
least significant on, a bit that makes the ones even, and a high stop bit (R173). The payloads of the notices,
byte by byte (R196 to R198). -/
def Obligations.TransmitterObeysHold : Prop :=
  (∀ (s : State) (active : Bool),
    exec (.holdChange active) s = .next { s with lk := { s.lk with hold := active } })
  ∧ (∀ s : State, s.live = true →
      (s.lk.tx = .idle → s.txPin = [true])
      ∧ ∀ src f, s.lk.tx = .sending src f → ∃ parity : Byte → Bool,
          (∀ b, ((List.range 8).countP (fun i => b.getLsbD i) + (parity b).toNat) % 2 = 0)
          ∧ s.txPin = f.flatMap fun b =>
              [false, b.getLsbD 0, b.getLsbD 1, b.getLsbD 2, b.getLsbD 3, b.getLsbD 4, b.getLsbD 5,
               b.getLsbD 6, b.getLsbD 7, parity b, true])
  ∧ (∀ e : EventNotice,
      e.kind = (match e with
        | .ofCase _ => 0x60
        | _ => 0x63)
      ∧ e.payload =
          match e with
          | .ofCase c =>
            [byte c.id, byte c.proc.kind.code, zoneByte c.proc.zone,
             match c.proc with
             | .sensor _ q => byte (quantityCode q)
             | .travel => 5
             | _ => 0,
             byte c.state.code, byte c.step.code,
             match c.proc with
             | .filter _ _ attempt _ => byte attempt
             | _ => 0xFF,
             byte c.recurrence, flagByte c.suspended]
            ++ (match c.proc with
                | .leak src leaking un _ =>
                  [if src = .pan then 1 else 2, setByte leaking, setByte un, 0]
                | .heaterOpen _ k openA openB _ =>
                  [byte ((if openA then 1 else 0) + if openB then 2 else 0), byte k, 0, 0]
                | .filter _ pressure _ _ => be16 pressure ++ [0, 0]
                | .heaterStuck _ current _ => be16 current ++ [0, 0]
                | .overtemp _ temperature => be16 temperature ++ [0, 0]
                | _ => [0, 0, 0, 0])
            ++ be32 c.openedAt.toNat
          | .restored i =>
            [(1 : Byte)] ++ be32 (i.generation.getD 0)
              ++ [byte i.carried,
                  match i.mode with
                  | none => 0xFF
                  | some m => byte m.code,
                  setByte i.onlineMask, byte i.abandoned.length]
              ++ i.abandoned.flatMap fun c =>
                   [byte c.id, byte c.kind.code, zoneByte c.zone, byte c.state.code]
          | .mode m cause => [2, byte m.code, byte cause.code]
          | .checkpoint state last bad =>
            [(3 : Byte), byte state.code] ++ be32 (last.getD 0) ++ [setByte bad])
  ∧ (∀ o : OutcomeNotice,
      o.payload =
        be16 o.tag
          ++ [byte o.outcome.disposition.code,
              let m := o.outcome.reasons
              byte ((if m.contactShort then 1 else 0) + (if m.doseShort then 2 else 0)
                + (if m.dwellExpired then 4 else 0) + (if m.caseHold then 8 else 0)
                + (if m.trackLost then 16 else 0) + (if m.carried then 32 else 0)
                + (if m.standbyFlush then 64 else 0) + (if m.haltFlush then 128 else 0)),
              setByte o.outcome.shortZones, setByte o.mask]
          ++ (Four.indices.flatMap fun z => be16 (o.contact.get z)) ++ be32 o.dose
          ++ be16 o.exitPosition
          ++ [byte o.links.length, byte (o.links.getD 0 0), byte (o.links.getD 1 0),
              byte (o.links.getD 2 0), byte (o.links.getD 3 0), flagByte o.linksMore])
  ∧ (∀ (n : TraceNotice) (gap : Bool),
      n.payload gap =
        [byte n.zone.val, flagByte gap]
          ++ ([n.readings.temp, n.readings.level, n.readings.pressure, n.readings.current].flatMap
              fun r => be16 r.reported ++ [byte r.validityCode]))
  ∧ ∀ s : State, s.live = true →
    (s.lk.hold = true ∨ s.lk.tx ≠ .idle → exec .transmitStart s = .next s)
    ∧ (s.lk.reply = none → s.lk.events = [] → s.lk.outcomes = [] → s.lk.traces = [] →
        exec .transmitStart s = .next s)
    ∧ (s.lk.hold = false → s.lk.tx = .idle →
        (∀ r, s.lk.reply = some r →
          exec .transmitStart s
            = .next { s with lk := { s.lk with tx := .sending .reply (frame r.kind r.tag r.payload) } })
        ∧ (∀ e es, s.lk.reply = none → s.lk.events = e :: es →
            exec .transmitStart s
              = .next { s with
                  lk := { s.lk with tx := .sending .event (frame e.kind 0 e.payload) } })
        ∧ (∀ o os, s.lk.reply = none → s.lk.events = [] → s.lk.outcomes = o :: os →
            exec .transmitStart s
              = .next { s with
                  lk := { s.lk with tx := .sending .outcome (frame 0x61 0 o.payload) } })
        ∧ (∀ n ns, s.lk.reply = none → s.lk.events = [] → s.lk.outcomes = [] → s.lk.traces = n :: ns →
            exec .transmitStart s
              = .next { s with
                  lk := { s.lk with
                    tx := .sending .trace (frame 0x62 0 (n.payload s.lk.traceGap))
                    traceGap := false } }))

/-- REPLY_SENT, EVENT_NOTICE_SENT, OUTCOME_NOTICE_SENT and TRACE_NOTICE_SENT (R180 to R183, R172, R131, R132,
R73, R74): the sent frame leaves; a freed event entry takes the restore, mode or checkpoint announcement, else
the earliest announcing case; a sent outcome is counted and the racks drain into its place. With no such frame
being sent nothing happens (log entry 4). -/
def Obligations.SentFramesLeave : Prop :=
  ∀ (s : State) (f : List Byte), s.live = true → s.ck.trigger = false → s.QueuesBounded →
    (s.lk.tx = .sending .reply f →
      exec .replySent s
        = .next { s with
            lk := { s.lk with
              tx := .idle, reply := none,
              restart := if s.lk.restart = .awaitingReply then .due else s.lk.restart } })
    ∧ (s.lk.tx = .sending .trace f →
        exec .traceNoticeSent s
          = .next { s with lk := { s.lk with tx := .idle, traces := s.lk.traces.tail } })
    ∧ (s.lk.tx = .sending .event f →
        ∃ t, exec .eventNoticeSent s = .next t ∧ t.lk.tx = .idle ∧ t.rt = s.rt ∧ t.lg = s.lg
          ∧ t.pmc = s.pmc ∧ t.smp = s.smp ∧ t.SameOutside s
          ∧ (s.lk.restoreFlag = true →
              t.lk.events = s.lk.events.tail ++ [.restored s.ck.restored]
                ∧ t.lk.restoreFlag = false ∧ t.lk.modeFlag = s.lk.modeFlag)
          ∧ (s.lk.restoreFlag = false → s.lk.modeFlag = true →
              t.lk.events = s.lk.events.tail ++ [.mode s.pmc.mode s.pmc.haltCause]
                ∧ t.lk.modeFlag = false ∧ t.lk.checkpointFlag = s.lk.checkpointFlag)
          ∧ (s.lk.restoreFlag = false → s.lk.modeFlag = false → s.lk.checkpointFlag = true →
              t.lk.events
                  = s.lk.events.tail ++ [.checkpoint s.ck.state s.ck.lastWritten s.ck.bad]
                ∧ t.lk.checkpointFlag = false ∧ t.cm = s.cm)
          ∧ (s.lk.restoreFlag = false → s.lk.modeFlag = false → s.lk.checkpointFlag = false →
              (∀ c, s.cm.table.find? (fun x => x.announce) = some c →
                t.lk.events = s.lk.events.tail ++ [.ofCase { c with announce := false }]
                  ∧ (c.state = .resolved → ∀ x ∈ t.cm.table, x.id ≠ c.id)
                  ∧ (c.state ≠ .resolved → { c with announce := false } ∈ t.cm.table))
              ∧ ((∀ c ∈ s.cm.table, c.announce = false) →
                  t.lk.events = s.lk.events.tail ∧ t.cm = s.cm)))
    ∧ (s.lk.tx = .sending .outcome f → s.rt.Shaped →
        ∃ t, exec .outcomeNoticeSent s = .next t ∧ t.lk.tx = .idle
          ∧ t.lk.outcomesSent = s.lk.outcomesSent + 1 ∧ t.lk.events = s.lk.events
          ∧ noticeTags t.lk.outcomes ++ tagsOf t.rt.queue
              = (noticeTags s.lk.outcomes).tail ++ tagsOf s.rt.queue
          ∧ (∀ r, t.rt.queue.head? = some r → r.exited = true → t.lk.outcomes.length = 16)
          ∧ (t.lg.claimOf .outcomeStall .conveyor = some .block ↔ t.lk.outcomes.length = 16)
          ∧ t.pmc = s.pmc ∧ t.smp = s.smp ∧ t.cm = s.cm ∧ t.SameOutside s)
    ∧ ((∀ src, s.lk.isSending src = false) →
        exec .replySent s = .next s ∧ exec .eventNoticeSent s = .next s
          ∧ exec .outcomeNoticeSent s = .next s ∧ exec .traceNoticeSent s = .next s)

/-- R181, R175, the law of the device: whatever the command, the three notice queues hold at most 16 notices
each and the inbound buffer at most 256 bytes. -/
def Obligations.QueuesStayBounded : Prop :=
  ∀ s t : State, s.QueuesBounded → step s = .next t → t.QueuesBounded

/-! ### Requests -/

/-- How LK takes a request (R180, R188, R190, R184, R172). While the part takes nothing or the reply slot is
full the request waits, and a request of another kind than the command's waits for its own; a kind that is no
request's gives UNKNOWN_KIND; in STARTING every request but IDENT and STATUS gives STARTING; a wrong payload
length gives BAD_LENGTH. TRACE sets the selection or refuses it; RESTART is answered OK and waits for its
reply to leave. When a taken request's frame leaves the buffer RDY goes high with 64 bytes or fewer left, and
keeps its level otherwise (R175). -/
def Obligations.LinkAnswersRequests : Prop :=
  (∀ (s : State) (k n : Nat) (c : Instr), (k, n, c) ∈ requestRows → s.live = false ∨ s.lk.reply ≠ none →
    exec c s = .next s ∧ exec .unknownKind s = .next s)
  ∧ ∀ (s : State) (r : Request), s.Asks r →
    (s.lk.rx.dropHead =
      { s.lk.rx with
        checked := s.lk.rx.checked.tail
        rdy := if (s.lk.rx.checked.tail.map List.length).sum + s.lk.rx.assembly.length ≤ 64 then true
          else s.lk.rx.rdy })
    ∧ (r.kind.toNat < 0x01 ∨ 0x11 < r.kind.toNat →
      exec .unknownKind s = .next { s with lk := s.answered r [0x10] })
    ∧ (∀ (k n : Nat) (c : Instr), (k, n, c) ∈ requestRows →
        (r.kind.toNat ≠ k → exec c s = .next s)
        ∧ (r.kind.toNat = k → exec .unknownKind s = .next s)
        ∧ (r.kind.toNat = k → s.pmc.mode = .starting → 0x03 ≤ k →
            exec c s = .next { s with lk := s.answered r [0x1A] })
        ∧ (r.kind.toNat = k → s.pmc.mode ≠ .starting ∨ k < 0x03 → r.payload.length ≠ n →
            exec c s = .next { s with lk := s.answered r [0x11] }))
    ∧ (∀ b : Byte, r.kind = 0x10 → r.payload = [b] → s.pmc.mode ≠ .starting →
        (∀ z : Zone, b.toNat = z.val →
          exec .trace s = .next { s with lk := { s.answered r [0x00] with traceZone := some z } })
        ∧ (b = 0xFF →
            exec .trace s = .next { s with lk := { s.answered r [0x00] with traceZone := none } })
        ∧ (4 ≤ b.toNat → b ≠ 0xFF → exec .trace s = .next { s with lk := s.answered r [0x12] }))
    ∧ (r.kind = 0x11 → r.payload = [] → s.pmc.mode ≠ .starting →
        exec .restart s
          = .next { s with lk := { s.answered r [0x00] with restart := .awaitingReply } })

/-- IDENT, STATUS and ZONE_READ (R193, R194, R42): the reply data byte by byte, in every mode that takes the
request; nothing changes but the reply slot and the buffer. ZONE_READ of an UNCONFIGURED zone reads 0 but
for the machine inputs, and a zone number above 3 is refused. The code values and encodings of R189. -/
def Obligations.BlockReadsReport : Prop :=
  ((∀ n, n < 256 → (byte n).toNat = n)
    ∧ (∀ n, n < 65536 → (be16 n).map (·.toNat) = [n / 256, n % 256])
    ∧ (∀ n, n < 4294967296 →
        (be32 n).map (·.toNat) = [n / 16777216, n / 65536 % 256, n / 256 % 256, n % 256])
    ∧ flagByte false = 0 ∧ flagByte true = 1 ∧ zoneByte none = 0xFF
    ∧ (∀ z : Zone, (zoneByte (some z)).toNat = z.val)
    ∧ (∀ (v : ZoneSet) (z : Zone), (setByte v).getLsbD z.val = v.get z)
    ∧ (∀ m : Mode, m.code = match m with
        | .starting => 0 | .standby => 1 | .prepare => 2 | .run => 3 | .halt => 4)
    ∧ (∀ h : HaltCause, h.code = match h with
        | .none => 0 | .requested => 1 | .caseTableFull => 2 | .unisolatedHeat => 3)
    ∧ (∀ z : SlotState, z.code = match z with
        | .unconfigured => 0 | .offline _ => 1 | .online _ => 2)
    ∧ (∀ x : Reading, x.validityCode = (match x with
          | .unknown => 0 | .stale _ => 1 | .valid _ => 2)
        ∧ x.reported = match x with
          | .unknown => 0 | .stale v => v | .valid v => v)
    ∧ (∀ k : CaseKind, k.code = match k with
        | .leak => 1 | .filter => 2 | .heaterOpen => 3 | .heaterStuck => 4 | .overtemp => 5
        | .sensor => 6)
    ∧ (∀ x : CaseState, x.code = match x with
        | .isolating => 1 | .acting => 2 | .verifying => 3 | .degraded => 4 | .manual => 5
        | .resolved => 6)
    ∧ (∀ x : Machine.Step, x.code = match x with
        | .none => 0 | .purge => 1 | .refill => 2 | .testA => 3 | .testB => 4 | .drain => 5)
    ∧ (∀ q : Quantity, quantityCode q = match q with
        | .temp => 1 | .level => 2 | .pressure => 3 | .current => 4)
    ∧ (∀ x : Disposition, x.code = match x with
        | .clean => 1 | .rewash => 2 | .hold => 3)
    ∧ (∀ o : Owner, o.code = (match o with
          | .mode => 1 | .ofCase _ => 2 | .zoneOff _ => 3 | .tempGuard _ => 4 | .levelGuard _ => 5
          | .dwell => 6 | .outcomeStall => 7)
        ∧ o.caseId = match o with
          | .ofCase n => n
          | _ => 0)
    ∧ ClaimKind.block.code = 1 ∧ ClaimKind.force.code = 2
    ∧ (∀ x : CkState, x.code = match x with
        | .on => 1 | .failed => 2 | .exhausted => 3)
    ∧ (∀ x : ResetCause, x.code = match x with
        | .power => 1 | .pin => 2 | .restart => 3)
    ∧ (∀ h : Option HoldCause, holdCode h = match h with
        | none => 0 | some .byCase => 1 | some .byFlush => 2)
    ∧ (∀ f : Option FlushReason, flushCode f = match f with
        | none => 0 | some .standbyFlush => 1 | some .haltFlush => 2)
    ∧ (∀ m : Reasons,
        [m.contactShort, m.doseShort, m.dwellExpired, m.caseHold, m.trackLost, m.carried, m.standbyFlush,
          m.haltFlush] = (List.range 8).map m.byte.getLsbD))
  ∧ ∀ (s : State) (r : Request), s.Asks r →
    (r.kind = 0x01 → r.payload = [] →
      exec .ident s = .next { s with
        lk := s.answered r
          ([0x00, 0x0A, 0x17, 0xC3, 0x04, 0x01,
            match s.power.cause with
            | .power => 1
            | .pin => 2
            | .restart => 3]
            ++ be32 (s.ck.restored.generation.getD 0)
            ++ [match s.ck.state with
                | .on => 1
                | .failed => 2
                | .exhausted => 3]) })
    ∧ (r.kind = 0x02 → r.payload = [] →
        ∃ p, exec .status s = .next { s with lk := s.answered r (0x00 :: p) } ∧ p.length = 38
          ∧ p =
              [byte s.pmc.mode.code, byte s.pmc.haltCause.code]
              ++ (Four.indices.map fun z =>
                  byte ((s.pmc.zones.get z).slot.code
                    + if (s.pmc.zones.get z).marker = [] then 0 else 0x80))
              ++ [byte s.rt.queue.length, byte (s.rt.queue.countP fun x => x.exited),
                  byte (s.rt.queue.countP fun x => x.carried),
                  byte (s.rt.queue.countP fun x => x.flush.isSome)]
              ++ be32 s.rt.admitted.toNat ++ be32 s.lk.outcomesSent.toNat
              ++ [byte s.cm.table.length, byte (s.cm.table.countP fun c => !c.isResolved),
                  byte s.lk.events.length, byte s.lk.outcomes.length, byte s.lk.traces.length,
                  flagByte (16 ≤ s.lk.events.length), flagByte (16 ≤ s.lk.outcomes.length),
                  flagByte (16 ≤ s.lk.traces.length),
                  flagByte (s.lk.restoreFlag || s.lk.modeFlag || s.lk.checkpointFlag
                    || s.cm.table.any fun c => c.announce),
                  flagByte s.lk.traceGap, flagByte (s.du ≠ .inactive)]
              ++ be16 s.lk.linkErrors ++ [byte s.ck.state.code] ++ be32 (s.ck.lastWritten.getD 0)
              ++ [setByte s.ck.bad, zoneByte s.lk.traceZone])
    ∧ ∀ b : Byte, r.kind = 0x09 → r.payload = [b] → s.pmc.mode ≠ .starting →
        (4 ≤ b.toNat → exec .zoneRead s = .next { s with lk := s.answered r [0x12] })
        ∧ ∀ z : Zone, b.toNat = z.val →
            ∃ p inputs, exec .zoneRead s = .next { s with lk := s.answered r (0x00 :: p ++ inputs) }
              ∧ p.length = 29
              ∧ inputs = [flagByte s.smp.panWet, flagByte s.smp.eyeBlocked] ++ be32 s.smp.travel.toNat
              ∧ ((s.pmc.zones.get z).slot = .unconfigured → ∀ x ∈ p, x = 0)
              ∧ ((s.pmc.zones.get z).slot ≠ .unconfigured →
                  p =
                    [byte (s.pmc.zones.get z).slot.code, flagByte ((s.pmc.zones.get z).marker ≠ [])]
                    ++ (([.temp, .level, .pressure, .current] : List Quantity).flatMap fun q =>
                        let ch := (s.smp.channels.get z).get q
                        [flagByte ch.calibration.isSome] ++ be16 ch.reading.reported
                          ++ [byte ch.reading.validityCode, byte ch.runCount])
                    ++ [flagByte
                          (match (s.pmc.zones.get z).slot, (s.smp.channels.get z).temp.reading with
                           | .online rec, .valid v => s.lg.drive (.pump z) && rec.tMin ≤ v
                           | _, _ => false),
                        flagByte (s.lg.drive (.heatA z)), flagByte (s.lg.drive (.heatB z)),
                        flagByte (s.lg.drive (.pump z)), flagByte (s.lg.drive (.fill z)),
                        flagByte (s.lg.drive (.drain z)), byte (s.lg.driven z)])

/-- LINES_READ, RACKS_READ and CASE_READ (R59, R82, R130, R194, R195): whole line entries from the first line
on, as many as fit; up to 8 rack entries of 28 bytes from the start index on; the whole record of a case; and
the refusals. Nothing changes but the reply slot and the buffer. The model's choices: the run value of a case
without a counter reads 0xFFFF, and claims come in the order of the lines (log entry 12); a position above
65,535 is given by its two low bytes (log entry 26). -/
def Obligations.ListReadsReport : Prop :=
  ∀ (s : State) (r : Request) (b : Byte), s.Asks r → r.payload = [b] → s.pmc.mode ≠ .starting →
    (r.kind = 0x0A →
      (21 < b.toNat → exec .linesRead s = .next { s with lk := s.answered r [0x12] })
      ∧ (b.toNat ≤ 21 →
          ∃ n, n ≤ 22 - b.toNat ∧
            let entry := fun id : LineId =>
              [byte id.number, flagByte (s.lg.get id).request, flagByte (s.lg.get id).drive,
               byte (s.lg.get id).claims.length]
              ++ (s.lg.get id).claims.flatMap fun c =>
                   [byte c.owner.code, byte c.owner.caseId, byte c.kind.code]
            let entries := ((LineId.all.drop b.toNat).take n).map entry
            exec .linesRead s
                = .next { s with lk := s.answered r ([0x00, b, byte n] ++ entries.flatten) }
              ∧ entries.flatten.length ≤ 245
              ∧ ∀ id, (LineId.all.drop (b.toNat + n)).head? = some id →
                  245 < entries.flatten.length + (entry id).length))
    ∧ (r.kind = 0x0B →
        (23 < b.toNat → exec .racksRead s = .next { s with lk := s.answered r [0x12] })
        ∧ (b.toNat ≤ 23 →
            ∃ entries : List (List Byte),
              exec .racksRead s
                  = .next { s with
                      lk := s.answered r
                        ([0x00, byte s.rt.queue.length, byte entries.length] ++ entries.flatten) }
                ∧ entries.length = min 8 (s.rt.queue.length - b.toNat)
                ∧ (∀ e ∈ entries, e.length = 28)
                ∧ ∀ (i : Nat) (x : Rack), i < 8 → s.rt.queue[b.toNat + i]? = some x →
                    ∃ e, entries[i]? = some e
                      ∧ e.take 4 = be16 x.tag ++ be16 (x.position s.smp.travel)
                      ∧ (e.drop 4).take 9
                          = setByte x.mask :: (Four.indices.flatMap fun z => be16 (x.contact.get z))
                      ∧ (e.drop 13).take 4 = be32 x.dose
                      ∧ (e.drop 17).take 8
                          = [byte ((if x.hold = none then 0 else 1) + (if x.dwellExpired then 2 else 0)
                              + (if x.trackLost then 4 else 0) + (if x.exited then 8 else 0)
                              + (if x.carried then 16 else 0) + (if x.linksMore then 32 else 0)),
                             match x.hold with
                             | none => 0
                             | some .byCase => 1
                             | some .byFlush => 2,
                             match x.flush with
                             | none => 0
                             | some .standbyFlush => 1
                             | some .haltFlush => 2,
                             byte x.links.length, byte (x.links.getD 0 0), byte (x.links.getD 1 0),
                             byte (x.links.getD 2 0), byte (x.links.getD 3 0)]
                      ∧ (x.exited = false → e.drop 25 = [0, 0, 0])
                      ∧ ∀ o, x.exited = true → x.outcome = some o →
                          e.drop 25
                            = [byte o.disposition.code, o.reasons.byte, setByte o.shortZones]))
    ∧ (r.kind = 0x0C →
        (b = 0 ∨ (∀ c ∈ s.cm.table, c.id ≠ b.toNat) →
          exec .caseRead s = .next { s with lk := s.answered r [0x16] })
        ∧ ∀ c, findCase s.cm.table b.toNat = some c → b ≠ 0 →
            ∃ p, exec .caseRead s = .next { s with lk := s.answered r (0x00 :: p) }
              ∧ p.take 6
                  = [byte c.id, byte c.proc.kind.code, zoneByte c.proc.zone, c.proc.quantityByte,
                     byte c.state.code, byte c.step.code]
              ∧ (∀ ms, c.timer = some ms → (p.drop 6).take 2 = be16 (ms / 100))
              ∧ (c.timer = none → (p.drop 6).take 2 = [0xFF, 0xFF])
              ∧ (∀ n, c.counter = some n → (p.drop 8).take 2 = be16 n)
              ∧ (c.counter = none → (p.drop 8).take 4 = [0xFF, 0xFF, 0xFF, 0xFF])
              ∧ (∀ n, c.counter = some n → (p.drop 10).take 2 =
                  match c.proc with
                  | .heaterOpen _ _ _ _ sum => be16 sum
                  | .heaterStuck _ _ low => be16 low
                  | _ => [0xFF, 0xFF])
              ∧ (p.drop 12).take 1 = [match c.proc with
                  | .filter _ _ attempt _ => byte attempt
                  | _ => 0xFF]
              ∧ (p.drop 13).take 3
                  = [byte c.recurrence, flagByte c.suspended, flagByte c.announce]
              ∧ (p.drop 16).take 4 = be32 c.openedAt.toNat
              ∧ (p.drop 20).take 4 =
                  (match c.proc with
                   | .leak src leaking un _ =>
                     [if src = .pan then 1 else 2, setByte leaking, setByte un, 0]
                   | .heaterOpen _ k openA openB _ =>
                     [byte ((if openA then 1 else 0) + if openB then 2 else 0), byte k, 0, 0]
                   | .filter _ pressure _ _ => be16 pressure ++ [0, 0]
                   | .heaterStuck _ current _ => be16 current ++ [0, 0]
                   | .overtemp _ temperature => be16 temperature ++ [0, 0]
                   | _ => [0, 0, 0, 0])
              ∧ (p.drop 24).take 8 = (Four.indices.flatMap fun z =>
                  match c.proc, c.state with
                  | .leak _ _ _ refs, .isolating =>
                    (match refs.get z with
                     | some level => be16 level
                     | none => [0xFF, 0xFF])
                  | _, _ => [0xFF, 0xFF])
              ∧ (s.ClaimsStand →
                  let list := fun claim : LineId → Option ClaimKind =>
                    let entries := LineId.all.filterMap fun id =>
                      (claim id).map fun k => [byte id.number, match k with
                        | .block => 1
                        | .force => 2]
                    byte entries.length :: entries.flatten
                  p.drop 32
                    = list (fun id => s.lg.claimOf (.ofCase c.id) id)
                      ++ list fun id =>
                          if c.suspended = true ∧ (id, ClaimKind.force) ∈ c.wanted then some .force
                          else none))

/-- MODE (R16 to R20, R192): the table of current mode and target, its refusals, the profile check, the
test of the transit queue with and without force (a record both CARRIED and flushed does not keep
STANDBY out: the model's choice, log entry 25), the flush before the change, and the entry eye at RUN
entry; the write that the change starts holds the state at the end of the request, one event with all of
these (R160, R163; log entry 10). The profile check (R10, R11) takes the ONLINE zones, and one to be put
ONLINE, in ascending order and reports the first of the ten checks that fails, with the zone that its
row names; it passes where none fails. -/
def Obligations.ModeFollowsTheTable : Prop :=
  (∀ (zones : Four ZoneSlot) (also : Option Zone),
    (onlineZones zones also).Pairwise (fun a b => a.1 < b.1)
    ∧ ∀ z rec, (z, rec) ∈ onlineZones zones also ↔
        (zones.get z).slot = .online rec ∨ ((zones.get z).slot = .offline rec ∧ also = some z))
  ∧ (∀ (zones : OnlineZones) (l : Limits) (chs : Four (Quad Channel)),
      zones.Pairwise (fun a b => a.1 < b.1) →
      (∀ f, profileCheck zones l chs = some f ↔
        FailsCheck zones l chs f.check f.zone
          ∧ ∀ n z, n < f.check → ¬FailsCheck zones l chs n z)
      ∧ (profileCheck zones l chs = none ↔ ∀ n z, ¬FailsCheck zones l chs n z))
  ∧ ∀ (s : State) (r : Request) (target force : Byte), s.Asks r → r.kind = 0x03 →
    r.payload = [target, force] → s.pmc.mode ≠ .starting →
    let refused := fun p => exec .mode s = .next { s with lk := s.answered r p }
    let check := profileCheck (onlineZones s.pmc.zones none) s.pmc.limits s.smp.channels
    let good := 1 ≤ target.toNat ∧ target.toNat ≤ 4 ∧ force.toNat ≤ 1
    (¬good → refused [0x12])
    ∧ (good → s.pmc.mode = .halt → refused [0x13])
    ∧ (good → s.pmc.mode ≠ .halt → target.toNat = s.pmc.mode.code → refused [0x00])
    ∧ (good → s.pmc.mode = .standby → target = 3 → refused [0x13])
    ∧ (good → (s.pmc.mode = .standby ∧ target = 2)
          ∨ (s.pmc.mode = .prepare ∧ target = 3
              ∧ ∀ x ∈ s.rt.queue, x.carried = false ∧ x.flush = none) →
        ∀ f, check = some f → refused [0x15, byte f.check, zoneByte f.zone])
    ∧ (good → s.pmc.mode = .standby → target = 2 → check = none →
        ∃ t, exec .mode s = .next t ∧ t.RepliesTo s r [0x00] ∧ t.ModeChanged s .prepare .none
          ∧ t.rt = s.rt)
    ∧ (good → s.pmc.mode = .prepare → target = 3 →
        ((∃ x ∈ s.rt.queue, x.carried = true ∨ x.flush ≠ none) → refused [0x18])
        ∧ ((∀ x ∈ s.rt.queue, x.carried = false ∧ x.flush = none) → check = none →
            ∃ t, exec .mode s = .next t ∧ t.RepliesTo s r [0x00] ∧ t.ModeChanged s .run .none
              ∧ t.rt =
                  (if s.smp.eyeBlocked then
                    ({ s with pmc := { s.pmc with mode := .run } } : State).entryEvent.rt
                  else s.rt)))
    ∧ (good → s.pmc.mode = .run → target = 2 →
        ∃ t, exec .mode s = .next t ∧ t.RepliesTo s r [0x00] ∧ t.ModeChanged s .prepare .none
          ∧ t.rt = s.rt)
    ∧ (good → s.pmc.mode = .prepare ∨ s.pmc.mode = .run → target = 1 →
        ((∀ x ∈ s.rt.queue, x.flush ≠ none) →
          ∃ t, exec .mode s = .next t ∧ t.RepliesTo s r [0x00] ∧ t.ModeChanged s .standby .none
            ∧ t.rt = s.rt)
        ∧ ((∃ x ∈ s.rt.queue, x.flush = none) → force = 0 → refused [0x18])
        ∧ ((∃ x ∈ s.rt.queue, x.flush = none) → force = 1 →
            ∃ t, exec .mode s = .next t ∧ t.RepliesTo s r [0x00] ∧ t.ModeChanged s .standby .none
              ∧ noticeTags t.lk.outcomes ++ tagsOf t.rt.queue
                  = noticeTags s.lk.outcomes ++ tagsOf s.rt.queue
              ∧ (∀ x ∈ t.rt.queue, x.exited = true)
              ∧ (∀ x ∈ s.rt.queue, x.exited = true →
                  x ∈ t.rt.queue ∨ ∃ o, x.outcome = some o ∧ x.notice o ∈ t.lk.outcomes)
              ∧ (∀ x ∈ s.rt.queue, x.exited = false →
                  ∃ y : Rack, y.tag = x.tag ∧ y.flush = some .standbyFlush
                    ∧ ∃ o, y.outcome = some o ∧ o.disposition = .hold ∧ o.reasons.standbyFlush = true
                        ∧ (y ∈ t.rt.queue ∨ y.notice o ∈ t.lk.outcomes))))
    ∧ (good → s.pmc.mode ≠ .halt → target = 4 →
        ∃ t, exec .mode s = .next t ∧ t.RepliesTo s r [0x00] ∧ t.ModeChanged s .halt .requested
          ∧ t.rt = s.rt)

/-- ZONE_LOAD, CHAN_LOAD and LIMITS_LOAD (R2, R4 to R9, R26, R191): the tests in their order, what each field
of a taken load becomes, the list of clamped fields, and what a load leaves alone. CHAN_LOAD disarms and
clears the detectors that read the channel, and restarts the count of its SENSOR case (R114, R156; log entry
14); ZONE_LOAD keeps the detectors (R114). -/
def Obligations.LoadsAreTaken : Prop :=
  ∀ (s : State) (r : Request), s.Asks r → s.pmc.mode ≠ .starting →
    (∀ presence : Nat, r.kind = 0x04 → r.payload.length = 26 → presence = sent16 r.payload 1 →
      let number := (r.payload.getD 0 0).toNat
      let final := (r.payload.getD 25 0).toNat
      let good := presence.testBit 0 = true ∧ presence.testBit 1 = true
        ∧ (presence.testBit 11 = true → final ≤ 1)
      (4 ≤ number → exec .zoneLoad s = .next { s with lk := s.answered r [0x12] })
      ∧ ∀ z : Zone, number = z.val →
          ((s.pmc.zones.get z).slot.isOnline = true →
            exec .zoneLoad s = .next { s with lk := s.answered r [0x14] })
          ∧ ((s.pmc.zones.get z).slot.isOnline = false → ¬good →
              exec .zoneLoad s = .next { s with lk := s.answered r [0x12] })
          ∧ ((s.pmc.zones.get z).slot.isOnline = false → good →
              ∃ t rec listed, exec .zoneLoad s = .next t ∧ t.RepliesTo s r (clampedReply listed)
                ∧ t.pmc.zones.get z
                    = { slot := .offline rec, marker := (s.pmc.zones.get z).marker }
                ∧ (∀ fw ∈ (zoneFields r.payload).zip rec.numbers, fw.1.Taken presence listed fw.2)
                ∧ rec.final = (presence.testBit 11 && final == 1)
                ∧ listed.Pairwise (· < ·) ∧ (∀ n ∈ listed, n ≤ 10)
                ∧ (∀ z', z' ≠ z → t.pmc.zones.get z' = s.pmc.zones.get z')
                ∧ (∀ o id, o ≠ .zoneOff z → o ≠ .levelGuard z → t.lg.claimOf o id = s.lg.claimOf o id)
                ∧ t.pmc.limits = s.pmc.limits ∧ t.pmc.mode = s.pmc.mode ∧ t.smp = s.smp ∧ t.rt = s.rt
                ∧ t.du = s.du ∧ t.cm = s.cm ∧ t.ck = s.ck ∧ t.SameOutside s
                ∧ (s.ClaimsStand → t.fd = s.fd)))
    ∧ (∀ presence : Nat, r.kind = 0x05 → r.payload.length = 10 →
        presence = (r.payload.getD 1 0).toNat →
        let number := (r.payload.getD 0 0).toNat
        let lo := min 4095 (sent16 r.payload 2)
        let hi := min 4095 (sent16 r.payload 4)
        let good := (∀ n, n < 4 → presence.testBit n = true) ∧ lo < hi
        (16 ≤ number → exec .chanLoad s = .next { s with lk := s.answered r [0x12] })
        ∧ ∀ (z : Zone) (q : Quantity), number = 4 * z.val + (match q with
              | .temp => 0
              | .level => 1
              | .pressure => 2
              | .current => 3) →
            ((s.pmc.zones.get z).slot.isOnline = true →
              exec .chanLoad s = .next { s with lk := s.answered r [0x14] })
            ∧ ((s.pmc.zones.get z).slot.isOnline = false → ¬good →
                exec .chanLoad s = .next { s with lk := s.answered r [0x12] })
            ∧ ((s.pmc.zones.get z).slot.isOnline = false → good →
                ∃ t c, exec .chanLoad s = .next t
                  ∧ t.RepliesTo s r (clampedReply
                      ((if lo = sent16 r.payload 2 then [] else [0])
                        ++ (if hi = sent16 r.payload 4 then [] else [1])))
                  ∧ c = { rawLo := lo, rawHi := hi,
                          engLo := (BitVec.ofNat 16 (sent16 r.payload 6)).toInt,
                          engHi := (BitVec.ofNat 16 (sent16 r.payload 8)).toInt }
                  ∧ (t.smp.channels.get z).get q
                      = { calibration := some c, reading := .unknown, runCount := 0 }
                  ∧ (∀ z' q', (z', q') ≠ (z, q) →
                      (t.smp.channels.get z').get q' = (s.smp.channels.get z').get q')
                  ∧ t.smp.travel = s.smp.travel ∧ t.pmc = s.pmc ∧ t.rt = s.rt ∧ t.du = s.du
                  ∧ t.ck = s.ck ∧ t.SameOutside s
                  ∧ (s.ClaimsStand →
                      t.fd.silence = s.fd.silence
                      ∧ (∀ z', z' ≠ z → t.fd.tanks.get z' = s.fd.tanks.get z')
                      ∧ t.fd.tanks.get z
                          = match q with
                            | .temp => { s.fd.tanks.get z with overtempCount := 0 }
                            | .level => { s.fd.tanks.get z with level := none }
                            | .pressure => { s.fd.tanks.get z with filterCount := 0 }
                            | .current => { s.fd.tanks.get z with openCount := 0, stuckCount := 0 })
                  ∧ t.cm = { s.cm with
                      table := s.cm.table.map fun c =>
                        if c.proc = .sensor z q ∧ c.state ≠ .resolved then
                          { c with counter := c.counter.map fun _ => 0 }
                        else c }
                  ∧ t.cm.table.map (fun c => (c.id, c.proc, c.state, c.step, c.timer))
                      = s.cm.table.map fun c => (c.id, c.proc, c.state, c.step, c.timer)))
    ∧ (∀ presence : Nat, r.kind = 0x06 → r.payload.length = 41 →
        presence = 65536 * (r.payload.getD 0 0).toNat + sent16 r.payload 1 →
        (s.pmc.mode = .run ∨ s.pmc.mode = .halt →
          exec .limitsLoad s = .next { s with lk := s.answered r [0x13] })
        ∧ (s.pmc.mode = .standby ∨ s.pmc.mode = .prepare → s.DoseLimitsSound →
            ∃ l listed,
              exec .limitsLoad s
                  = .next { s with pmc := { s.pmc with limits := l },
                                   lk := s.answered r (clampedReply listed) }
                ∧ (∀ fw ∈ (limitFields r.payload s.pmc.limits l.tRef).zip l.numbers,
                    fw.1.number ≠ 1 → fw.1.Taken presence listed fw.2)
                ∧ (presence.testBit 1 = true →
                    l.doseFloor = max 400 (min l.tRef (sent16 r.payload 5))
                      ∧ (1 ∈ listed ↔ l.doseFloor ≠ sent16 r.payload 5))
                ∧ (presence.testBit 1 = false →
                    l.doseFloor = min s.pmc.limits.doseFloor l.tRef
                      ∧ (1 ∈ listed ↔ l.doseFloor ≠ s.pmc.limits.doseFloor))
                ∧ listed.Pairwise (· < ·) ∧ (∀ n ∈ listed, n ≤ 17)
                ∧ 400 ≤ l.doseFloor ∧ l.doseFloor ≤ l.tRef))

/-- R4, R6, the law of the device: whatever the command, dose_floor stays within 400..t_ref and t_ref within
600..800. -/
def Obligations.DoseLimitsStaySound : Prop :=
  ∀ s t : State, s.DoseLimitsSound → step s = .next t → t.DoseLimitsSound

/-- ZONE_ON and ZONE_OFF (R12, R13, R1, R52, R97): the tests in their order; a zone put ONLINE loses its
ZONE_OFF guard, one taken out of service takes it and ends a dwell on it; record and marker stay, and no rack,
case or checkpoint is touched. -/
def Obligations.ZonesChangeService : Prop :=
  ∀ (s : State) (r : Request) (b : Byte), s.Asks r → r.payload = [b] → s.pmc.mode ≠ .starting →
    (r.kind = 0x07 ∨ r.kind = 0x08 → 4 ≤ b.toNat →
      exec (if r.kind = 0x07 then .zoneOn else .zoneOff) s
        = .next { s with lk := s.answered r [0x12] })
    ∧ ∀ z : Zone, b.toNat = z.val →
        (r.kind = 0x07 →
          ((s.pmc.zones.get z).slot = .unconfigured →
            exec .zoneOn s = .next { s with lk := s.answered r [0x17] })
          ∧ ((s.pmc.zones.get z).slot ≠ .unconfigured → (s.pmc.zones.get z).marker ≠ [] →
              exec .zoneOn s = .next { s with lk := s.answered r [0x19] })
          ∧ ((s.pmc.zones.get z).slot.isOnline = true → (s.pmc.zones.get z).marker = [] →
              exec .zoneOn s = .next { s with lk := s.answered r [0x00] })
          ∧ ∀ rec, (s.pmc.zones.get z).slot = .offline rec → (s.pmc.zones.get z).marker = [] →
              let check := profileCheck (onlineZones s.pmc.zones (some z)) s.pmc.limits s.smp.channels
              (∀ f, s.pmc.mode = .prepare ∨ s.pmc.mode = .run → check = some f →
                exec .zoneOn s
                  = .next { s with lk := s.answered r [0x15, byte f.check, zoneByte f.zone] })
              ∧ (s.pmc.mode = .standby ∨ s.pmc.mode = .halt ∨ check = none →
                  ∃ t, exec .zoneOn s = .next t ∧ t.RepliesTo s r [0x00]
                    ∧ t.pmc =
                        { s.pmc with
                          zones := s.pmc.zones.set z { slot := .online rec, marker := [] } }
                    ∧ (∀ id, t.lg.claimOf (.zoneOff z) id = none)
                    ∧ (∀ o id, o ≠ .zoneOff z → t.lg.claimOf o id = s.lg.claimOf o id)
                    ∧ t.smp = s.smp ∧ t.rt = s.rt ∧ t.du = s.du ∧ t.cm = s.cm ∧ t.ck = s.ck
                    ∧ t.SameOutside s))
        ∧ (r.kind = 0x08 →
            ((s.pmc.zones.get z).slot = .unconfigured →
              exec .zoneOff s = .next { s with lk := s.answered r [0x17] })
            ∧ (∀ rec, (s.pmc.zones.get z).slot = .offline rec →
                exec .zoneOff s = .next { s with lk := s.answered r [0x00] })
            ∧ ∀ rec, (s.pmc.zones.get z).slot = .online rec →
                ∃ t, exec .zoneOff s = .next t ∧ t.RepliesTo s r [0x00]
                  ∧ t.pmc =
                      { s.pmc with
                        zones := s.pmc.zones.set z
                          { slot := .offline rec, marker := (s.pmc.zones.get z).marker } }
                  ∧ (∀ id, t.lg.claimOf (.zoneOff z) id
                      = if id = .heatA z ∨ id = .heatB z ∨ id = .pump z ∨ id = .fill z then some .block
                        else none)
                  ∧ (∀ o id, o ≠ .zoneOff z → o ≠ .dwell → t.lg.claimOf o id = s.lg.claimOf o id)
                  ∧ (∀ timer tags, s.du = .active z timer tags →
                      t.du = .inactive ∧ ∀ id, t.lg.claimOf .dwell id = none)
                  ∧ ((∀ timer tags, s.du ≠ .active z timer tags) →
                      t.du = s.du ∧ ∀ id, t.lg.claimOf .dwell id = s.lg.claimOf .dwell id)
                  ∧ t.smp = s.smp ∧ t.rt = s.rt ∧ t.cm = s.cm ∧ t.ck = s.ck ∧ t.SameOutside s)
end

