-- ==== Sys2Proof/Laws/State.lean ====
section
/-! SUPPORT. One lemma per field per block update of State: what each setter puts and what it leaves. -/

namespace Sys2Proof.Machine

@[simp] theorem State.setPower_power (s : State) (b : Power) : (s.setPower b).power = b := rfl
@[simp] theorem State.setPower_pmc (s : State) (b : Power) : (s.setPower b).pmc = s.pmc := rfl
@[simp] theorem State.setPower_smp (s : State) (b : Power) : (s.setPower b).smp = s.smp := rfl
@[simp] theorem State.setPower_lg (s : State) (b : Power) : (s.setPower b).lg = s.lg := rfl
@[simp] theorem State.setPower_rt (s : State) (b : Power) : (s.setPower b).rt = s.rt := rfl
@[simp] theorem State.setPower_du (s : State) (b : Power) : (s.setPower b).du = s.du := rfl
@[simp] theorem State.setPower_fd (s : State) (b : Power) : (s.setPower b).fd = s.fd := rfl
@[simp] theorem State.setPower_cm (s : State) (b : Power) : (s.setPower b).cm = s.cm := rfl
@[simp] theorem State.setPower_ck (s : State) (b : Power) : (s.setPower b).ck = s.ck := rfl
@[simp] theorem State.setPower_lk (s : State) (b : Power) : (s.setPower b).lk = s.lk := rfl
@[simp] theorem State.setPower_freeIndex (s : State) (b : Power) : (s.setPower b).freeIndex = s.freeIndex := rfl
@[simp] theorem State.setPower_pending (s : State) (b : Power) : (s.setPower b).pending = s.pending := rfl

@[simp] theorem State.setPmc_power (s : State) (b : Pmc) : (s.setPmc b).power = s.power := rfl
@[simp] theorem State.setPmc_pmc (s : State) (b : Pmc) : (s.setPmc b).pmc = b := rfl
@[simp] theorem State.setPmc_smp (s : State) (b : Pmc) : (s.setPmc b).smp = s.smp := rfl
@[simp] theorem State.setPmc_lg (s : State) (b : Pmc) : (s.setPmc b).lg = s.lg := rfl
@[simp] theorem State.setPmc_rt (s : State) (b : Pmc) : (s.setPmc b).rt = s.rt := rfl
@[simp] theorem State.setPmc_du (s : State) (b : Pmc) : (s.setPmc b).du = s.du := rfl
@[simp] theorem State.setPmc_fd (s : State) (b : Pmc) : (s.setPmc b).fd = s.fd := rfl
@[simp] theorem State.setPmc_cm (s : State) (b : Pmc) : (s.setPmc b).cm = s.cm := rfl
@[simp] theorem State.setPmc_ck (s : State) (b : Pmc) : (s.setPmc b).ck = s.ck := rfl
@[simp] theorem State.setPmc_lk (s : State) (b : Pmc) : (s.setPmc b).lk = s.lk := rfl
@[simp] theorem State.setPmc_freeIndex (s : State) (b : Pmc) : (s.setPmc b).freeIndex = s.freeIndex := rfl
@[simp] theorem State.setPmc_pending (s : State) (b : Pmc) : (s.setPmc b).pending = s.pending := rfl

@[simp] theorem State.setSmp_power (s : State) (b : Smp) : (s.setSmp b).power = s.power := rfl
@[simp] theorem State.setSmp_pmc (s : State) (b : Smp) : (s.setSmp b).pmc = s.pmc := rfl
@[simp] theorem State.setSmp_smp (s : State) (b : Smp) : (s.setSmp b).smp = b := rfl
@[simp] theorem State.setSmp_lg (s : State) (b : Smp) : (s.setSmp b).lg = s.lg := rfl
@[simp] theorem State.setSmp_rt (s : State) (b : Smp) : (s.setSmp b).rt = s.rt := rfl
@[simp] theorem State.setSmp_du (s : State) (b : Smp) : (s.setSmp b).du = s.du := rfl
@[simp] theorem State.setSmp_fd (s : State) (b : Smp) : (s.setSmp b).fd = s.fd := rfl
@[simp] theorem State.setSmp_cm (s : State) (b : Smp) : (s.setSmp b).cm = s.cm := rfl
@[simp] theorem State.setSmp_ck (s : State) (b : Smp) : (s.setSmp b).ck = s.ck := rfl
@[simp] theorem State.setSmp_lk (s : State) (b : Smp) : (s.setSmp b).lk = s.lk := rfl
@[simp] theorem State.setSmp_freeIndex (s : State) (b : Smp) : (s.setSmp b).freeIndex = s.freeIndex := rfl
@[simp] theorem State.setSmp_pending (s : State) (b : Smp) : (s.setSmp b).pending = s.pending := rfl

@[simp] theorem State.setLg_power (s : State) (b : Lines) : (s.setLg b).power = s.power := rfl
@[simp] theorem State.setLg_pmc (s : State) (b : Lines) : (s.setLg b).pmc = s.pmc := rfl
@[simp] theorem State.setLg_smp (s : State) (b : Lines) : (s.setLg b).smp = s.smp := rfl
@[simp] theorem State.setLg_lg (s : State) (b : Lines) : (s.setLg b).lg = b := rfl
@[simp] theorem State.setLg_rt (s : State) (b : Lines) : (s.setLg b).rt = s.rt := rfl
@[simp] theorem State.setLg_du (s : State) (b : Lines) : (s.setLg b).du = s.du := rfl
@[simp] theorem State.setLg_fd (s : State) (b : Lines) : (s.setLg b).fd = s.fd := rfl
@[simp] theorem State.setLg_cm (s : State) (b : Lines) : (s.setLg b).cm = s.cm := rfl
@[simp] theorem State.setLg_ck (s : State) (b : Lines) : (s.setLg b).ck = s.ck := rfl
@[simp] theorem State.setLg_lk (s : State) (b : Lines) : (s.setLg b).lk = s.lk := rfl
@[simp] theorem State.setLg_freeIndex (s : State) (b : Lines) : (s.setLg b).freeIndex = s.freeIndex := rfl
@[simp] theorem State.setLg_pending (s : State) (b : Lines) : (s.setLg b).pending = s.pending := rfl

@[simp] theorem State.setRt_power (s : State) (b : Rt) : (s.setRt b).power = s.power := rfl
@[simp] theorem State.setRt_pmc (s : State) (b : Rt) : (s.setRt b).pmc = s.pmc := rfl
@[simp] theorem State.setRt_smp (s : State) (b : Rt) : (s.setRt b).smp = s.smp := rfl
@[simp] theorem State.setRt_lg (s : State) (b : Rt) : (s.setRt b).lg = s.lg := rfl
@[simp] theorem State.setRt_rt (s : State) (b : Rt) : (s.setRt b).rt = b := rfl
@[simp] theorem State.setRt_du (s : State) (b : Rt) : (s.setRt b).du = s.du := rfl
@[simp] theorem State.setRt_fd (s : State) (b : Rt) : (s.setRt b).fd = s.fd := rfl
@[simp] theorem State.setRt_cm (s : State) (b : Rt) : (s.setRt b).cm = s.cm := rfl
@[simp] theorem State.setRt_ck (s : State) (b : Rt) : (s.setRt b).ck = s.ck := rfl
@[simp] theorem State.setRt_lk (s : State) (b : Rt) : (s.setRt b).lk = s.lk := rfl
@[simp] theorem State.setRt_freeIndex (s : State) (b : Rt) : (s.setRt b).freeIndex = s.freeIndex := rfl
@[simp] theorem State.setRt_pending (s : State) (b : Rt) : (s.setRt b).pending = s.pending := rfl

@[simp] theorem State.setDu_power (s : State) (b : Dwell) : (s.setDu b).power = s.power := rfl
@[simp] theorem State.setDu_pmc (s : State) (b : Dwell) : (s.setDu b).pmc = s.pmc := rfl
@[simp] theorem State.setDu_smp (s : State) (b : Dwell) : (s.setDu b).smp = s.smp := rfl
@[simp] theorem State.setDu_lg (s : State) (b : Dwell) : (s.setDu b).lg = s.lg := rfl
@[simp] theorem State.setDu_rt (s : State) (b : Dwell) : (s.setDu b).rt = s.rt := rfl
@[simp] theorem State.setDu_du (s : State) (b : Dwell) : (s.setDu b).du = b := rfl
@[simp] theorem State.setDu_fd (s : State) (b : Dwell) : (s.setDu b).fd = s.fd := rfl
@[simp] theorem State.setDu_cm (s : State) (b : Dwell) : (s.setDu b).cm = s.cm := rfl
@[simp] theorem State.setDu_ck (s : State) (b : Dwell) : (s.setDu b).ck = s.ck := rfl
@[simp] theorem State.setDu_lk (s : State) (b : Dwell) : (s.setDu b).lk = s.lk := rfl
@[simp] theorem State.setDu_freeIndex (s : State) (b : Dwell) : (s.setDu b).freeIndex = s.freeIndex := rfl
@[simp] theorem State.setDu_pending (s : State) (b : Dwell) : (s.setDu b).pending = s.pending := rfl

@[simp] theorem State.setFd_power (s : State) (b : Fd) : (s.setFd b).power = s.power := rfl
@[simp] theorem State.setFd_pmc (s : State) (b : Fd) : (s.setFd b).pmc = s.pmc := rfl
@[simp] theorem State.setFd_smp (s : State) (b : Fd) : (s.setFd b).smp = s.smp := rfl
@[simp] theorem State.setFd_lg (s : State) (b : Fd) : (s.setFd b).lg = s.lg := rfl
@[simp] theorem State.setFd_rt (s : State) (b : Fd) : (s.setFd b).rt = s.rt := rfl
@[simp] theorem State.setFd_du (s : State) (b : Fd) : (s.setFd b).du = s.du := rfl
@[simp] theorem State.setFd_fd (s : State) (b : Fd) : (s.setFd b).fd = b := rfl
@[simp] theorem State.setFd_cm (s : State) (b : Fd) : (s.setFd b).cm = s.cm := rfl
@[simp] theorem State.setFd_ck (s : State) (b : Fd) : (s.setFd b).ck = s.ck := rfl
@[simp] theorem State.setFd_lk (s : State) (b : Fd) : (s.setFd b).lk = s.lk := rfl
@[simp] theorem State.setFd_freeIndex (s : State) (b : Fd) : (s.setFd b).freeIndex = s.freeIndex := rfl
@[simp] theorem State.setFd_pending (s : State) (b : Fd) : (s.setFd b).pending = s.pending := rfl

@[simp] theorem State.setCm_power (s : State) (b : Cm) : (s.setCm b).power = s.power := rfl
@[simp] theorem State.setCm_pmc (s : State) (b : Cm) : (s.setCm b).pmc = s.pmc := rfl
@[simp] theorem State.setCm_smp (s : State) (b : Cm) : (s.setCm b).smp = s.smp := rfl
@[simp] theorem State.setCm_lg (s : State) (b : Cm) : (s.setCm b).lg = s.lg := rfl
@[simp] theorem State.setCm_rt (s : State) (b : Cm) : (s.setCm b).rt = s.rt := rfl
@[simp] theorem State.setCm_du (s : State) (b : Cm) : (s.setCm b).du = s.du := rfl
@[simp] theorem State.setCm_fd (s : State) (b : Cm) : (s.setCm b).fd = s.fd := rfl
@[simp] theorem State.setCm_cm (s : State) (b : Cm) : (s.setCm b).cm = b := rfl
@[simp] theorem State.setCm_ck (s : State) (b : Cm) : (s.setCm b).ck = s.ck := rfl
@[simp] theorem State.setCm_lk (s : State) (b : Cm) : (s.setCm b).lk = s.lk := rfl
@[simp] theorem State.setCm_freeIndex (s : State) (b : Cm) : (s.setCm b).freeIndex = s.freeIndex := rfl
@[simp] theorem State.setCm_pending (s : State) (b : Cm) : (s.setCm b).pending = s.pending := rfl

@[simp] theorem State.setCk_power (s : State) (b : Ck) : (s.setCk b).power = s.power := rfl
@[simp] theorem State.setCk_pmc (s : State) (b : Ck) : (s.setCk b).pmc = s.pmc := rfl
@[simp] theorem State.setCk_smp (s : State) (b : Ck) : (s.setCk b).smp = s.smp := rfl
@[simp] theorem State.setCk_lg (s : State) (b : Ck) : (s.setCk b).lg = s.lg := rfl
@[simp] theorem State.setCk_rt (s : State) (b : Ck) : (s.setCk b).rt = s.rt := rfl
@[simp] theorem State.setCk_du (s : State) (b : Ck) : (s.setCk b).du = s.du := rfl
@[simp] theorem State.setCk_fd (s : State) (b : Ck) : (s.setCk b).fd = s.fd := rfl
@[simp] theorem State.setCk_cm (s : State) (b : Ck) : (s.setCk b).cm = s.cm := rfl
@[simp] theorem State.setCk_ck (s : State) (b : Ck) : (s.setCk b).ck = b := rfl
@[simp] theorem State.setCk_lk (s : State) (b : Ck) : (s.setCk b).lk = s.lk := rfl
@[simp] theorem State.setCk_freeIndex (s : State) (b : Ck) : (s.setCk b).freeIndex = s.freeIndex := rfl
@[simp] theorem State.setCk_pending (s : State) (b : Ck) : (s.setCk b).pending = s.pending := rfl

@[simp] theorem State.setLk_power (s : State) (b : Lk) : (s.setLk b).power = s.power := rfl
@[simp] theorem State.setLk_pmc (s : State) (b : Lk) : (s.setLk b).pmc = s.pmc := rfl
@[simp] theorem State.setLk_smp (s : State) (b : Lk) : (s.setLk b).smp = s.smp := rfl
@[simp] theorem State.setLk_lg (s : State) (b : Lk) : (s.setLk b).lg = s.lg := rfl
@[simp] theorem State.setLk_rt (s : State) (b : Lk) : (s.setLk b).rt = s.rt := rfl
@[simp] theorem State.setLk_du (s : State) (b : Lk) : (s.setLk b).du = s.du := rfl
@[simp] theorem State.setLk_fd (s : State) (b : Lk) : (s.setLk b).fd = s.fd := rfl
@[simp] theorem State.setLk_cm (s : State) (b : Lk) : (s.setLk b).cm = s.cm := rfl
@[simp] theorem State.setLk_ck (s : State) (b : Lk) : (s.setLk b).ck = s.ck := rfl
@[simp] theorem State.setLk_lk (s : State) (b : Lk) : (s.setLk b).lk = b := rfl
@[simp] theorem State.setLk_freeIndex (s : State) (b : Lk) : (s.setLk b).freeIndex = s.freeIndex := rfl
@[simp] theorem State.setLk_pending (s : State) (b : Lk) : (s.setLk b).pending = s.pending := rfl

end Sys2Proof.Machine
end

