-- ==== Sys2Proof/Laws/Lines.lean ====
section
/-! SUPPORT. What the operations of the Line Gate do: records by name, one owner's claims after a set
(R46, R47), the drives after sets and after a request (R45, R48). -/

namespace Sys2Proof.Machine

/-! ### Four of a kind -/

@[simp] theorem Four.get_set_same {α : Type} (v : Four α) (i : Fin 4) (a : α) :
    (v.set i a).get i = a := by
  fin_cases i <;> rfl

theorem Four.get_set {α : Type} (v : Four α) (i j : Fin 4) (a : α) :
    (v.set i a).get j = if j = i then a else v.get j := by
  fin_cases i <;> fin_cases j <;> rfl

@[simp] theorem Four.get_set_other {α : Type} (v : Four α) {i j : Fin 4} (a : α) (h : j ≠ i) :
    (v.set i a).get j = v.get j := by
  simp [Four.get_set, h]

@[simp] theorem Four.get_ofFn {α : Type} (f : Fin 4 → α) (i : Fin 4) : (Four.ofFn f).get i = f i := by
  fin_cases i <;> rfl

@[simp] theorem Four.get_fill {α : Type} (a : α) (i : Fin 4) : (Four.fill a).get i = a := by
  fin_cases i <;> rfl

/-! ### Records by name -/

@[simp] theorem Lines.get_build (f : LineId → Line) (id : LineId) : (Lines.build f).get id = f id := by
  cases id <;> simp [Lines.build, Lines.get, ZoneLines.build]

theorem Lines.get_set (ls : Lines) (a b : LineId) (l : Line) :
    (ls.set a l).get b = if b = a then l else ls.get b := by
  cases a <;> cases b <;> simp only [Lines.set, Lines.get, Four.get_set, reduceCtorEq, if_false,
    LineId.heatA.injEq, LineId.heatB.injEq, LineId.pump.injEq, LineId.fill.injEq,
    LineId.drain.injEq, if_true]
  all_goals (split <;> simp_all)

/-! ### One owner's claims -/

/-- An owner's claim in a list after a set of any owner (R46, R47). -/
theorem find_setClaim (o o' : Owner) (want : Option ClaimKind) (cs : List Claim) :
    ((setClaim o want cs).find? fun c => c.owner = o').map (·.kind)
      = if o' = o then want else (cs.find? fun c => c.owner = o').map (·.kind) := by
  have keep : ∀ (cs : List Claim), o' ≠ o →
      (cs.filter fun c => c.owner != o).find? (fun c => c.owner = o')
        = cs.find? fun c => c.owner = o' := by
    intro cs h
    induction cs with
    | nil => rfl
    | cons c cs ih => by_cases hc : c.owner = o <;> by_cases hd : c.owner = o' <;> simp_all
  have gone : ∀ (cs : List Claim), (cs.filter fun c => c.owner != o).find? (fun c => c.owner = o)
      = none := by
    intro cs; simp [List.find?_eq_none]
  have mapped : ∀ (k : ClaimKind) (cs : List Claim),
      ((cs.map fun c => if c.owner = o then { c with kind := k } else c).find?
        fun c => c.owner = o').map (·.kind)
        = if o' = o then (if cs.any (fun c => c.owner = o) then some k else none)
          else (cs.find? fun c => c.owner = o').map (·.kind) := by
    intro k cs
    induction cs with
    | nil => simp
    | cons c cs ih =>
      by_cases hc : c.owner = o <;> by_cases hd : c.owner = o' <;> simp_all
      all_goals (split <;> simp_all)
  cases want with
  | none => by_cases h : o' = o <;> simp_all [setClaim]
  | some k =>
    simp only [setClaim]
    split
    · rename_i h; rw [mapped]; simp only [h, if_true]
    · rename_i h
      have h' : ∀ c ∈ cs, c.owner ≠ o := by simpa using h
      by_cases e : o' = o
      · subst e
        have : cs.find? (fun c => c.owner = o') = none := by simpa [List.find?_eq_none] using h'
        simp [List.find?_append, this]
      · have e' : o ≠ o' := fun x => e x.symm
        simp [List.find?_append, e, e']

@[simp] theorem Lines.claimOf_claimSet (ls : Lines) (o o' : Owner) (cs : ClaimSet) (id : LineId) :
    (ls.claimSet o cs).claimOf o' id = if o' = o then cs.on id else ls.claimOf o' id := by
  simp only [Lines.claimOf, Lines.claimSet, Lines.get_build]
  exact find_setClaim o o' (cs.on id) (ls.get id).claims

theorem Lines.get_resolveChanged_claims (a b : Lines) (id : LineId) :
    ((Lines.resolveChanged a b).get id).claims = (b.get id).claims := by
  simp only [Lines.resolveChanged, Lines.get_build]; split <;> rfl

@[simp] theorem Lines.claimOf_resolveChanged (a b : Lines) (o : Owner) (id : LineId) :
    (Lines.resolveChanged a b).claimOf o id = b.claimOf o id := by
  simp [Lines.claimOf, Lines.get_resolveChanged_claims]

@[simp] theorem Lines.applySets_nil (ls : Lines) : ls.applySets [] = ls := by
  have h : ∀ id, (ls.applySets []).get id = ls.get id := by
    intro id; simp [Lines.applySets, Lines.resolveChanged]
  obtain ⟨⟨a, b, c, d⟩, e, f⟩ := ls
  simp [Lines.applySets, Lines.resolveChanged, Lines.build, ZoneLines.build, Lines.get, Four.ofFn,
    Four.get]

/-- One owner's claims after one owner's set (R47). -/
@[simp] theorem Lines.claimOf_applySets_one (ls : Lines) (o o' : Owner) (cs : ClaimSet) (id : LineId) :
    (ls.applySets [(o, cs)]).claimOf o' id = if o' = o then cs.on id else ls.claimOf o' id := by
  simp [Lines.applySets]

/-- One owner's claims after two owners' sets (R47). -/
@[simp] theorem Lines.claimOf_applySets_two (ls : Lines) (a b o : Owner) (ca cb : ClaimSet)
    (id : LineId) :
    (ls.applySets [(a, ca), (b, cb)]).claimOf o id
      = if o = b then cb.on id else if o = a then ca.on id else ls.claimOf o id := by
  simp [Lines.applySets]

/-- The kinds of an owner's claims in a list after a set of any owner: another owner's stay, and the setting
owner's are what the set asks for, where it had at most one claim before (R46, R47). -/
theorem kinds_setClaim (o o' : Owner) (want : Option ClaimKind) (cs : List Claim)
    (h : ((cs.filter fun c => c.owner = o).map (·.kind)).length ≤ 1) :
    ((setClaim o want cs).filter fun c => c.owner = o').map (·.kind)
      = if o' = o then want.toList else (cs.filter fun c => c.owner = o').map (·.kind) := by
  have keep : ∀ (cs : List Claim), o' ≠ o →
      (cs.filter fun c => c.owner != o).filter (fun c => c.owner = o')
        = cs.filter fun c => c.owner = o' := by
    intro cs hn
    rw [List.filter_filter]
    apply List.filter_congr
    intro c _
    by_cases hc : c.owner = o' <;> simp_all
  have other : ∀ (k : ClaimKind) (cs : List Claim), o' ≠ o →
      ((cs.map fun c => if c.owner = o then { c with kind := k } else c).filter
        fun c => c.owner = o') = cs.filter fun c => c.owner = o' := by
    intro k cs hn
    induction cs with
    | nil => rfl
    | cons c cs ih => by_cases hc : c.owner = o <;> by_cases hd : c.owner = o' <;> simp_all
  have own : ∀ (k : ClaimKind) (cs : List Claim),
      ((cs.map fun c => if c.owner = o then { c with kind := k } else c).filter
        fun c => c.owner = o).map (·.kind)
        = List.replicate (cs.filter fun c => c.owner = o).length k := by
    intro k cs
    induction cs with
    | nil => rfl
    | cons c cs ih => by_cases hc : c.owner = o <;> simp_all [List.replicate_succ]
  cases want with
  | none =>
    by_cases e : o' = o
    · subst e; simp [setClaim]
    · simp [setClaim, e, keep cs e]
  | some k =>
    simp only [setClaim]
    split
    · rename_i ha
      by_cases e : o' = o
      · subst e
        rw [own k cs]
        have hpos : 0 < (cs.filter fun c => c.owner = o').length := by
          rw [List.length_pos_iff_exists_mem]
          obtain ⟨c, hc, ho⟩ := List.any_eq_true.mp ha
          exact ⟨c, List.mem_filter.mpr ⟨hc, ho⟩⟩
        have : (cs.filter fun c => c.owner = o').length = 1 := by
          have := h; simp only [List.length_map] at this; omega
        simp [this]
      · rw [other k cs e]; simp [e]
    · rename_i ha
      have ha' : ∀ c ∈ cs, c.owner ≠ o := by simpa using ha
      by_cases e : o' = o
      · subst e
        have : cs.filter (fun c => c.owner = o') = [] := by simpa using ha'
        simp [List.filter_append, this]
      · have e' : ¬ o = o' := fun x => e x.symm
        simp [List.filter_append, e, e']

/-- Where every claim stands, an owner's claim on a line is the one it is to have there. -/
theorem State.ClaimsStand.claimOf {s : State} (h : s.ClaimsStand) (o : Owner) (id : LineId) :
    s.lg.claimOf o id = (s.ownerWants o).on id := by
  have hk := congrArg List.head? (h o id)
  rw [Lines.claimsOf, List.head?_map, List.head?_filter] at hk
  rw [Lines.claimOf, hk]
  cases (s.ownerWants o).on id <;> rfl

/-! ### Drives -/

theorem Lines.claimSet_get (ls : Lines) (o : Owner) (cs : ClaimSet) (id : LineId) :
    (ls.claimSet o cs).get id
      = { ls.get id with claims := setClaim o (cs.on id) (ls.get id).claims } := by
  simp [Lines.claimSet]

/-- Claim sets leave requests, request inputs and drives alone until the lines are resolved. -/
theorem Lines.foldl_claimSet_get (sets : List (Owner × ClaimSet)) (ls : Lines) (id : LineId) :
    ((sets.foldl (fun a o => a.claimSet o.1 o.2) ls).get id).request = (ls.get id).request
      ∧ ((sets.foldl (fun a o => a.claimSet o.1 o.2) ls).get id).input = (ls.get id).input
      ∧ ((sets.foldl (fun a o => a.claimSet o.1 o.2) ls).get id).drive = (ls.get id).drive := by
  induction sets generalizing ls with
  | nil => simp
  | cons a sets ih =>
    have := ih (ls.claimSet a.1 a.2)
    simp only [Lines.claimSet_get] at this
    simpa using this

@[simp] theorem Lines.applySets_request (ls : Lines) (sets : List (Owner × ClaimSet)) (id : LineId) :
    ((ls.applySets sets).get id).request = (ls.get id).request := by
  simp only [Lines.applySets, Lines.resolveChanged, Lines.get_build]
  split <;> simp [Line.resolve, Lines.foldl_claimSet_get]

@[simp] theorem Lines.applySets_input (ls : Lines) (sets : List (Owner × ClaimSet)) (id : LineId) :
    ((ls.applySets sets).get id).input = (ls.get id).input := by
  simp only [Lines.applySets, Lines.resolveChanged, Lines.get_build]
  split <;> simp [Line.resolve, Lines.foldl_claimSet_get]

/-- A line is resolved (R48). -/
def Line.Resolved (l : Line) : Prop := l.drive = resolveDrive l.claims l.request

/-- Claim sets keep every line resolved (R47, R48). -/
theorem Lines.applySets_resolved (ls : Lines) (sets : List (Owner × ClaimSet)) (id : LineId)
    (h : (ls.get id).Resolved) : ((ls.applySets sets).get id).Resolved := by
  simp only [Line.Resolved] at *
  simp only [Lines.applySets, Lines.resolveChanged, Lines.get_build]
  split
  · rename_i e
    rw [e, (Lines.foldl_claimSet_get sets ls id).2.2, (Lines.foldl_claimSet_get sets ls id).1, h]
  · rfl

/-- A request keeps every line resolved (R45, R48). -/
theorem Lines.request_resolved (ls : Lines) (a id : LineId) (on : Bool) (h : (ls.get id).Resolved) :
    ((ls.request a on).get id).Resolved := by
  simp only [Lines.request, Lines.get_set]
  split
  · rfl
  · exact h

@[simp] theorem Lines.claimOf_request (ls : Lines) (a : LineId) (on : Bool) (o : Owner) (id : LineId) :
    (ls.request a on).claimOf o id = ls.claimOf o id := by
  simp only [Lines.claimOf, Lines.request, Lines.get_set]
  split
  · rename_i h; subst h; rfl
  · rfl

/-- A line with a BLOCK claim is off, when it is resolved (R48). -/
theorem Line.Resolved.off_of_block {l : Line} (h : l.Resolved) {o : Owner}
    (hb : (l.claims.find? fun c => c.owner = o).map (·.kind) = some .block) : l.drive = false := by
  rw [Option.map_eq_some_iff] at hb
  obtain ⟨c, hc, hk⟩ := hb
  have hm := List.mem_of_find?_eq_some hc
  have : l.claims.any (fun c => c.kind = .block) = true := by
    simp only [List.any_eq_true, decide_eq_true_eq]; exact ⟨c, hm, hk⟩
  rw [h, resolveDrive, if_pos this]

end Sys2Proof.Machine
end

