-- ==== Sys2Proof/Laws/Ops.lean ====
section
/-! SUPPORT. For each shared operation of Machine/Ops.lean, and for `retryLinks` of CASE_RETRY: the blocks it
leaves as they are. -/

namespace Sys2Proof.Machine

/-! `applySets` -/

@[simp] theorem State.applySets_power (s : State) (sets : List (Owner × ClaimSet)) : (s.applySets sets).power = s.power := by
  rfl
@[simp] theorem State.applySets_pmc (s : State) (sets : List (Owner × ClaimSet)) : (s.applySets sets).pmc = s.pmc := by
  rfl
@[simp] theorem State.applySets_smp (s : State) (sets : List (Owner × ClaimSet)) : (s.applySets sets).smp = s.smp := by
  rfl
@[simp] theorem State.applySets_rt (s : State) (sets : List (Owner × ClaimSet)) : (s.applySets sets).rt = s.rt := by
  rfl
@[simp] theorem State.applySets_du (s : State) (sets : List (Owner × ClaimSet)) : (s.applySets sets).du = s.du := by
  rfl
@[simp] theorem State.applySets_cm (s : State) (sets : List (Owner × ClaimSet)) : (s.applySets sets).cm = s.cm := by
  rfl
@[simp] theorem State.applySets_ck (s : State) (sets : List (Owner × ClaimSet)) : (s.applySets sets).ck = s.ck := by
  rfl
@[simp] theorem State.applySets_lk (s : State) (sets : List (Owner × ClaimSet)) : (s.applySets sets).lk = s.lk := by
  rfl
@[simp] theorem State.applySets_freeIndex (s : State) (sets : List (Owner × ClaimSet)) : (s.applySets sets).freeIndex = s.freeIndex := by
  rfl
@[simp] theorem State.applySets_pending (s : State) (sets : List (Owner × ClaimSet)) : (s.applySets sets).pending = s.pending := by
  rfl

/-! `request` -/

@[simp] theorem State.request_power (s : State) (id : LineId) (on : Bool) : (s.request id on).power = s.power := by
  rfl
@[simp] theorem State.request_pmc (s : State) (id : LineId) (on : Bool) : (s.request id on).pmc = s.pmc := by
  rfl
@[simp] theorem State.request_smp (s : State) (id : LineId) (on : Bool) : (s.request id on).smp = s.smp := by
  rfl
@[simp] theorem State.request_rt (s : State) (id : LineId) (on : Bool) : (s.request id on).rt = s.rt := by
  rfl
@[simp] theorem State.request_du (s : State) (id : LineId) (on : Bool) : (s.request id on).du = s.du := by
  rfl
@[simp] theorem State.request_cm (s : State) (id : LineId) (on : Bool) : (s.request id on).cm = s.cm := by
  rfl
@[simp] theorem State.request_ck (s : State) (id : LineId) (on : Bool) : (s.request id on).ck = s.ck := by
  rfl
@[simp] theorem State.request_lk (s : State) (id : LineId) (on : Bool) : (s.request id on).lk = s.lk := by
  rfl
@[simp] theorem State.request_freeIndex (s : State) (id : LineId) (on : Bool) : (s.request id on).freeIndex = s.freeIndex := by
  rfl
@[simp] theorem State.request_pending (s : State) (id : LineId) (on : Bool) : (s.request id on).pending = s.pending := by
  rfl

/-! `inputOnly` -/

@[simp] theorem State.inputOnly_power (s : State) (id : LineId) (on : Bool) : (s.inputOnly id on).power = s.power := by
  rfl
@[simp] theorem State.inputOnly_pmc (s : State) (id : LineId) (on : Bool) : (s.inputOnly id on).pmc = s.pmc := by
  rfl
@[simp] theorem State.inputOnly_smp (s : State) (id : LineId) (on : Bool) : (s.inputOnly id on).smp = s.smp := by
  rfl
@[simp] theorem State.inputOnly_rt (s : State) (id : LineId) (on : Bool) : (s.inputOnly id on).rt = s.rt := by
  rfl
@[simp] theorem State.inputOnly_du (s : State) (id : LineId) (on : Bool) : (s.inputOnly id on).du = s.du := by
  rfl
@[simp] theorem State.inputOnly_fd (s : State) (id : LineId) (on : Bool) : (s.inputOnly id on).fd = s.fd := by
  rfl
@[simp] theorem State.inputOnly_cm (s : State) (id : LineId) (on : Bool) : (s.inputOnly id on).cm = s.cm := by
  rfl
@[simp] theorem State.inputOnly_ck (s : State) (id : LineId) (on : Bool) : (s.inputOnly id on).ck = s.ck := by
  rfl
@[simp] theorem State.inputOnly_lk (s : State) (id : LineId) (on : Bool) : (s.inputOnly id on).lk = s.lk := by
  rfl
@[simp] theorem State.inputOnly_freeIndex (s : State) (id : LineId) (on : Bool) : (s.inputOnly id on).freeIndex = s.freeIndex := by
  rfl
@[simp] theorem State.inputOnly_pending (s : State) (id : LineId) (on : Bool) : (s.inputOnly id on).pending = s.pending := by
  rfl

/-! `trigger` -/

@[simp] theorem State.trigger_power (s : State) : (s.trigger).power = s.power := by
  rfl
@[simp] theorem State.trigger_pmc (s : State) : (s.trigger).pmc = s.pmc := by
  rfl
@[simp] theorem State.trigger_smp (s : State) : (s.trigger).smp = s.smp := by
  rfl
@[simp] theorem State.trigger_lg (s : State) : (s.trigger).lg = s.lg := by
  rfl
@[simp] theorem State.trigger_rt (s : State) : (s.trigger).rt = s.rt := by
  rfl
@[simp] theorem State.trigger_du (s : State) : (s.trigger).du = s.du := by
  rfl
@[simp] theorem State.trigger_fd (s : State) : (s.trigger).fd = s.fd := by
  rfl
@[simp] theorem State.trigger_cm (s : State) : (s.trigger).cm = s.cm := by
  rfl
@[simp] theorem State.trigger_lk (s : State) : (s.trigger).lk = s.lk := by
  rfl
@[simp] theorem State.trigger_freeIndex (s : State) : (s.trigger).freeIndex = s.freeIndex := by
  rfl
@[simp] theorem State.trigger_pending (s : State) : (s.trigger).pending = s.pending := by
  rfl

/-! `startWrite` -/

@[simp] theorem State.startWrite_power (s : State) : (s.startWrite).power = s.power := by
  unfold State.startWrite; split <;> rfl
@[simp] theorem State.startWrite_pmc (s : State) : (s.startWrite).pmc = s.pmc := by
  unfold State.startWrite; split <;> rfl
@[simp] theorem State.startWrite_smp (s : State) : (s.startWrite).smp = s.smp := by
  unfold State.startWrite; split <;> rfl
@[simp] theorem State.startWrite_lg (s : State) : (s.startWrite).lg = s.lg := by
  unfold State.startWrite; split <;> rfl
@[simp] theorem State.startWrite_rt (s : State) : (s.startWrite).rt = s.rt := by
  unfold State.startWrite; split <;> rfl
@[simp] theorem State.startWrite_du (s : State) : (s.startWrite).du = s.du := by
  unfold State.startWrite; split <;> rfl
@[simp] theorem State.startWrite_fd (s : State) : (s.startWrite).fd = s.fd := by
  unfold State.startWrite; split <;> rfl
@[simp] theorem State.startWrite_cm (s : State) : (s.startWrite).cm = s.cm := by
  unfold State.startWrite; split <;> rfl
@[simp] theorem State.startWrite_lk (s : State) : (s.startWrite).lk = s.lk := by
  unfold State.startWrite; split <;> rfl
@[simp] theorem State.startWrite_freeIndex (s : State) : (s.startWrite).freeIndex = s.freeIndex := by
  unfold State.startWrite; split <;> rfl
@[simp] theorem State.startWrite_pending (s : State) : (s.startWrite).pending = s.pending := by
  unfold State.startWrite; split <;> rfl

/-! `commit` -/

@[simp] theorem State.commit_power (s : State) : (s.commit).power = s.power := by
  unfold State.commit; split; · split <;> simp
  · rfl
@[simp] theorem State.commit_pmc (s : State) : (s.commit).pmc = s.pmc := by
  unfold State.commit; split; · split <;> simp
  · rfl
@[simp] theorem State.commit_smp (s : State) : (s.commit).smp = s.smp := by
  unfold State.commit; split; · split <;> simp
  · rfl
@[simp] theorem State.commit_lg (s : State) : (s.commit).lg = s.lg := by
  unfold State.commit; split; · split <;> simp
  · rfl
@[simp] theorem State.commit_rt (s : State) : (s.commit).rt = s.rt := by
  unfold State.commit; split; · split <;> simp
  · rfl
@[simp] theorem State.commit_du (s : State) : (s.commit).du = s.du := by
  unfold State.commit; split; · split <;> simp
  · rfl
@[simp] theorem State.commit_fd (s : State) : (s.commit).fd = s.fd := by
  unfold State.commit; split; · split <;> simp
  · rfl
@[simp] theorem State.commit_cm (s : State) : (s.commit).cm = s.cm := by
  unfold State.commit; split; · split <;> simp
  · rfl
@[simp] theorem State.commit_lk (s : State) : (s.commit).lk = s.lk := by
  unfold State.commit; split; · split <;> simp
  · rfl
@[simp] theorem State.commit_freeIndex (s : State) : (s.commit).freeIndex = s.freeIndex := by
  unfold State.commit; split; · split <;> simp
  · rfl
@[simp] theorem State.commit_pending (s : State) : (s.commit).pending = s.pending := by
  unfold State.commit; split; · split <;> simp
  · rfl

/-! `announceMode` -/

@[simp] theorem State.announceMode_power (s : State) : (s.announceMode).power = s.power := by
  unfold State.announceMode; split <;> rfl
@[simp] theorem State.announceMode_pmc (s : State) : (s.announceMode).pmc = s.pmc := by
  unfold State.announceMode; split <;> rfl
@[simp] theorem State.announceMode_smp (s : State) : (s.announceMode).smp = s.smp := by
  unfold State.announceMode; split <;> rfl
@[simp] theorem State.announceMode_lg (s : State) : (s.announceMode).lg = s.lg := by
  unfold State.announceMode; split <;> rfl
@[simp] theorem State.announceMode_rt (s : State) : (s.announceMode).rt = s.rt := by
  unfold State.announceMode; split <;> rfl
@[simp] theorem State.announceMode_du (s : State) : (s.announceMode).du = s.du := by
  unfold State.announceMode; split <;> rfl
@[simp] theorem State.announceMode_fd (s : State) : (s.announceMode).fd = s.fd := by
  unfold State.announceMode; split <;> rfl
@[simp] theorem State.announceMode_cm (s : State) : (s.announceMode).cm = s.cm := by
  unfold State.announceMode; split <;> rfl
@[simp] theorem State.announceMode_ck (s : State) : (s.announceMode).ck = s.ck := by
  unfold State.announceMode; split <;> rfl
@[simp] theorem State.announceMode_freeIndex (s : State) : (s.announceMode).freeIndex = s.freeIndex := by
  unfold State.announceMode; split <;> rfl
@[simp] theorem State.announceMode_pending (s : State) : (s.announceMode).pending = s.pending := by
  unfold State.announceMode; split <;> rfl

/-! `announceCheckpoint` -/

@[simp] theorem State.announceCheckpoint_power (s : State) : (s.announceCheckpoint).power = s.power := by
  unfold State.announceCheckpoint; split <;> rfl
@[simp] theorem State.announceCheckpoint_pmc (s : State) : (s.announceCheckpoint).pmc = s.pmc := by
  unfold State.announceCheckpoint; split <;> rfl
@[simp] theorem State.announceCheckpoint_smp (s : State) : (s.announceCheckpoint).smp = s.smp := by
  unfold State.announceCheckpoint; split <;> rfl
@[simp] theorem State.announceCheckpoint_lg (s : State) : (s.announceCheckpoint).lg = s.lg := by
  unfold State.announceCheckpoint; split <;> rfl
@[simp] theorem State.announceCheckpoint_rt (s : State) : (s.announceCheckpoint).rt = s.rt := by
  unfold State.announceCheckpoint; split <;> rfl
@[simp] theorem State.announceCheckpoint_du (s : State) : (s.announceCheckpoint).du = s.du := by
  unfold State.announceCheckpoint; split <;> rfl
@[simp] theorem State.announceCheckpoint_fd (s : State) : (s.announceCheckpoint).fd = s.fd := by
  unfold State.announceCheckpoint; split <;> rfl
@[simp] theorem State.announceCheckpoint_cm (s : State) : (s.announceCheckpoint).cm = s.cm := by
  unfold State.announceCheckpoint; split <;> rfl
@[simp] theorem State.announceCheckpoint_ck (s : State) : (s.announceCheckpoint).ck = s.ck := by
  unfold State.announceCheckpoint; split <;> rfl
@[simp] theorem State.announceCheckpoint_freeIndex (s : State) : (s.announceCheckpoint).freeIndex = s.freeIndex := by
  unfold State.announceCheckpoint; split <;> rfl
@[simp] theorem State.announceCheckpoint_pending (s : State) : (s.announceCheckpoint).pending = s.pending := by
  unfold State.announceCheckpoint; split <;> rfl

/-! `announceRestore` -/

@[simp] theorem State.announceRestore_power (s : State) : (s.announceRestore).power = s.power := by
  unfold State.announceRestore; split <;> rfl
@[simp] theorem State.announceRestore_pmc (s : State) : (s.announceRestore).pmc = s.pmc := by
  unfold State.announceRestore; split <;> rfl
@[simp] theorem State.announceRestore_smp (s : State) : (s.announceRestore).smp = s.smp := by
  unfold State.announceRestore; split <;> rfl
@[simp] theorem State.announceRestore_lg (s : State) : (s.announceRestore).lg = s.lg := by
  unfold State.announceRestore; split <;> rfl
@[simp] theorem State.announceRestore_rt (s : State) : (s.announceRestore).rt = s.rt := by
  unfold State.announceRestore; split <;> rfl
@[simp] theorem State.announceRestore_du (s : State) : (s.announceRestore).du = s.du := by
  unfold State.announceRestore; split <;> rfl
@[simp] theorem State.announceRestore_fd (s : State) : (s.announceRestore).fd = s.fd := by
  unfold State.announceRestore; split <;> rfl
@[simp] theorem State.announceRestore_cm (s : State) : (s.announceRestore).cm = s.cm := by
  unfold State.announceRestore; split <;> rfl
@[simp] theorem State.announceRestore_ck (s : State) : (s.announceRestore).ck = s.ck := by
  unfold State.announceRestore; split <;> rfl
@[simp] theorem State.announceRestore_freeIndex (s : State) : (s.announceRestore).freeIndex = s.freeIndex := by
  unfold State.announceRestore; split <;> rfl
@[simp] theorem State.announceRestore_pending (s : State) : (s.announceRestore).pending = s.pending := by
  unfold State.announceRestore; split <;> rfl

/-! `putCase` -/

@[simp] theorem State.putCase_power (s : State) (c : Case) : (s.putCase c).power = s.power := by
  rfl
@[simp] theorem State.putCase_pmc (s : State) (c : Case) : (s.putCase c).pmc = s.pmc := by
  rfl
@[simp] theorem State.putCase_smp (s : State) (c : Case) : (s.putCase c).smp = s.smp := by
  rfl
@[simp] theorem State.putCase_lg (s : State) (c : Case) : (s.putCase c).lg = s.lg := by
  rfl
@[simp] theorem State.putCase_rt (s : State) (c : Case) : (s.putCase c).rt = s.rt := by
  rfl
@[simp] theorem State.putCase_du (s : State) (c : Case) : (s.putCase c).du = s.du := by
  rfl
@[simp] theorem State.putCase_fd (s : State) (c : Case) : (s.putCase c).fd = s.fd := by
  rfl
@[simp] theorem State.putCase_ck (s : State) (c : Case) : (s.putCase c).ck = s.ck := by
  rfl
@[simp] theorem State.putCase_lk (s : State) (c : Case) : (s.putCase c).lk = s.lk := by
  rfl
@[simp] theorem State.putCase_freeIndex (s : State) (c : Case) : (s.putCase c).freeIndex = s.freeIndex := by
  rfl
@[simp] theorem State.putCase_pending (s : State) (c : Case) : (s.putCase c).pending = s.pending := by
  rfl

/-! `serveCase` -/

@[simp] theorem State.serveCase_power (s : State) (c : Case) : (s.serveCase c).power = s.power := by
  unfold State.serveCase; simp only []; split <;> simp
@[simp] theorem State.serveCase_pmc (s : State) (c : Case) : (s.serveCase c).pmc = s.pmc := by
  unfold State.serveCase; simp only []; split <;> simp
@[simp] theorem State.serveCase_smp (s : State) (c : Case) : (s.serveCase c).smp = s.smp := by
  unfold State.serveCase; simp only []; split <;> simp
@[simp] theorem State.serveCase_lg (s : State) (c : Case) : (s.serveCase c).lg = s.lg := by
  unfold State.serveCase; simp only []; split <;> simp
@[simp] theorem State.serveCase_rt (s : State) (c : Case) : (s.serveCase c).rt = s.rt := by
  unfold State.serveCase; simp only []; split <;> simp
@[simp] theorem State.serveCase_du (s : State) (c : Case) : (s.serveCase c).du = s.du := by
  unfold State.serveCase; simp only []; split <;> simp
@[simp] theorem State.serveCase_fd (s : State) (c : Case) : (s.serveCase c).fd = s.fd := by
  unfold State.serveCase; simp only []; split <;> simp
@[simp] theorem State.serveCase_freeIndex (s : State) (c : Case) : (s.serveCase c).freeIndex = s.freeIndex := by
  unfold State.serveCase; simp only []; split <;> simp
@[simp] theorem State.serveCase_pending (s : State) (c : Case) : (s.serveCase c).pending = s.pending := by
  unfold State.serveCase; simp only []; split <;> simp

/-! `announceCase` -/

@[simp] theorem State.announceCase_power (s : State) (c : Case) : (s.announceCase c).power = s.power := by
  unfold State.announceCase; split <;> simp
@[simp] theorem State.announceCase_pmc (s : State) (c : Case) : (s.announceCase c).pmc = s.pmc := by
  unfold State.announceCase; split <;> simp
@[simp] theorem State.announceCase_smp (s : State) (c : Case) : (s.announceCase c).smp = s.smp := by
  unfold State.announceCase; split <;> simp
@[simp] theorem State.announceCase_lg (s : State) (c : Case) : (s.announceCase c).lg = s.lg := by
  unfold State.announceCase; split <;> simp
@[simp] theorem State.announceCase_rt (s : State) (c : Case) : (s.announceCase c).rt = s.rt := by
  unfold State.announceCase; split <;> simp
@[simp] theorem State.announceCase_du (s : State) (c : Case) : (s.announceCase c).du = s.du := by
  unfold State.announceCase; split <;> simp
@[simp] theorem State.announceCase_fd (s : State) (c : Case) : (s.announceCase c).fd = s.fd := by
  unfold State.announceCase; split <;> simp
@[simp] theorem State.announceCase_freeIndex (s : State) (c : Case) : (s.announceCase c).freeIndex = s.freeIndex := by
  unfold State.announceCase; split <;> simp
@[simp] theorem State.announceCase_pending (s : State) (c : Case) : (s.announceCase c).pending = s.pending := by
  unfold State.announceCase; split <;> simp

/-! `fillFreed` -/

@[simp] theorem State.fillFreed_power (s : State) : (s.fillFreed).power = s.power := by
  unfold State.fillFreed; repeat (first | rfl | simp | split)
@[simp] theorem State.fillFreed_pmc (s : State) : (s.fillFreed).pmc = s.pmc := by
  unfold State.fillFreed; repeat (first | rfl | simp | split)
@[simp] theorem State.fillFreed_smp (s : State) : (s.fillFreed).smp = s.smp := by
  unfold State.fillFreed; repeat (first | rfl | simp | split)
@[simp] theorem State.fillFreed_lg (s : State) : (s.fillFreed).lg = s.lg := by
  unfold State.fillFreed; repeat (first | rfl | simp | split)
@[simp] theorem State.fillFreed_rt (s : State) : (s.fillFreed).rt = s.rt := by
  unfold State.fillFreed; repeat (first | rfl | simp | split)
@[simp] theorem State.fillFreed_du (s : State) : (s.fillFreed).du = s.du := by
  unfold State.fillFreed; repeat (first | rfl | simp | split)
@[simp] theorem State.fillFreed_fd (s : State) : (s.fillFreed).fd = s.fd := by
  unfold State.fillFreed; repeat (first | rfl | simp | split)
@[simp] theorem State.fillFreed_freeIndex (s : State) : (s.fillFreed).freeIndex = s.freeIndex := by
  unfold State.fillFreed; repeat (first | rfl | simp | split)
@[simp] theorem State.fillFreed_pending (s : State) : (s.fillFreed).pending = s.pending := by
  unfold State.fillFreed; repeat (first | rfl | simp | split)

/-! `suspendOrResume` -/

@[simp] theorem State.suspendOrResume_power (s : State) (id : Nat) : (s.suspendOrResume id).power = s.power := by
  unfold State.suspendOrResume; repeat (first | rfl | simp | split)
@[simp] theorem State.suspendOrResume_pmc (s : State) (id : Nat) : (s.suspendOrResume id).pmc = s.pmc := by
  unfold State.suspendOrResume; repeat (first | rfl | simp | split)
@[simp] theorem State.suspendOrResume_smp (s : State) (id : Nat) : (s.suspendOrResume id).smp = s.smp := by
  unfold State.suspendOrResume; repeat (first | rfl | simp | split)
@[simp] theorem State.suspendOrResume_rt (s : State) (id : Nat) : (s.suspendOrResume id).rt = s.rt := by
  unfold State.suspendOrResume; repeat (first | rfl | simp | split)
@[simp] theorem State.suspendOrResume_du (s : State) (id : Nat) : (s.suspendOrResume id).du = s.du := by
  unfold State.suspendOrResume; repeat (first | rfl | simp | split)
@[simp] theorem State.suspendOrResume_freeIndex (s : State) (id : Nat) : (s.suspendOrResume id).freeIndex = s.freeIndex := by
  unfold State.suspendOrResume; repeat (first | rfl | simp | split)
@[simp] theorem State.suspendOrResume_pending (s : State) (id : Nat) : (s.suspendOrResume id).pending = s.pending := by
  unfold State.suspendOrResume; repeat (first | rfl | simp | split)

/-! `evaluateSuspension` -/

@[simp] theorem State.evaluateSuspension_power (s : State) : (s.evaluateSuspension).power = s.power := by
  unfold State.evaluateSuspension
  generalize s.cm.table.map (·.id) = l
  induction l generalizing s with
  | nil => rfl
  | cons a l ih => rw [List.foldl_cons, ih]; simp
@[simp] theorem State.evaluateSuspension_pmc (s : State) : (s.evaluateSuspension).pmc = s.pmc := by
  unfold State.evaluateSuspension
  generalize s.cm.table.map (·.id) = l
  induction l generalizing s with
  | nil => rfl
  | cons a l ih => rw [List.foldl_cons, ih]; simp
@[simp] theorem State.evaluateSuspension_smp (s : State) : (s.evaluateSuspension).smp = s.smp := by
  unfold State.evaluateSuspension
  generalize s.cm.table.map (·.id) = l
  induction l generalizing s with
  | nil => rfl
  | cons a l ih => rw [List.foldl_cons, ih]; simp
@[simp] theorem State.evaluateSuspension_rt (s : State) : (s.evaluateSuspension).rt = s.rt := by
  unfold State.evaluateSuspension
  generalize s.cm.table.map (·.id) = l
  induction l generalizing s with
  | nil => rfl
  | cons a l ih => rw [List.foldl_cons, ih]; simp
@[simp] theorem State.evaluateSuspension_du (s : State) : (s.evaluateSuspension).du = s.du := by
  unfold State.evaluateSuspension
  generalize s.cm.table.map (·.id) = l
  induction l generalizing s with
  | nil => rfl
  | cons a l ih => rw [List.foldl_cons, ih]; simp
@[simp] theorem State.evaluateSuspension_freeIndex (s : State) : (s.evaluateSuspension).freeIndex = s.freeIndex := by
  unfold State.evaluateSuspension
  generalize s.cm.table.map (·.id) = l
  induction l generalizing s with
  | nil => rfl
  | cons a l ih => rw [List.foldl_cons, ih]; simp
@[simp] theorem State.evaluateSuspension_pending (s : State) : (s.evaluateSuspension).pending = s.pending := by
  unfold State.evaluateSuspension
  generalize s.cm.table.map (·.id) = l
  induction l generalizing s with
  | nil => rfl
  | cons a l ih => rw [List.foldl_cons, ih]; simp

/-! `endDwell` -/

@[simp] theorem State.endDwell_power (s : State) : (s.endDwell).power = s.power := by
  rfl
@[simp] theorem State.endDwell_pmc (s : State) : (s.endDwell).pmc = s.pmc := by
  rfl
@[simp] theorem State.endDwell_smp (s : State) : (s.endDwell).smp = s.smp := by
  rfl
@[simp] theorem State.endDwell_rt (s : State) : (s.endDwell).rt = s.rt := by
  rfl
@[simp] theorem State.endDwell_cm (s : State) : (s.endDwell).cm = s.cm := by
  rfl
@[simp] theorem State.endDwell_ck (s : State) : (s.endDwell).ck = s.ck := by
  rfl
@[simp] theorem State.endDwell_lk (s : State) : (s.endDwell).lk = s.lk := by
  rfl
@[simp] theorem State.endDwell_freeIndex (s : State) : (s.endDwell).freeIndex = s.freeIndex := by
  rfl
@[simp] theorem State.endDwell_pending (s : State) : (s.endDwell).pending = s.pending := by
  rfl

/-! `dwellZoneLeaves` -/

@[simp] theorem State.dwellZoneLeaves_power (s : State) (z : Zone) : (s.dwellZoneLeaves z).power = s.power := by
  unfold State.dwellZoneLeaves; repeat (first | rfl | simp | split)
@[simp] theorem State.dwellZoneLeaves_pmc (s : State) (z : Zone) : (s.dwellZoneLeaves z).pmc = s.pmc := by
  unfold State.dwellZoneLeaves; repeat (first | rfl | simp | split)
@[simp] theorem State.dwellZoneLeaves_smp (s : State) (z : Zone) : (s.dwellZoneLeaves z).smp = s.smp := by
  unfold State.dwellZoneLeaves; repeat (first | rfl | simp | split)
@[simp] theorem State.dwellZoneLeaves_rt (s : State) (z : Zone) : (s.dwellZoneLeaves z).rt = s.rt := by
  unfold State.dwellZoneLeaves; repeat (first | rfl | simp | split)
@[simp] theorem State.dwellZoneLeaves_cm (s : State) (z : Zone) : (s.dwellZoneLeaves z).cm = s.cm := by
  unfold State.dwellZoneLeaves; repeat (first | rfl | simp | split)
@[simp] theorem State.dwellZoneLeaves_ck (s : State) (z : Zone) : (s.dwellZoneLeaves z).ck = s.ck := by
  unfold State.dwellZoneLeaves; repeat (first | rfl | simp | split)
@[simp] theorem State.dwellZoneLeaves_lk (s : State) (z : Zone) : (s.dwellZoneLeaves z).lk = s.lk := by
  unfold State.dwellZoneLeaves; repeat (first | rfl | simp | split)
@[simp] theorem State.dwellZoneLeaves_freeIndex (s : State) (z : Zone) : (s.dwellZoneLeaves z).freeIndex = s.freeIndex := by
  unfold State.dwellZoneLeaves; repeat (first | rfl | simp | split)
@[simp] theorem State.dwellZoneLeaves_pending (s : State) (z : Zone) : (s.dwellZoneLeaves z).pending = s.pending := by
  unfold State.dwellZoneLeaves; repeat (first | rfl | simp | split)

/-! `setSlot` -/

@[simp] theorem State.setSlot_power (s : State) (z : Zone) (zs : ZoneSlot) : (s.setSlot z zs).power = s.power := by
  rfl
@[simp] theorem State.setSlot_smp (s : State) (z : Zone) (zs : ZoneSlot) : (s.setSlot z zs).smp = s.smp := by
  rfl
@[simp] theorem State.setSlot_rt (s : State) (z : Zone) (zs : ZoneSlot) : (s.setSlot z zs).rt = s.rt := by
  rfl
@[simp] theorem State.setSlot_du (s : State) (z : Zone) (zs : ZoneSlot) : (s.setSlot z zs).du = s.du := by
  rfl
@[simp] theorem State.setSlot_cm (s : State) (z : Zone) (zs : ZoneSlot) : (s.setSlot z zs).cm = s.cm := by
  rfl
@[simp] theorem State.setSlot_ck (s : State) (z : Zone) (zs : ZoneSlot) : (s.setSlot z zs).ck = s.ck := by
  rfl
@[simp] theorem State.setSlot_lk (s : State) (z : Zone) (zs : ZoneSlot) : (s.setSlot z zs).lk = s.lk := by
  rfl
@[simp] theorem State.setSlot_freeIndex (s : State) (z : Zone) (zs : ZoneSlot) : (s.setSlot z zs).freeIndex = s.freeIndex := by
  rfl
@[simp] theorem State.setSlot_pending (s : State) (z : Zone) (zs : ZoneSlot) : (s.setSlot z zs).pending = s.pending := by
  rfl

/-! `takeOff` -/

@[simp] theorem State.takeOff_power (s : State) (z : Zone) : (s.takeOff z).power = s.power := by
  simp [State.takeOff]
@[simp] theorem State.takeOff_smp (s : State) (z : Zone) : (s.takeOff z).smp = s.smp := by
  simp [State.takeOff]
@[simp] theorem State.takeOff_rt (s : State) (z : Zone) : (s.takeOff z).rt = s.rt := by
  simp [State.takeOff]
@[simp] theorem State.takeOff_cm (s : State) (z : Zone) : (s.takeOff z).cm = s.cm := by
  simp [State.takeOff]
@[simp] theorem State.takeOff_ck (s : State) (z : Zone) : (s.takeOff z).ck = s.ck := by
  simp [State.takeOff]
@[simp] theorem State.takeOff_lk (s : State) (z : Zone) : (s.takeOff z).lk = s.lk := by
  simp [State.takeOff]
@[simp] theorem State.takeOff_freeIndex (s : State) (z : Zone) : (s.takeOff z).freeIndex = s.freeIndex := by
  simp [State.takeOff]
@[simp] theorem State.takeOff_pending (s : State) (z : Zone) : (s.takeOff z).pending = s.pending := by
  simp [State.takeOff]

/-! `addMarker` -/

@[simp] theorem State.addMarker_power (s : State) (id : Nat) (z : Zone) : (s.addMarker id z).power = s.power := by
  unfold State.addMarker; repeat (first | rfl | simp | split)
@[simp] theorem State.addMarker_smp (s : State) (id : Nat) (z : Zone) : (s.addMarker id z).smp = s.smp := by
  unfold State.addMarker; repeat (first | rfl | simp | split)
@[simp] theorem State.addMarker_rt (s : State) (id : Nat) (z : Zone) : (s.addMarker id z).rt = s.rt := by
  unfold State.addMarker; repeat (first | rfl | simp | split)
@[simp] theorem State.addMarker_cm (s : State) (id : Nat) (z : Zone) : (s.addMarker id z).cm = s.cm := by
  unfold State.addMarker; repeat (first | rfl | simp | split)
@[simp] theorem State.addMarker_ck (s : State) (id : Nat) (z : Zone) : (s.addMarker id z).ck = s.ck := by
  unfold State.addMarker; repeat (first | rfl | simp | split)
@[simp] theorem State.addMarker_lk (s : State) (id : Nat) (z : Zone) : (s.addMarker id z).lk = s.lk := by
  unfold State.addMarker; repeat (first | rfl | simp | split)
@[simp] theorem State.addMarker_freeIndex (s : State) (id : Nat) (z : Zone) : (s.addMarker id z).freeIndex = s.freeIndex := by
  unfold State.addMarker; repeat (first | rfl | simp | split)
@[simp] theorem State.addMarker_pending (s : State) (id : Nat) (z : Zone) : (s.addMarker id z).pending = s.pending := by
  unfold State.addMarker; repeat (first | rfl | simp | split)

/-! `addMarker` over the zones a case marks -/

@[simp] theorem State.addMarkers_power (s : State) (id : Nat) (zs : List Zone) : (zs.foldl (State.addMarker id) s).power = s.power := by
  induction zs generalizing s with
  | nil => rfl
  | cons a l ih => rw [List.foldl_cons, ih]; simp
@[simp] theorem State.addMarkers_smp (s : State) (id : Nat) (zs : List Zone) : (zs.foldl (State.addMarker id) s).smp = s.smp := by
  induction zs generalizing s with
  | nil => rfl
  | cons a l ih => rw [List.foldl_cons, ih]; simp
@[simp] theorem State.addMarkers_rt (s : State) (id : Nat) (zs : List Zone) : (zs.foldl (State.addMarker id) s).rt = s.rt := by
  induction zs generalizing s with
  | nil => rfl
  | cons a l ih => rw [List.foldl_cons, ih]; simp
@[simp] theorem State.addMarkers_cm (s : State) (id : Nat) (zs : List Zone) : (zs.foldl (State.addMarker id) s).cm = s.cm := by
  induction zs generalizing s with
  | nil => rfl
  | cons a l ih => rw [List.foldl_cons, ih]; simp
@[simp] theorem State.addMarkers_ck (s : State) (id : Nat) (zs : List Zone) : (zs.foldl (State.addMarker id) s).ck = s.ck := by
  induction zs generalizing s with
  | nil => rfl
  | cons a l ih => rw [List.foldl_cons, ih]; simp
@[simp] theorem State.addMarkers_lk (s : State) (id : Nat) (zs : List Zone) : (zs.foldl (State.addMarker id) s).lk = s.lk := by
  induction zs generalizing s with
  | nil => rfl
  | cons a l ih => rw [List.foldl_cons, ih]; simp
@[simp] theorem State.addMarkers_freeIndex (s : State) (id : Nat) (zs : List Zone) : (zs.foldl (State.addMarker id) s).freeIndex = s.freeIndex := by
  induction zs generalizing s with
  | nil => rfl
  | cons a l ih => rw [List.foldl_cons, ih]; simp
@[simp] theorem State.addMarkers_pending (s : State) (id : Nat) (zs : List Zone) : (zs.foldl (State.addMarker id) s).pending = s.pending := by
  induction zs generalizing s with
  | nil => rfl
  | cons a l ih => rw [List.foldl_cons, ih]; simp

/-! `removeMarkers` -/

@[simp] theorem State.removeMarkers_power (s : State) (id : Nat) : (s.removeMarkers id).power = s.power := by
  rfl
@[simp] theorem State.removeMarkers_smp (s : State) (id : Nat) : (s.removeMarkers id).smp = s.smp := by
  rfl
@[simp] theorem State.removeMarkers_lg (s : State) (id : Nat) : (s.removeMarkers id).lg = s.lg := by
  rfl
@[simp] theorem State.removeMarkers_rt (s : State) (id : Nat) : (s.removeMarkers id).rt = s.rt := by
  rfl
@[simp] theorem State.removeMarkers_du (s : State) (id : Nat) : (s.removeMarkers id).du = s.du := by
  rfl
@[simp] theorem State.removeMarkers_fd (s : State) (id : Nat) : (s.removeMarkers id).fd = s.fd := by
  rfl
@[simp] theorem State.removeMarkers_cm (s : State) (id : Nat) : (s.removeMarkers id).cm = s.cm := by
  rfl
@[simp] theorem State.removeMarkers_ck (s : State) (id : Nat) : (s.removeMarkers id).ck = s.ck := by
  rfl
@[simp] theorem State.removeMarkers_lk (s : State) (id : Nat) : (s.removeMarkers id).lk = s.lk := by
  rfl
@[simp] theorem State.removeMarkers_freeIndex (s : State) (id : Nat) : (s.removeMarkers id).freeIndex = s.freeIndex := by
  rfl
@[simp] theorem State.removeMarkers_pending (s : State) (id : Nat) : (s.removeMarkers id).pending = s.pending := by
  rfl

/-! `linkGainedPumps` -/

@[simp] theorem State.linkGainedPumps_power (s : State) (o : Option Case) (c : Case) : (s.linkGainedPumps o c).power = s.power := by
  simp only [State.linkGainedPumps, Four.indices, List.foldl_cons, List.foldl_nil]; repeat (first | rfl | simp | split)
@[simp] theorem State.linkGainedPumps_pmc (s : State) (o : Option Case) (c : Case) : (s.linkGainedPumps o c).pmc = s.pmc := by
  simp only [State.linkGainedPumps, Four.indices, List.foldl_cons, List.foldl_nil]; repeat (first | rfl | simp | split)
@[simp] theorem State.linkGainedPumps_smp (s : State) (o : Option Case) (c : Case) : (s.linkGainedPumps o c).smp = s.smp := by
  simp only [State.linkGainedPumps, Four.indices, List.foldl_cons, List.foldl_nil]; repeat (first | rfl | simp | split)
@[simp] theorem State.linkGainedPumps_lg (s : State) (o : Option Case) (c : Case) : (s.linkGainedPumps o c).lg = s.lg := by
  simp only [State.linkGainedPumps, Four.indices, List.foldl_cons, List.foldl_nil]; repeat (first | rfl | simp | split)
@[simp] theorem State.linkGainedPumps_du (s : State) (o : Option Case) (c : Case) : (s.linkGainedPumps o c).du = s.du := by
  simp only [State.linkGainedPumps, Four.indices, List.foldl_cons, List.foldl_nil]; repeat (first | rfl | simp | split)
@[simp] theorem State.linkGainedPumps_fd (s : State) (o : Option Case) (c : Case) : (s.linkGainedPumps o c).fd = s.fd := by
  simp only [State.linkGainedPumps, Four.indices, List.foldl_cons, List.foldl_nil]; repeat (first | rfl | simp | split)
@[simp] theorem State.linkGainedPumps_cm (s : State) (o : Option Case) (c : Case) : (s.linkGainedPumps o c).cm = s.cm := by
  simp only [State.linkGainedPumps, Four.indices, List.foldl_cons, List.foldl_nil]; repeat (first | rfl | simp | split)
@[simp] theorem State.linkGainedPumps_ck (s : State) (o : Option Case) (c : Case) : (s.linkGainedPumps o c).ck = s.ck := by
  simp only [State.linkGainedPumps, Four.indices, List.foldl_cons, List.foldl_nil]; repeat (first | rfl | simp | split)
@[simp] theorem State.linkGainedPumps_lk (s : State) (o : Option Case) (c : Case) : (s.linkGainedPumps o c).lk = s.lk := by
  simp only [State.linkGainedPumps, Four.indices, List.foldl_cons, List.foldl_nil]; repeat (first | rfl | simp | split)
@[simp] theorem State.linkGainedPumps_freeIndex (s : State) (o : Option Case) (c : Case) : (s.linkGainedPumps o c).freeIndex = s.freeIndex := by
  simp only [State.linkGainedPumps, Four.indices, List.foldl_cons, List.foldl_nil]; repeat (first | rfl | simp | split)
@[simp] theorem State.linkGainedPumps_pending (s : State) (o : Option Case) (c : Case) : (s.linkGainedPumps o c).pending = s.pending := by
  simp only [State.linkGainedPumps, Four.indices, List.foldl_cons, List.foldl_nil]; repeat (first | rfl | simp | split)

/-! `alterCase` -/

@[simp] theorem State.alterCase_power (s : State) (a b : Case) : (s.alterCase a b).power = s.power := by
  unfold State.alterCase; simp only []; repeat (first | rfl | simp | split)
@[simp] theorem State.alterCase_smp (s : State) (a b : Case) : (s.alterCase a b).smp = s.smp := by
  unfold State.alterCase; simp only []; repeat (first | rfl | simp | split)
@[simp] theorem State.alterCase_freeIndex (s : State) (a b : Case) : (s.alterCase a b).freeIndex = s.freeIndex := by
  unfold State.alterCase; simp only []; repeat (first | rfl | simp | split)
@[simp] theorem State.alterCase_pending (s : State) (a b : Case) : (s.alterCase a b).pending = s.pending := by
  unfold State.alterCase; simp only []; repeat (first | rfl | simp | split)

/-! `settleAfter` -/

@[simp] theorem State.settleAfter_power (s : State) (a b : Case) : (s.settleAfter a b).power = s.power := by
  unfold State.settleAfter; split <;> simp
@[simp] theorem State.settleAfter_pmc (s : State) (a b : Case) : (s.settleAfter a b).pmc = s.pmc := by
  unfold State.settleAfter; split <;> simp
@[simp] theorem State.settleAfter_smp (s : State) (a b : Case) : (s.settleAfter a b).smp = s.smp := by
  unfold State.settleAfter; split <;> simp
@[simp] theorem State.settleAfter_rt (s : State) (a b : Case) : (s.settleAfter a b).rt = s.rt := by
  unfold State.settleAfter; split <;> simp
@[simp] theorem State.settleAfter_du (s : State) (a b : Case) : (s.settleAfter a b).du = s.du := by
  unfold State.settleAfter; split <;> simp
@[simp] theorem State.settleAfter_freeIndex (s : State) (a b : Case) : (s.settleAfter a b).freeIndex = s.freeIndex := by
  unfold State.settleAfter; split <;> simp
@[simp] theorem State.settleAfter_pending (s : State) (a b : Case) : (s.settleAfter a b).pending = s.pending := by
  unfold State.settleAfter; split <;> simp

/-! `changeCase` -/

@[simp] theorem State.changeCase_power (s : State) (a b : Case) : (s.changeCase a b).power = s.power := by
  simp [State.changeCase]
@[simp] theorem State.changeCase_smp (s : State) (a b : Case) : (s.changeCase a b).smp = s.smp := by
  simp [State.changeCase]
@[simp] theorem State.changeCase_freeIndex (s : State) (a b : Case) : (s.changeCase a b).freeIndex = s.freeIndex := by
  simp [State.changeCase]
@[simp] theorem State.changeCase_pending (s : State) (a b : Case) : (s.changeCase a b).pending = s.pending := by
  simp [State.changeCase]

/-! `resolveCase` -/

@[simp] theorem State.resolveCase_power (s : State) (c : Case) : (s.resolveCase c).power = s.power := by
  simp [State.resolveCase]
@[simp] theorem State.resolveCase_smp (s : State) (c : Case) : (s.resolveCase c).smp = s.smp := by
  simp [State.resolveCase]
@[simp] theorem State.resolveCase_freeIndex (s : State) (c : Case) : (s.resolveCase c).freeIndex = s.freeIndex := by
  simp [State.resolveCase]
@[simp] theorem State.resolveCase_pending (s : State) (c : Case) : (s.resolveCase c).pending = s.pending := by
  simp [State.resolveCase]

/-! `enterMode` -/

@[simp] theorem State.enterMode_power (s : State) (m : Mode) (c : HaltCause) : (s.enterMode m c).power = s.power := by
  unfold State.enterMode; simp only []; simp; repeat (first | rfl | simp | split)
@[simp] theorem State.enterMode_smp (s : State) (m : Mode) (c : HaltCause) : (s.enterMode m c).smp = s.smp := by
  unfold State.enterMode; simp only []; simp; repeat (first | rfl | simp | split)
@[simp] theorem State.enterMode_rt (s : State) (m : Mode) (c : HaltCause) : (s.enterMode m c).rt = s.rt := by
  unfold State.enterMode; simp only []; simp; repeat (first | rfl | simp | split)
@[simp] theorem State.enterMode_cm (s : State) (m : Mode) (c : HaltCause) : (s.enterMode m c).cm = s.cm := by
  unfold State.enterMode; simp only []; simp; repeat (first | rfl | simp | split)
@[simp] theorem State.enterMode_freeIndex (s : State) (m : Mode) (c : HaltCause) : (s.enterMode m c).freeIndex = s.freeIndex := by
  unfold State.enterMode; simp only []; simp; repeat (first | rfl | simp | split)
@[simp] theorem State.enterMode_pending (s : State) (m : Mode) (c : HaltCause) : (s.enterMode m c).pending = s.pending := by
  unfold State.enterMode; simp only []; simp; repeat (first | rfl | simp | split)

/-! `changeMode` -/

@[simp] theorem State.changeMode_power (s : State) (m : Mode) (c : HaltCause) : (s.changeMode m c).power = s.power := by
  simp [State.changeMode]
@[simp] theorem State.changeMode_smp (s : State) (m : Mode) (c : HaltCause) : (s.changeMode m c).smp = s.smp := by
  simp [State.changeMode]
@[simp] theorem State.changeMode_rt (s : State) (m : Mode) (c : HaltCause) : (s.changeMode m c).rt = s.rt := by
  simp [State.changeMode]
@[simp] theorem State.changeMode_freeIndex (s : State) (m : Mode) (c : HaltCause) : (s.changeMode m c).freeIndex = s.freeIndex := by
  simp [State.changeMode]
@[simp] theorem State.changeMode_pending (s : State) (m : Mode) (c : HaltCause) : (s.changeMode m c).pending = s.pending := by
  simp [State.changeMode]

/-! `enterHalt` -/

@[simp] theorem State.enterHalt_power (s : State) (c : HaltCause) : (s.enterHalt c).power = s.power := by
  unfold State.enterHalt; split <;> simp
@[simp] theorem State.enterHalt_smp (s : State) (c : HaltCause) : (s.enterHalt c).smp = s.smp := by
  unfold State.enterHalt; split <;> simp
@[simp] theorem State.enterHalt_rt (s : State) (c : HaltCause) : (s.enterHalt c).rt = s.rt := by
  unfold State.enterHalt; split <;> simp
@[simp] theorem State.enterHalt_cm (s : State) (c : HaltCause) : (s.enterHalt c).cm = s.cm := by
  unfold State.enterHalt; split <;> simp
@[simp] theorem State.enterHalt_freeIndex (s : State) (c : HaltCause) : (s.enterHalt c).freeIndex = s.freeIndex := by
  unfold State.enterHalt; split <;> simp
@[simp] theorem State.enterHalt_pending (s : State) (c : HaltCause) : (s.enterHalt c).pending = s.pending := by
  unfold State.enterHalt; split <;> simp

/-! `automaticHalt` -/

@[simp] theorem State.automaticHalt_power (s : State) (c : HaltCause) : (s.automaticHalt c).power = s.power := by
  unfold State.automaticHalt; split <;> simp
@[simp] theorem State.automaticHalt_smp (s : State) (c : HaltCause) : (s.automaticHalt c).smp = s.smp := by
  unfold State.automaticHalt; split <;> simp
@[simp] theorem State.automaticHalt_rt (s : State) (c : HaltCause) : (s.automaticHalt c).rt = s.rt := by
  unfold State.automaticHalt; split <;> simp
@[simp] theorem State.automaticHalt_freeIndex (s : State) (c : HaltCause) : (s.automaticHalt c).freeIndex = s.freeIndex := by
  unfold State.automaticHalt; split <;> simp
@[simp] theorem State.automaticHalt_pending (s : State) (c : HaltCause) : (s.automaticHalt c).pending = s.pending := by
  unfold State.automaticHalt; split <;> simp

/-! `openCase` -/

@[simp] theorem State.openCase_power (s : State) (d : Detection) : (s.openCase d).power = s.power := by
  unfold State.openCase; simp only []; simp; repeat (first | rfl | simp | split)
@[simp] theorem State.openCase_smp (s : State) (d : Detection) : (s.openCase d).smp = s.smp := by
  unfold State.openCase; simp only []; simp; repeat (first | rfl | simp | split)
@[simp] theorem State.openCase_freeIndex (s : State) (d : Detection) : (s.openCase d).freeIndex = s.freeIndex := by
  unfold State.openCase; simp only []; simp; repeat (first | rfl | simp | split)
@[simp] theorem State.openCase_pending (s : State) (d : Detection) : (s.openCase d).pending = s.pending := by
  unfold State.openCase; simp only []; simp; repeat (first | rfl | simp | split)

/-! `detect` -/

@[simp] theorem State.detect_power (s : State) (d : Detection) : (s.detect d).power = s.power := by
  unfold State.detect; split; · simp [State.deliver]
  · split <;> simp
@[simp] theorem State.detect_smp (s : State) (d : Detection) : (s.detect d).smp = s.smp := by
  unfold State.detect; split; · simp [State.deliver]
  · split <;> simp
@[simp] theorem State.detect_freeIndex (s : State) (d : Detection) : (s.detect d).freeIndex = s.freeIndex := by
  unfold State.detect; split; · simp [State.deliver]
  · split <;> simp
@[simp] theorem State.detect_pending (s : State) (d : Detection) : (s.detect d).pending = s.pending := by
  unfold State.detect; split; · simp [State.deliver]
  · split <;> simp

/-! `detectEvent` -/

@[simp] theorem State.detectEvent_power (s : State) (d : Detection) : (s.detectEvent d).power = s.power := by
  simp [State.detectEvent]
@[simp] theorem State.detectEvent_smp (s : State) (d : Detection) : (s.detectEvent d).smp = s.smp := by
  simp [State.detectEvent]
@[simp] theorem State.detectEvent_freeIndex (s : State) (d : Detection) : (s.detectEvent d).freeIndex = s.freeIndex := by
  simp [State.detectEvent]
@[simp] theorem State.detectEvent_pending (s : State) (d : Detection) : (s.detectEvent d).pending = s.pending := by
  simp [State.detectEvent]

/-! `drainRacks` -/

@[simp] theorem State.drainRacks_power (s : State) : (s.drainRacks).power = s.power := by
  unfold State.drainRacks; simp only []; split <;> simp
@[simp] theorem State.drainRacks_pmc (s : State) : (s.drainRacks).pmc = s.pmc := by
  unfold State.drainRacks; simp only []; split <;> simp
@[simp] theorem State.drainRacks_smp (s : State) : (s.drainRacks).smp = s.smp := by
  unfold State.drainRacks; simp only []; split <;> simp
@[simp] theorem State.drainRacks_du (s : State) : (s.drainRacks).du = s.du := by
  unfold State.drainRacks; simp only []; split <;> simp
@[simp] theorem State.drainRacks_cm (s : State) : (s.drainRacks).cm = s.cm := by
  unfold State.drainRacks; simp only []; split <;> simp
@[simp] theorem State.drainRacks_freeIndex (s : State) : (s.drainRacks).freeIndex = s.freeIndex := by
  unfold State.drainRacks; simp only []; split <;> simp
@[simp] theorem State.drainRacks_pending (s : State) : (s.drainRacks).pending = s.pending := by
  unfold State.drainRacks; simp only []; split <;> simp

/-! `testExits` -/

@[simp] theorem State.testExits_power (s : State) : (s.testExits).power = s.power := by
  simp [State.testExits]
@[simp] theorem State.testExits_pmc (s : State) : (s.testExits).pmc = s.pmc := by
  simp [State.testExits]
@[simp] theorem State.testExits_smp (s : State) : (s.testExits).smp = s.smp := by
  simp [State.testExits]
@[simp] theorem State.testExits_du (s : State) : (s.testExits).du = s.du := by
  simp [State.testExits]
@[simp] theorem State.testExits_cm (s : State) : (s.testExits).cm = s.cm := by
  simp [State.testExits]
@[simp] theorem State.testExits_freeIndex (s : State) : (s.testExits).freeIndex = s.freeIndex := by
  simp [State.testExits]
@[simp] theorem State.testExits_pending (s : State) : (s.testExits).pending = s.pending := by
  simp [State.testExits]

/-! `flush` -/

@[simp] theorem State.flush_power (s : State) (r : FlushReason) : (s.flush r).power = s.power := by
  simp [State.flush]
@[simp] theorem State.flush_pmc (s : State) (r : FlushReason) : (s.flush r).pmc = s.pmc := by
  simp [State.flush]
@[simp] theorem State.flush_smp (s : State) (r : FlushReason) : (s.flush r).smp = s.smp := by
  simp [State.flush]
@[simp] theorem State.flush_du (s : State) (r : FlushReason) : (s.flush r).du = s.du := by
  simp [State.flush]
@[simp] theorem State.flush_cm (s : State) (r : FlushReason) : (s.flush r).cm = s.cm := by
  simp [State.flush]
@[simp] theorem State.flush_freeIndex (s : State) (r : FlushReason) : (s.flush r).freeIndex = s.freeIndex := by
  simp [State.flush]
@[simp] theorem State.flush_pending (s : State) (r : FlushReason) : (s.flush r).pending = s.pending := by
  simp [State.flush]

/-! `entryEvent` -/

@[simp] theorem State.entryEvent_power (s : State) : (s.entryEvent).power = s.power := by
  unfold State.entryEvent; simp only []; repeat (first | rfl | simp | split)
@[simp] theorem State.entryEvent_pmc (s : State) : (s.entryEvent).pmc = s.pmc := by
  unfold State.entryEvent; simp only []; repeat (first | rfl | simp | split)
@[simp] theorem State.entryEvent_smp (s : State) : (s.entryEvent).smp = s.smp := by
  unfold State.entryEvent; simp only []; repeat (first | rfl | simp | split)
@[simp] theorem State.entryEvent_lg (s : State) : (s.entryEvent).lg = s.lg := by
  unfold State.entryEvent; simp only []; repeat (first | rfl | simp | split)
@[simp] theorem State.entryEvent_du (s : State) : (s.entryEvent).du = s.du := by
  unfold State.entryEvent; simp only []; repeat (first | rfl | simp | split)
@[simp] theorem State.entryEvent_fd (s : State) : (s.entryEvent).fd = s.fd := by
  unfold State.entryEvent; simp only []; repeat (first | rfl | simp | split)
@[simp] theorem State.entryEvent_cm (s : State) : (s.entryEvent).cm = s.cm := by
  unfold State.entryEvent; simp only []; repeat (first | rfl | simp | split)
@[simp] theorem State.entryEvent_lk (s : State) : (s.entryEvent).lk = s.lk := by
  unfold State.entryEvent; simp only []; repeat (first | rfl | simp | split)
@[simp] theorem State.entryEvent_freeIndex (s : State) : (s.entryEvent).freeIndex = s.freeIndex := by
  unfold State.entryEvent; simp only []; repeat (first | rfl | simp | split)
@[simp] theorem State.entryEvent_pending (s : State) : (s.entryEvent).pending = s.pending := by
  unfold State.entryEvent; simp only []; repeat (first | rfl | simp | split)

/-! `retryLinks` of CASE_RETRY -/

@[simp] theorem State.retryLinks_power (s : State) (c : Case) : (s.retryLinks c).power = s.power := by
  unfold State.retryLinks; split <;> rfl
@[simp] theorem State.retryLinks_pmc (s : State) (c : Case) : (s.retryLinks c).pmc = s.pmc := by
  unfold State.retryLinks; split <;> rfl
@[simp] theorem State.retryLinks_smp (s : State) (c : Case) : (s.retryLinks c).smp = s.smp := by
  unfold State.retryLinks; split <;> rfl
@[simp] theorem State.retryLinks_lg (s : State) (c : Case) : (s.retryLinks c).lg = s.lg := by
  unfold State.retryLinks; split <;> rfl
@[simp] theorem State.retryLinks_du (s : State) (c : Case) : (s.retryLinks c).du = s.du := by
  unfold State.retryLinks; split <;> rfl
@[simp] theorem State.retryLinks_fd (s : State) (c : Case) : (s.retryLinks c).fd = s.fd := by
  unfold State.retryLinks; split <;> rfl
@[simp] theorem State.retryLinks_cm (s : State) (c : Case) : (s.retryLinks c).cm = s.cm := by
  unfold State.retryLinks; split <;> rfl
@[simp] theorem State.retryLinks_ck (s : State) (c : Case) : (s.retryLinks c).ck = s.ck := by
  unfold State.retryLinks; split <;> rfl
@[simp] theorem State.retryLinks_lk (s : State) (c : Case) : (s.retryLinks c).lk = s.lk := by
  unfold State.retryLinks; split <;> rfl
@[simp] theorem State.retryLinks_freeIndex (s : State) (c : Case) : (s.retryLinks c).freeIndex = s.freeIndex := by
  unfold State.retryLinks; split <;> rfl
@[simp] theorem State.retryLinks_pending (s : State) (c : Case) : (s.retryLinks c).pending = s.pending := by
  unfold State.retryLinks; split <;> rfl

end Sys2Proof.Machine
end

