-- ==== Sys2Proof/Laws/Units.lean ====
section
/-! SUPPORT. What the check on a snapshot record and the check on a character answer for those the block
itself would write or send, so that no later proof computes a check value. -/

namespace Sys2Proof.Machine

/-- A record programmed whole is valid for exactly the generations in range (R159). -/
theorem Snapshot.valid_programmed (s : Snapshot) :
    s.programmed.valid
      = if 1 ≤ s.generation ∧ s.generation ≤ lastGeneration then some s else none := by
  simp [Snapshot.programmed, SlotContents.valid]

/-- A record is valid only if it holds the check value of its snapshot (R159). -/
theorem SlotContents.valid_eq_some {c : SlotContents} {s : Snapshot} :
    c.valid = some s ↔ c = s.programmed ∧ 1 ≤ s.generation ∧ s.generation ≤ lastGeneration := by
  cases c with
  | record r check =>
    simp only [SlotContents.valid, Snapshot.programmed, SlotContents.record.injEq]
    constructor
    · intro h
      split at h
      · cases h; simp_all
      · cases h
    · rintro ⟨⟨rfl, rfl⟩, h1, h2⟩
      simp [h1, h2]
  | _ => simp [SlotContents.valid, Snapshot.programmed]

/-- A record whose check value is not that of its snapshot is not valid (R159). -/
theorem SlotContents.valid_record_of_ne {s : Snapshot} {check : BitVec 16} (h : check ≠ s.checkValue) :
    (SlotContents.record s check).valid = none := by
  simp [SlotContents.valid, h]

/-- A character that arrives as it is sent carries no error mark (R173). -/
@[simp] theorem receivedByte_sent (b : Byte) :
    receivedByte b { parity := parityBit b, stop := true } = { byte := b, errorMark := false } := by
  simp [receivedByte]

end Sys2Proof.Machine
end

