-- ==== Sys2Proof/Tests/Slice0.lean ====
section
/-! SUPPORT. The author's own tests: the operand checks, the manual's worked examples, single commands on
small states, and for every statement with hypotheses a witness that meets them. -/

namespace Sys2Proof.Machine.Tests

/-! ### Small states -/

/-- A zone record like the manual's final rinse: span 200..1800. -/
def rinse : ZoneRecord :=
  { spanStart := 200, spanEnd := 1800, tMin := 600, tMax := 900, contactRequired := 40,
    levelSetpoint := 400, levelHeaterSafe := 250, levelEmpty := 30, leakThreshold := 15,
    filterThreshold := 250, elementCurrent := 100, final := true }

/-- A calibrated channel with a VALID reading. -/
def channel (v : Nat) : Channel :=
  { calibration := some { rawLo := 400, rawHi := 3600, engLo := 0, engHi := 1200 }, reading := .valid v,
    runCount := 0 }

/-- The part in a mode after STARTING, nothing configured, no trigger standing. -/
def inMode (m : Mode) : State :=
  { State.reset with
    pmc := { State.reset.pmc with mode := m }
    lg := State.reset.lg.applySets [(.mode, modeClaims m)] }

/-- Zone 0 ONLINE as the rinse zone, with readings. -/
def online (m : Mode) : State :=
  let s := inMode m
  let q := { s with
    smp := { s.smp with
      channels := s.smp.channels.set 0
        { temp := channel 700, level := channel 400, pressure := channel 100, current := channel 0 } } }
  ((q.setSlot 0 { slot := .online rinse, marker := [] }).guardTemp 0 (.valid 700)).guardLevel 0 (.valid 400)

/-- A rack inside, admitted at travel 0. -/
def rack (tag : Nat) : Rack :=
  { tag := tag, entryStamp := some 0, exitPosition := none, mask := zoneOnly 0, contact := Four.fill 0,
    dose := 0, hold := none, dwellExpired := false, trackLost := false, exited := false,
    carried := false, flush := none, links := [], linksMore := false, outcome := none }

/-- An EXITED rack with its outcome. -/
def exitedRack (tag : Nat) : Rack :=
  { rack tag with
    exited := true, exitPosition := some 6000
    outcome := some { disposition := .rewash,
                      reasons := { contactShort := true, doseShort := true, dwellExpired := false,
                                   caseHold := false, trackLost := false, carried := false,
                                   standbyFlush := false, haltFlush := false },
                      shortZones := zoneOnly 0 } }

/-- Zone 0 ONLINE with racks in transit, travel at 1,000 mm. -/
def withRacks (m : Mode) (racks : List Rack) : State :=
  let s := online m
  { s with
    smp := { s.smp with travel := 1000 }
    rt := { s.rt with queue := racks, nextTag := 9, lastStamp := some 0,
                      admitted := BitVec.ofNat 32 racks.length } }

/-- A case record. -/
def aCase (id : Nat) (proc : Proc) (state : CaseState) (step : Step) (timer counter : Option Nat) : Case :=
  { id := id, proc := proc, state := state, step := step, timer := timer, counter := counter,
    recurrence := 0, suspended := false, announce := false, openedAt := 0 }

/-- A state with cases in the table, their claims posted. -/
def withCases (s : State) (cases : List Case) : State :=
  ({ s with cm := { s.cm with table := cases } }).applySets
    (cases.map fun c : Case => (Owner.ofCase c.id, c.posted))

/-- A checked request frame stands at the head of the inbound buffer. -/
def asking (s : State) (kind : Byte) (payload : List Byte) : State :=
  { s with lk := { s.lk with rx := { s.lk.rx with checked := [frame kind 7 payload] } } }

/-- The request of `asking`. -/
def request (kind : Byte) (payload : List Byte) : Request := { kind := kind, tag := 7, payload := payload }

/-! ### Operand checks (WellFormed) -/

/-- A round with one code everywhere. -/
def round (code : Nat) : RoundInput :=
  { codes := Four.fill (Quad.fill code), panWet := false, eyeBlocked := false, eyeFirst := false,
    order := Four.fill { detectionsFirst := 0, guardsFirst := true } }

theorem test_line_22_is_ill_formed : Instr.wellFormed (.requestInputChange 22 true) = false := by decide
theorem test_line_21_is_well_formed : Instr.wellFormed (.requestInputChange 21 true) = true := by decide
theorem test_code_4096_is_ill_formed : Instr.wellFormed (.sampleRound (round 4096)) = false := by decide
theorem test_code_4095_is_well_formed : Instr.wellFormed (.sampleRound (round 4095)) = true := by decide
theorem test_line_22_is_refused :
    exec (.requestInputChange 22 true) State.reset = .refused .noSuchInput := by rfl
theorem test_code_4096_is_refused :
    exec (.sampleRound (round 4096)) State.reset = .refused .noSuchInput := by rfl
theorem test_no_word_spells_a_command : decodeTableWord 8 1 = none := by decide

/-! ### The manual's worked examples -/

/-- Chapter 2.3, examples of conversion: the temperature channel. -/
def tempCal : Calibration := { rawLo := 400, rawHi := 3600, engLo := 0, engHi := 1200 }

/-- The same examples: the inverted level channel. -/
def levelCal : Calibration := { rawLo := 500, rawHi := 3500, engLo := 1000, engHi := 0 }

theorem test_convert_2600 : tempCal.classify 2600 = some 825 := by decide
theorem test_convert_truncates : tempCal.classify 2601 = some 825 := by decide
theorem test_lower_band : tempCal.classify 380 = some 0 ∧ tempCal.classify 355 = none := by decide
theorem test_upper_band : tempCal.classify 3640 = some 1200 ∧ tempCal.classify 3641 = none := by decide
theorem test_convert_inverted : levelCal.classify 1234 = some 756 ∧ levelCal.classify 3530 = some 0 := by
  decide

/-- Chapter 2.4, sample 8 of the failing temperature channel: UNKNOWN with the fourth invalid sample. -/
theorem test_fourth_invalid_sample :
    Channel.sample .temp { calibration := some tempCal, reading := .stale 836, runCount := 3 } 0
      = ({ calibration := some tempCal, reading := .unknown, runCount := 4 }, true) := by decide

/-- Chapter 5.3: worked dose cases at t_ref 710 and dose_floor 550. -/
theorem test_dose_823 : doseIncrement Limits.default 823 = 648 := by decide
theorem test_dose_707 : doseIncrement Limits.default 707 = 239 := by decide
theorem test_dose_629 : doseIncrement Limits.default 629 = 119 := by decide
theorem test_dose_below_floor : doseIncrement Limits.default 549 = 0 := by decide

/-- Chapter 1.3, limits clamped: t_ref 850, dose_floor 820 and min_pitch 150 are written as 800, 800 and
200 and listed as fields 0, 1 and 5. -/
def clampedLimits : List Byte :=
  [0x00, 0x00, 0x23, 0x03, 0x52, 0x03, 0x34, 0, 0, 0, 0, 0, 0, 0, 0, 0x00, 0x96] ++ List.replicate 24 0

theorem test_limits_clamped :
    (limitsLoadResult clampedLimits Limits.default).1.tRef = 800
      ∧ (limitsLoadResult clampedLimits Limits.default).1.doseFloor = 800
      ∧ (limitsLoadResult clampedLimits Limits.default).1.minPitch = 200
      ∧ (limitsLoadResult clampedLimits Limits.default).2 = [0, 1, 5] := by decide

/-- Chapter 1.4, a zone refused at ZONE_ON: check FINAL_LAST names zone 3. -/
theorem test_final_last :
    finalLast [(0, { rinse with final := false }), (2, rinse), (3, { rinse with final := false })]
      = some { check := 3, zone := some 3 } := by decide

/-- Chapter 4.3, the pitch rule: an entry event after 300 mm is ignored, after 600 mm it admits. -/
theorem test_pitch_ignores :
    ((withRacks .run []).rt.entry 300 500 ZoneSet.none).1 = (withRacks .run []).rt := by decide
theorem test_pitch_admits :
    ((withRacks .run []).rt.entry 600 500 ZoneSet.none).1.nextTag = 10 := by decide

/-- R188: the frame of a STATUS request is six bytes, and its reply kind is 0x82. -/
theorem test_status_reply :
    (match exec .status (asking (inMode .standby) 0x02 []) with
      | .next t => t.lk.reply.map fun r => (r.kind, r.tag, r.payload.length)
      | _ => none) = some (0x82, 7, 39) := by decide

/-- R188: a reply to KIND 0x90 carries KIND 0x10. -/
theorem test_unknown_kind_wraps :
    (match exec .unknownKind (asking (inMode .standby) 0x90 []) with
      | .next t => t.lk.reply
      | _ => none) = some { kind := 0x10, tag := 7, payload := [0x10] } := by decide

/-- R173: 0x61 has three ones, so its parity bit is high; a low stop bit is a framing error. -/
theorem test_character_sound : receivedByte 0x61 { parity := true, stop := true }
    = { byte := 0x61, errorMark := false } := by decide
theorem test_character_parity_error :
    (receivedByte 0x61 { parity := false, stop := true }).errorMark = true := by decide
theorem test_character_framing_error :
    (receivedByte 0x61 { parity := true, stop := false }).errorMark = true := by decide
theorem test_character_on_tx :
    characterLevels 0x61
      = [false, true, false, false, false, false, true, true, false, true, true] := by decide

/-- R44, R45: the request input of CONVEYOR, line 20, in RUN turns its drive on; in STANDBY it does not. -/
theorem test_conveyor_runs :
    (match exec (.requestInputChange 20 true) (inMode .run) with
      | .next t => t.lg.drive .conveyor
      | _ => false) = true := by decide
theorem test_conveyor_held :
    (match exec (.requestInputChange 20 true) (inMode .standby) with
      | .next t => t.lg.drive .conveyor
      | _ => true) = false := by decide

/-! ### Witnesses: states and operands that meet the hypotheses of the statements -/

theorem witness_StepTakesTheFrontCommand : State.reset.pending = [] := by decide

/-- The five bands of R30, at their ends. -/
theorem witness_CodesAreClassified :
    tempCal.rawLo < tempCal.rawHi ∧ (359 : Int) < (tempCal.rawLo : Int) - 40
      ∧ (tempCal.rawLo : Int) - 40 ≤ 360 ∧ 399 < tempCal.rawLo ∧ tempCal.rawLo ≤ 400
      ∧ 3600 ≤ tempCal.rawHi ∧ tempCal.rawHi < 3601 ∧ 3640 ≤ tempCal.rawHi + 40
      ∧ tempCal.rawHi + 40 < 3641 := by decide

theorem witness_ConvertedReadingsInRange :
    levelCal.rawLo < levelCal.rawHi ∧ levelCal.rawLo ≤ 500 ∧ 3500 ≤ levelCal.rawHi
      ∧ (0 : Int) ≤ 1200 ∧ (1200 : Int) < 1201 ∧ (-1 : Int) < 0 := by decide

theorem witness_ChannelValidity :
    (channel 700).calibration = some tempCal ∧ tempCal.classify 2600 = some 825
      ∧ tempCal.classify 0 = none ∧ (channel 700).reading = .valid 700
      ∧ (channel 700).runCount + 1 ≤ 3
      ∧ 4 ≤ { channel 700 with reading := .stale 700, runCount := 3 }.runCount + 1
      ∧ { channel 700 with reading := .unknown, runCount := 4 }.reading = .unknown
      ∧ { channel 700 with calibration := none, reading := .unknown }.calibration = none := by decide

theorem witness_RoundSamplesEveryInput :
    (round 4095).codesInRange = true ∧ (online .run).live = true ∧ (online .run).pmc.mode ≠ .starting
      ∧ State.reset.live = true ∧ State.reset.pmc.mode = .starting
      ∧ ((online .run).pmc.zones.get 0).slot.record = some rinse
      ∧ ((online .run).pmc.zones.get 1).slot = .unconfigured := by decide

/-- dose_floor at its two ends, and a temperature in each clause. -/
theorem witness_DoseIncrementRange :
    600 ≤ Limits.default.tRef ∧ Limits.default.tRef ≤ 800 ∧ 400 ≤ Limits.default.doseFloor
      ∧ Limits.default.doseFloor ≤ Limits.default.tRef ∧ 549 < Limits.default.doseFloor
      ∧ Limits.default.doseFloor ≤ 550 ∧ Limits.default.doseFloor ≤ 1200 := by decide

/-- A rack in the dwell stretch [1700, 1800) of the rinse zone, short of its dose. -/
def stretch : State :=
  let s := withRacks .run [rack 1]
  { s with smp := { s.smp with travel := 1700 } }

theorem witness_DwellEvaluation :
    stretch.du = .inactive
      ∧ candidates (stretch.pmc.zones.get 0).slot stretch.smp.travel stretch.pmc.limits stretch.rt.queue
          = [1]
      ∧ 0 < stretch.pmc.limits.dwellLimit
      ∧ candidates (stretch.pmc.zones.get 1).slot stretch.smp.travel stretch.pmc.limits stretch.rt.queue
          = []
      ∧ { stretch with du := .active 0 5000 [1] }.du = .active 0 5000 [1] ∧ (0 : Zone) ≠ 1
      ∧ { Limits.default with dwellLimit := 0 }.dwellLimit = 0 := by decide

theorem witness_DwellExpiryFlags :
    stretch.live = true ∧ stretch.du = .inactive
      ∧ { stretch with du := .active 0 0 [1] }.du = .active 0 0 [1]
      ∧ { stretch with du := .active 0 1 [1] }.du = .active 0 (0 + 1) [1]
      ∧ { stretch with du := .active 0 0 [1] }.live = true
      ∧ (∃ r ∈ stretch.rt.queue, r.exited = false ∧ r.position stretch.smp.travel = 1700
          ∧ (rinse.spanEnd : Int) - stretch.pmc.limits.dwellMargin = 1700
          ∧ r.dose < stretch.pmc.limits.doseRequired) := by decide

/-! #### Lines, claims and cases -/

/-- A property shown of the 22 lines one by one holds of every line. -/
theorem forall_lines {p : LineId → Prop} (h : ∀ id ∈ LineId.all, p id) : ∀ id, p id := by
  intro id
  apply h
  cases id
  case conveyor => decide
  case main => decide
  all_goals (rename_i z; fin_cases z <;> decide)

/-- Distinct keys in a table leave at most one case of a key. -/
theorem countP_takes_le_one (t : List Case) (h : (t.map fun c => c.proc.key).Nodup) (k : Key) :
    t.countP (Case.takes k) ≤ 1 := by
  have h1 : t.countP (Case.takes k) ≤ (t.map fun c => c.proc.key).count k := by
    rw [List.count, List.countP_map]
    apply List.countP_mono_left
    intro c _ hc
    simp [Case.takes] at hc
    simp [hc.2]
  exact h1.trans (List.nodup_iff_count_le_one.mp h k)

/-- A FILTER case in ACTING of zone 0. -/
def filterCase (id : Nat) (step : Machine.Step) : Case :=
  aCase id (.filter 0 300 0 0) .acting step (some 4000) none

/-- A HEATER_STUCK case in ISOLATING of zone 0. -/
def stuckCase (id : Nat) : Case := aCase id (.heaterStuck 0 90 0) .isolating .none none (some 0)

/-- In RUN, a FILTER case held back by a more severe HEATER_STUCK case, and a waiting command. -/
def twoCases : State :=
  { withCases (online .run) [{ filterCase 1 .purge with suspended := true }, stuckCase 2] with
    pending := [.requestInputChange 2 true] }

theorem twoCases_resolved : twoCases.DrivesResolved := by
  apply forall_lines
  decide

theorem twoCases_sound : twoCases.TableSound :=
  ⟨by decide, by decide, countP_takes_le_one _ (by decide)⟩

theorem twoCases_settled : twoCases.SuspensionSettled := by
  unfold State.SuspensionSettled
  decide

theorem twoCases_no_other_case (n : Nat) :
    ∀ id : LineId, twoCases.lg.claimsOf (.ofCase (n + 3)) id = ((twoCases.ownerWants (.ofCase (n + 3))).on id).toList := by
  intro id
  cases id
  case conveyor => rfl
  case main => rfl
  all_goals (rename_i z; fin_cases z <;> rfl)

theorem twoCases_claims : twoCases.ClaimsStand := by
  intro o
  cases o
  case ofCase n =>
    rcases n with _ | _ | _ | n
    case succ.succ.succ => exact twoCases_no_other_case n
    all_goals exact forall_lines (by decide)
  case zoneOff z => exact forall_lines (by fin_cases z <;> decide)
  case tempGuard z => exact forall_lines (by fin_cases z <;> decide)
  case levelGuard z => exact forall_lines (by fin_cases z <;> decide)
  all_goals exact forall_lines (by decide)

theorem witness_invariants_of_the_lines_and_cases :
    ∃ t, twoCases.DrivesResolved ∧ twoCases.ClaimsStand ∧ twoCases.TableSound
      ∧ twoCases.SuspensionSettled ∧ step twoCases = .next t :=
  ⟨_, twoCases_resolved, twoCases_claims, twoCases_sound, twoCases_settled, rfl⟩

/-- A suspended FILTER case in the table of a halted part. -/
def haltedCase : State := withCases (online .halt) [{ filterCase 1 .purge with suspended := true }]

theorem haltedCase_no_other_case (n : Nat) :
    ∀ id : LineId, haltedCase.lg.claimsOf (.ofCase (n + 2)) id = ((haltedCase.ownerWants (.ofCase (n + 2))).on id).toList := by
  intro id
  cases id
  case conveyor => rfl
  case main => rfl
  all_goals (rename_i z; fin_cases z <;> rfl)

theorem haltedCase_claims : haltedCase.ClaimsStand := by
  intro o
  cases o
  case ofCase n =>
    rcases n with _ | _ | n
    case succ.succ => exact haltedCase_no_other_case n
    all_goals exact forall_lines (by decide)
  case zoneOff z => exact forall_lines (by fin_cases z <;> decide)
  case tempGuard z => exact forall_lines (by fin_cases z <;> decide)
  case levelGuard z => exact forall_lines (by fin_cases z <;> decide)
  all_goals exact forall_lines (by decide)

/-- The dwell of `stretch` with its claim posted and its timer at 0. -/
def dwelling : State := (stretch.setDu (.active 0 0 [1])).applySets [(.dwell, dwellClaims (.active 0 0 [1]))]

theorem dwelling_no_case (n : Nat) :
    ∀ id : LineId, dwelling.lg.claimsOf (.ofCase n) id
      = ((dwelling.ownerWants (.ofCase n)).on id).toList := by
  intro id
  cases id
  case conveyor => rfl
  case main => rfl
  all_goals (rename_i z; fin_cases z <;> rfl)

theorem witness_DwellExpiryFlags_claims :
    dwelling.live = true ∧ dwelling.du = .active 0 0 [1] ∧ dwelling.ClaimsStand := by
  refine ⟨by decide, by decide, ?_⟩
  intro o
  cases o
  case ofCase n => exact dwelling_no_case n
  case zoneOff z => exact forall_lines (by fin_cases z <;> decide)
  case tempGuard z => exact forall_lines (by fin_cases z <;> decide)
  case levelGuard z => exact forall_lines (by fin_cases z <;> decide)
  all_goals exact forall_lines (by decide)

theorem witness_SuspendedCasesHoldNoForce :
    haltedCase.TableSound ∧ haltedCase.SuspensionSettled ∧ haltedCase.ClaimsStand
      ∧ haltedCase.pmc.mode = .halt
      ∧ (∃ c ∈ haltedCase.cm.table, c.isResolved = false ∧ c.suspended = true) := by
  refine ⟨⟨by decide, by decide, countP_takes_le_one _ (by decide)⟩, ?_, haltedCase_claims, by decide,
    by decide⟩
  unfold State.SuspensionSettled
  decide

/-- Seven kinds at rest, none of which holds another back. -/
def atRest : State :=
  withCases (online .run)
    [aCase 1 (.leak .pan ZoneSet.none ZoneSet.none noReferences) .verifying .none (some 5) none,
     aCase 2 (.filter 0 300 3 0) .manual .none none none,
     aCase 3 (.heaterOpen 0 1 true false 0) .degraded .none none none,
     aCase 4 (.heaterStuck 0 90 0) .manual .none none none,
     aCase 5 (.overtemp 0 930) .manual .none none none,
     aCase 6 (.sensor 0 .temp) .degraded .none none (some 0),
     aCase 7 .travel .degraded .none none none]

theorem atRest_no_other_case (n : Nat) :
    ∀ id : LineId, atRest.lg.claimsOf (.ofCase (n + 8)) id
      = ((atRest.ownerWants (.ofCase (n + 8))).on id).toList := by
  intro id
  cases id
  case conveyor => rfl
  case main => rfl
  all_goals (rename_i z; fin_cases z <;> rfl)

theorem atRest_claims : atRest.ClaimsStand := by
  intro o
  cases o
  case ofCase n =>
    rcases n with _ | _ | _ | _ | _ | _ | _ | _ | n
    case succ.succ.succ.succ.succ.succ.succ.succ => exact atRest_no_other_case n
    all_goals exact forall_lines (by decide)
  case zoneOff z => exact forall_lines (by fin_cases z <;> decide)
  case tempGuard z => exact forall_lines (by fin_cases z <;> decide)
  case levelGuard z => exact forall_lines (by fin_cases z <;> decide)
  all_goals exact forall_lines (by decide)

theorem witness_SuspendedCasesHoldNoForce_at_rest :
    atRest.TableSound ∧ atRest.SuspensionSettled ∧ atRest.ClaimsStand := by
  refine ⟨⟨by decide, by decide, countP_takes_le_one _ (by decide)⟩, ?_, atRest_claims⟩
  unfold State.SuspensionSettled
  decide

/-- A LEAK case in ACTING drains tank 0 and holds back three others, a HEATER_STUCK case in MANUAL not. -/
def draining : State :=
  withCases (online .run)
    [aCase 1 (.leak .pan (zoneOnly 0) ZoneSet.none noReferences) .acting .drain (some 5) none,
     { aCase 2 (.filter 1 300 0 0) .acting .refill (some 5) none with suspended := true },
     { aCase 3 (.heaterOpen 1 2 false false 0) .isolating .testB none (some 0) with suspended := true },
     { aCase 4 (.overtemp 0 930) .acting .none none (some 0) with suspended := true },
     aCase 5 (.heaterStuck 1 90 0) .manual .none none none]

theorem draining_no_other_case (n : Nat) :
    ∀ id : LineId, draining.lg.claimsOf (.ofCase (n + 6)) id
      = ((draining.ownerWants (.ofCase (n + 6))).on id).toList := by
  intro id
  cases id
  case conveyor => rfl
  case main => rfl
  all_goals (rename_i z; fin_cases z <;> rfl)

theorem draining_claims : draining.ClaimsStand := by
  intro o
  cases o
  case ofCase n =>
    rcases n with _ | _ | _ | _ | _ | _ | n
    case succ.succ.succ.succ.succ.succ => exact draining_no_other_case n
    all_goals exact forall_lines (by decide)
  case zoneOff z => exact forall_lines (by fin_cases z <;> decide)
  case tempGuard z => exact forall_lines (by fin_cases z <;> decide)
  case levelGuard z => exact forall_lines (by fin_cases z <;> decide)
  all_goals exact forall_lines (by decide)

theorem witness_SuspendedCasesHoldNoForce_held_back :
    draining.TableSound ∧ draining.SuspensionSettled ∧ draining.ClaimsStand := by
  refine ⟨⟨by decide, by decide, countP_takes_le_one _ (by decide)⟩, ?_, draining_claims⟩
  unfold State.SuspensionSettled
  decide

/-- Table 8.10: the FORCE of the LEAK case in ACTING stands, that of the suspended FILTER case does not. -/
theorem test_table_8_10 :
    draining.lg.claimOf (.ofCase 1) (.drain 0) = some .force
      ∧ draining.lg.claimOf (.ofCase 1) (.drain 1) = none
      ∧ draining.lg.claimOf (.ofCase 2) (.fill 1) = none
      ∧ draining.lg.claimOf (.ofCase 2) (.pump 1) = some .block
      ∧ draining.lg.claimOf (.ofCase 3) (.heatA 1) = some .block := by decide

theorem witness_DrivesOffInHalt :
    haltedCase.DrivesResolved ∧ haltedCase.ClaimsStand ∧ haltedCase.pmc.mode = .halt
      ∧ haltedCase.pmc.mode ≠ .run :=
  ⟨forall_lines (by decide), haltedCase_claims, by decide, by decide⟩

/-- In `twoCases` zone 1 is UNCONFIGURED and its channels UNKNOWN. -/
theorem witness_HeatersSupervised_unknown :
    twoCases.DrivesResolved ∧ twoCases.ClaimsStand
      ∧ (twoCases.smp.channels.get 1).temp.reading = .unknown
      ∧ (twoCases.smp.channels.get 1).level.reading = .unknown
      ∧ (twoCases.pmc.zones.get 1).slot.isOnline = false :=
  ⟨twoCases_resolved, twoCases_claims, by decide, by decide, by decide⟩

/-- R52, R54: the fill of tank 1 stays off under a request while its zone is not ONLINE. -/
theorem test_fill_held_off :
    (twoCases.request (.fill 1) true).lg.drive (.fill 1) = false
      ∧ (twoCases.request (.drain 1) true).lg.drive (.drain 1) = true := by decide

/-- Zone 0 ONLINE with its level one below level_heater_safe. -/
def lowLevel : State :=
  let s := online .prepare
  State.guardLevel 0 (.valid 249)
    { s with
      smp := { s.smp with
        channels := s.smp.channels.set 0
          { temp := channel 700, level := channel 249, pressure := channel 100, current := channel 0 } } }

theorem lowLevel_no_case (n : Nat) :
    ∀ id : LineId, lowLevel.lg.claimsOf (.ofCase n) id = ((lowLevel.ownerWants (.ofCase n)).on id).toList := by
  intro id
  cases id
  case conveyor => rfl
  case main => rfl
  all_goals (rename_i z; fin_cases z <;> rfl)

theorem witness_HeatersSupervised_low_level :
    lowLevel.DrivesResolved ∧ lowLevel.ClaimsStand
      ∧ (lowLevel.smp.channels.get 0).level.reading = .valid 249
      ∧ (lowLevel.pmc.zones.get 0).slot.record = some rinse ∧ 249 < rinse.levelHeaterSafe := by
  refine ⟨forall_lines (by decide), ?_, by decide, by decide, by decide⟩
  intro o
  cases o
  case ofCase n => exact lowLevel_no_case n
  case zoneOff z => exact forall_lines (by fin_cases z <;> decide)
  case tempGuard z => exact forall_lines (by fin_cases z <;> decide)
  case levelGuard z => exact forall_lines (by fin_cases z <;> decide)
  all_goals exact forall_lines (by decide)

/-- The part with its supply lost. -/
def down (s : State) : State := { s with power := { s.power with supplyGood := false, supplyLost := true } }

theorem witness_RequestInputIsRecorded :
    (inMode .run).live = true ∧ (inMode .run).lg.drive .conveyor = false
      ∧ ((inMode .run).request .conveyor true).lg.drive .conveyor = true
      ∧ (((inMode .run).request .conveyor true).request .conveyor false).lg.drive .conveyor = false
      ∧ (down (inMode .run)).live = false
      ∧ (online .run).lg.drive (.fill 0) = false
      ∧ ((online .run).request (.fill 0) true).lg.drive (.fill 0) = true := by decide

/-- `n` SENSOR cases, at most one for each of the first eight channels, in opening order. -/
def sensorCases (n : Nat) : State :=
  withCases (online .run)
    (([(0, .temp), (0, .level), (0, .pressure), (0, .current), (1, .temp), (1, .level), (1, .pressure),
      (1, .current)] : List (Zone × Quantity)).zipIdx.take n |>.map fun x =>
        aCase (x.2 + 1) (.sensor x.1.1 x.1.2) .degraded .none none (some 0))

/-- Heat on element A of zone 0 alone. -/
def oneElement : State :=
  ((online .run).request (.heatA 0) true).request .main true

/-- A detection of each kind finds no case of its key; and the two openings of HEATER_OPEN (R149). -/
theorem witness_DetectionOpensACase_kinds :
    oneElement.TableSound
      ∧ (∀ d ∈ [Detection.leakPan, .leakTank 0 415 400, .filter 0 300, .heaterOpen 0 1 20,
            .heaterStuck 0 90, .overtemp 0 900, .sensor 0 .temp, .travel],
          ∀ c ∈ oneElement.cm.table, c.takes d.key = false)
      ∧ oneElement.lg.drivenA 0 = true ∧ oneElement.lg.drivenB 0 = false
      ∧ (online .run).lg.drivenA 0 = (online .run).lg.drivenB 0 :=
  ⟨⟨by decide, by decide, countP_takes_le_one _ (by decide)⟩, by decide, by decide, by decide, by decide⟩

/-- R149, third bullet: k is 1 at the sample and no element is driven when the case opens. -/
theorem test_heater_open_drives_changed :
    ((online .run).detect (.heaterOpen 0 1 20)).cm.table.map (fun c => (c.state, c.step))
      = [(.isolating, .testA)] := by decide
theorem test_heater_open_one_driven :
    (oneElement.detect (.heaterOpen 0 1 20)).cm.table.map (fun c => (c.state, c.proc))
      = [(.degraded, .heaterOpen 0 1 true false 0)] := by decide

theorem witness_DetectionOpensACase :
    (sensorCases 7).TableSound ∧ (sensorCases 7).cm.table.length < 8
      ∧ (∀ c ∈ (sensorCases 7).cm.table, c.takes Detection.leakPan.key = false)
      ∧ (∀ c ∈ (sensorCases 7).cm.table, c.takes (Detection.filter 0 300).key = false)
      ∧ (∀ o ∈ (sensorCases 7).cm.table, o.id ≠ 8) :=
  ⟨⟨by decide, by decide, countP_takes_le_one _ (by decide)⟩, by decide, by decide, by decide, by decide⟩

/-- R135: the references and the unassessed set of a PAN opening: zone 0 has a VALID level, zone 1 (OFFLINE) an
UNKNOWN one, zones 2 and 3 are UNCONFIGURED. -/
theorem test_pan_opening :
    ((((online .run).setSlot 1 { slot := .offline rinse, marker := [] }).detect .leakPan).cm.table.map
        fun c => c.proc)
      = [.leak .pan ZoneSet.none (zoneOnly 1) { noReferences with z0 := some 400 }] := by decide

theorem witness_FullTableHalts :
    8 ≤ (sensorCases 8).cm.table.length
      ∧ (∀ c ∈ (sensorCases 8).cm.table, c.takes Detection.travel.key = false)
      ∧ (sensorCases 8).pmc.mode ≠ .halt ∧ (sensorCases 8).pmc.mode ≠ .starting
      ∧ { (sensorCases 8).pmc with mode := .halt }.mode = .halt ∧ (sensorCases 8).TableSound :=
  ⟨by decide, by decide, by decide, by decide, by decide,
    ⟨by decide, by decide, countP_takes_le_one _ (by decide)⟩⟩

theorem witness_DeliveredDetectionsCount :
    twoCases.TableSound
      ∧ (∃ c ∈ twoCases.cm.table, c.takes (Detection.filter 0 300).key = true ∧ c.state = .acting)
      ∧ (∃ c ∈ twoCases.cm.table, c.takes (Detection.heaterStuck 0 90).key = true
          ∧ c.proc.kind ≠ .leak) ∧ twoCases.ClaimsStand :=
  ⟨twoCases_sound, by decide, by decide, twoCases_claims⟩

/-- One case of each kind that counts samples, at the last sample of its count. -/
theorem witness_DeliveredDetectionsCount_samples :
    (aCase 1 (.heaterOpen 0 2 false false 120) .isolating .testA none (some 3)).counter = some 3
      ∧ ({ rinse with elementCurrent := 100 }).elementCurrent / 2 = 50 ∧ oneElement.lg.drivenA 0 = true
      ∧ (stuckCase 2).counter = some 0 ∧ (stuckCase 2).state = .isolating
      ∧ rinse.tMax = 900 ∧ 850 + 50 ≤ rinse.tMax ∧ rinse.tMax + 30 ≤ 930
      ∧ (aCase 1 (.overtemp 0 900) .acting .none none (some 2)).counter = some 2
      ∧ (aCase 1 (.sensor 0 .temp) .degraded .none none (some 7)).counter = some 7 := by decide

/-- A LEAK case in VERIFYING, its leaking set empty, and a verifying FILTER case. -/
theorem witness_DeliveredDetectionsCount_deliveries :
    ∃ s : State, ∃ c ∈ s.cm.table, s.TableSound ∧ c.takes (Detection.leakTank 0 415 400).key = true
      ∧ c.state = .verifying ∧ c.proc = .leak .pan ZoneSet.none ZoneSet.none noReferences
      ∧ ∃ c' ∈ s.cm.table, c'.takes (Detection.filter 0 300).key = true ∧ c'.state = .verifying :=
  ⟨withCases (online .run)
      [aCase 1 (.leak .pan ZoneSet.none ZoneSet.none noReferences) .verifying .none (some 0) none,
       aCase 2 (.filter 0 300 0 20) .verifying .none none (some 3)],
    _, List.mem_cons_self .., ⟨by decide, by decide, countP_takes_le_one _ (by decide)⟩, by decide,
    by decide, by decide, by decide⟩

/-- A FILTER case in MANUAL (id 3) and a LEAK case in MANUAL (id 4). -/
def manualCases : State :=
  withCases (online .prepare)
    [aCase 3 (.filter 0 300 3 0) .manual .none none none,
     aCase 4 (.leak .pan ZoneSet.none ZoneSet.none noReferences) .manual .none none none,
     stuckCase 5]

theorem manualCases_sound : manualCases.TableSound :=
  ⟨by decide, by decide, countP_takes_le_one _ (by decide)⟩

/-- A taken request of a state whose table is that of `manualCases`. -/
theorem witness_CaseClearEndsACase :
    (asking manualCases 0x0D [3]).Asks (request 0x0D [3])
      ∧ (asking manualCases 0x0D [0]).Asks (request 0x0D [0])
      ∧ (asking manualCases 0x0D [9]).Asks (request 0x0D [9])
      ∧ manualCases.TableSound ∧ manualCases.pmc.mode ≠ .starting
      ∧ (∀ c ∈ manualCases.cm.table, c.id ≠ 9)
      ∧ (∃ c ∈ manualCases.cm.table, c.id = 3 ∧ c.state = .manual)
      ∧ (∃ c ∈ manualCases.cm.table, c.id = 5 ∧ c.state ≠ .manual ∧ c.state ≠ .degraded) := by
  refine ⟨?_, ?_, ?_, manualCases_sound, by decide, by decide, by decide, by decide⟩ <;>
    exact ⟨by decide, by decide, by decide, by decide⟩

theorem witness_CaseRetryRestarts :
    (asking manualCases 0x0E [3]).Asks (request 0x0E [3])
      ∧ (asking manualCases 0x0E [4]).Asks (request 0x0E [4])
      ∧ (∃ c ∈ manualCases.cm.table, c.id = 3 ∧ c.state = .manual ∧ c.proc = .filter 0 300 3 0)
      ∧ (∃ c ∈ manualCases.cm.table, c.id = 4 ∧ c.state = .manual
          ∧ c.proc = .leak .pan ZoneSet.none ZoneSet.none noReferences)
      ∧ (∃ c ∈ manualCases.cm.table, c.id = 5 ∧ c.state ≠ .manual) := by
  refine ⟨?_, ?_, by decide, by decide, by decide⟩ <;>
    exact ⟨by decide, by decide, by decide, by decide⟩

/-- A LEAK case in some state and step, its timer at its end. -/
def leakCase (state : CaseState) (step : Machine.Step) : State :=
  withCases (online .run)
    [aCase 1 (.leak .pan ZoneSet.none ZoneSet.none { noReferences with z0 := some 415 }) state step
      (some 0) none]

/-- The level of tank 0, 400, stands exactly leak_threshold below its reference. -/
theorem witness_LocaliseExpiryJudges :
    (leakCase .isolating .none).live = true ∧ (leakCase .isolating .none).TableSound
      ∧ ∃ c ∈ (leakCase .isolating .none).cm.table,
          c.proc = .leak .pan ZoneSet.none ZoneSet.none { noReferences with z0 := some 415 }
            ∧ c.state = .isolating ∧ c.step = .none ∧ c.suspended = false ∧ c.timer = some 0 :=
  ⟨by decide, ⟨by decide, by decide, countP_takes_le_one _ (by decide)⟩, by decide⟩

theorem witness_LeakTimersExpire :
    (leakCase .acting .drain).live = true ∧ (leakCase .acting .drain).TableSound
      ∧ (leakCase .verifying .none).live = true ∧ (leakCase .verifying .none).TableSound
      ∧ (∃ c ∈ (leakCase .acting .drain).cm.table, c.suspended = false ∧ c.isResolved = false
          ∧ c.proc = .leak .pan ZoneSet.none ZoneSet.none { noReferences with z0 := some 415 }
          ∧ c.timer = some 0 ∧ c.state = .acting ∧ c.step = .drain)
      ∧ (∃ c ∈ (leakCase .verifying .none).cm.table, c.suspended = false ∧ c.isResolved = false
          ∧ c.timer = some 0 ∧ c.state = .verifying ∧ c.step = .none) :=
  ⟨by decide, ⟨by decide, by decide, countP_takes_le_one _ (by decide)⟩, by decide,
    ⟨by decide, by decide, countP_takes_le_one _ (by decide)⟩, by decide, by decide⟩

/-- A FILTER case in ACTING with its timer at its end, after some attempts. -/
def filterAt (step : Machine.Step) (attempt : Nat) : State :=
  withCases (online .run) [aCase 1 (.filter 0 300 attempt 0) .acting step (some 0) none]

theorem witness_FilterTimersExpire :
    (filterAt .purge 0).live = true ∧ (filterAt .purge 0).TableSound
      ∧ (∃ c ∈ (filterAt .purge 0).cm.table, c.proc = .filter 0 300 0 0 ∧ c.state = .acting
          ∧ c.suspended = false ∧ c.timer = some 0 ∧ c.step = .purge)
      ∧ (∃ c ∈ (filterAt .refill 1).cm.table, c.step = .refill
          ∧ 1 + 1 < (filterAt .refill 1).pmc.limits.maxAttempts)
      ∧ (∃ c ∈ (filterAt .refill 2).cm.table, c.step = .refill
          ∧ (filterAt .refill 2).pmc.limits.maxAttempts ≤ 2 + 1) :=
  ⟨by decide, ⟨by decide, by decide, countP_takes_le_one _ (by decide)⟩, by decide, by decide, by decide⟩

/-- R134: a drain timer restarted by a detection does not expire. -/
theorem test_restarted_timer_does_not_expire :
    exec .drainTimeoutExpiry
        ((leakCase .acting .drain).detectEvent (.leakTank 1 415 400))
      = .next ((leakCase .acting .drain).detectEvent (.leakTank 1 415 400)) := by rfl

/-- A HEATER_STUCK case at its seventh sample, with a FILTER case that it suspends. -/
def unisolated : State :=
  withCases (online .run)
    [{ filterCase 1 .purge with suspended := true },
     aCase 2 (.heaterStuck 0 90 0) .isolating .none none (some 7)]

theorem witness_FilterTimersExpire_samples :
    unisolated.TableSound
      ∧ (∃ c ∈ unisolated.cm.table, c.suspended = false ∧ c.isResolved = false
          ∧ (c.sample 0 rinse unisolated.lg (Quad.fill .unknown) unisolated).2 = true)
      ∧ unisolated.pmc.mode ≠ .halt ∧ unisolated.pmc.mode ≠ .starting
      ∧ (∃ c ∈ (filterAt .refill 1).cm.table, c.proc = .filter 0 300 1 0 ∧ c.state = .acting
          ∧ c.step = .refill ∧ rinse.levelSetpoint ≤ 400)
      ∧ (aCase 1 (.filter 0 300 0 20) .verifying .none none (some 19)).counter = some 19 :=
  ⟨⟨by decide, by decide, countP_takes_le_one _ (by decide)⟩, by decide, by decide, by decide, by decide,
    by decide⟩

/-- R124, R152: at the eighth, unisolated sample the suspended FILTER case is not resumed in between: its notice
is not queued, and the notices are that of the HEATER_STUCK case, that of the mode, that of the stuck case
suspended. -/
theorem test_unisolated_keeps_the_suspended :
    (unisolated.caseSample 0 rinse unisolated.lg (Quad.fill .unknown) 2).lk.events.map (fun e =>
        match e with
        | .ofCase c => (c.id, c.suspended)
        | _ => (0, false)) = [(2, false), (0, false), (2, true)] := by decide

/-- Tank 0 of a LEAK case in ACTING stands at its level_empty. -/
theorem witness_LeakTimersExpire_samples :
    (zoneOnly 0).get 0 = true ∧ (channel 30).reading = .valid 30 ∧ 30 ≤ rinse.levelEmpty
      ∧ ({ noReferences with z0 := some 415 } : Four (Option Nat)).get 0 = some 415
      ∧ ((online .run).request (.drain 0) true).lg.drive (.drain 0) = true
      ∧ (aCase 1 (.leak .pan (zoneOnly 0) ZoneSet.none noReferences) .acting .drain (some 4000) none).timer
          = some (3999 + 1)
      ∧ ({ (online .run).cm with leakWatch := some 0 }).leakWatch = some 0 := by decide

/-! #### Racks and detectors -/

/-- Twenty-three, and twenty-four, racks inside; the pitch from the last admission is 1,000 mm. -/
def crowd (n : Nat) : State := withRacks .run (List.replicate n (rack 1))

theorem witness_EntryEventAdmits :
    (crowd 23).pmc.mode = .run ∧ (crowd 23).rt.queue.length < 24 ∧ 24 ≤ (crowd 24).rt.queue.length
      ∧ (∀ stamp, (crowd 23).rt.lastStamp = some stamp →
          (crowd 23).pmc.limits.minPitch ≤ ((crowd 23).smp.travel - stamp).toNat)
      ∧ ((499 : Word32) - 0).toNat < (crowd 23).pmc.limits.minPitch
      ∧ (online .prepare).pmc.mode ≠ .run := by
  refine ⟨by decide, by decide, by decide, ?_, by decide, by decide⟩
  intro stamp h
  have : stamp = 0 := by
    have h' : (some 0 : Option Word32) = some stamp := h
    exact (Option.some.inj h').symm
  subst this
  decide

/-- An EXITED rack before one that is not, the outcome queue empty or full. -/
def mixed : State := { withRacks .run [exitedRack 1, rack 2] with pending := [.encoderPulse true false] }

/-- An OUTCOME notice. -/
def notice : OutcomeNotice :=
  { tag := 7, outcome := { disposition := .hold,
                           reasons := { contactShort := false, doseShort := false, dwellExpired := false,
                                        caseHold := true, trackLost := false, carried := false,
                                        standbyFlush := false, haltFlush := false },
                           shortZones := ZoneSet.none },
    mask := ZoneSet.none, contact := Four.fill 0, dose := 0, exitPosition := 6000, links := [],
    linksMore := false }

/-- The state after a counted pulse. -/
def runPulse (s : State) : State :=
  match exec (.encoderPulse true false) s with
  | .next t => t
  | _ => s

theorem mixed_shaped : mixed.rt.Shaped := by
  constructor
  · decide
  · decide

/-- Twenty millimetres more bring the rack inside to exit_position. -/
def atExit : State :=
  let s := withRacks .run [exitedRack 7, rack 8]
  { s with smp := { s.smp with travel := BitVec.ofNat 32 (s.pmc.limits.exitPosition - s.pmc.limits.mmPerPulse) }
           pending := [.encoderPulse true false] }

/-- The rack exits at exit_position exactly, and both leave in order (R69, R73). -/
theorem test_rack_exits_at_exit_position :
    ((atExit.smp.travel + BitVec.ofNat 32 atExit.pmc.limits.mmPerPulse).toNat
        = atExit.pmc.limits.exitPosition)
      ∧ (runPulse atExit).rt.queue = []
      ∧ (runPulse atExit).lk.outcomes.map (fun o => (o.tag, o.exitPosition))
          = [(7, 6000), (8, atExit.pmc.limits.exitPosition)] := by decide

theorem witness_PulseMovesRacks :
    mixed.live = true ∧ mixed.lk.outcomes.length ≤ 16 ∧ mixed.rt.Shaped
      ∧ (List.replicate 16 notice).length ≤ 16 :=
  ⟨by decide, by decide, mixed_shaped, by decide⟩

theorem witness_RacksStaySound : mixed.RacksSound ∧ ∃ t, step mixed = .next t := by
  refine ⟨⟨by decide, mixed_shaped, ?_, ?_⟩, _, rfl⟩
  · intro r hr
    have : r = exitedRack 1 ∨ r = rack 2 := by
      simpa [mixed, withRacks] using hr
    rcases this with rfl | rfl <;> exact ⟨by decide, by decide, by decide⟩
  · refine ⟨fun i => ?_, trivial⟩
    fin_cases i <;> trivial

/-- Tags 7 and 8 in transit, 9 to be given next. -/
theorem witness_RacksStaySound_ordered : atExit.RacksOrdered ∧ ∃ t, step atExit = .next t := by
  refine ⟨⟨⟨by decide, by decide⟩, by decide, by decide, by decide, by decide, ?_, trivial⟩, _, rfl⟩
  intro i sn check h
  fin_cases i <;> cases h

theorem witness_RacksStayCounted :
    mixed.Quiet ∧ mixed.lk.SendsHeld ∧ mixed.RacksCounted ∧ ∃ t, step mixed = .next t := by
  refine ⟨⟨by decide, by decide⟩, ⟨by decide, by decide, by decide, by decide⟩, ?_, _, rfl⟩
  unfold State.RacksCounted
  decide

theorem witness_LinksAndHolds :
    (exitedRack 1).exited = true ∧ (rack 1).exited = false
      ∧ 5 ∈ { rack 1 with links := [5] }.links ∧ { rack 1 with links := [1, 2, 3] }.links.length < 4
      ∧ 5 ∉ { rack 1 with links := [1, 2, 3, 4] }.links
      ∧ 4 ≤ { rack 1 with links := [1, 2, 3, 4] }.links.length
      ∧ { rack 1 with linksMore := true }.linksMore = true
      ∧ (rack 1).inZone (.online rinse) 199 = false ∧ (rack 1).inZone (.online rinse) 200 = true
      ∧ (rack 1).inZone (.online rinse) 1799 = true ∧ (rack 1).inZone (.online rinse) 1800 = false := by
  decide

theorem witness_HaltClearFlushes :
    (asking (withRacks .halt [rack 1]) 0x0F []).Asks (request 0x0F [])
      ∧ (withRacks .halt [rack 1]).pmc.mode = .halt
      ∧ (asking (withRacks .run [rack 1]) 0x0F []).Asks (request 0x0F [])
      ∧ (withRacks .run [rack 1]).pmc.mode ≠ .halt ∧ (withRacks .run [rack 1]).pmc.mode ≠ .starting := by
  refine ⟨?_, by decide, ?_, by decide, by decide⟩ <;>
    exact ⟨by decide, by decide, by decide, by decide⟩

/-- Detector counts one short of every trip. -/
def nearTrip : Tank :=
  { level := some { reference := 415, window := 30000 }, filterCount := 7, openCount := 2, stuckCount := 2,
    overtempCount := 1 }

theorem witness_DetectorCounts :
    nearTrip.filterCount ≤ 7 ∧ nearTrip.openCount ≤ 2 ∧ nearTrip.stuckCount ≤ 2
      ∧ nearTrip.overtempCount ≤ 1
      ∧ ((inMode .run).request (.pump 0) true).lg.drive (.pump 0) = false
      ∧ ((online .run).request (.pump 0) true).lg.drive (.pump 0) = true
      ∧ rinse.filterThreshold ≤ 250 ∧ 49 < (2 * 1 - 1) * rinse.elementCurrent / 2
      ∧ rinse.elementCurrent / 2 ≤ 50 ∧ rinse.tMax ≤ 900 := by decide

theorem witness_LevelDeclineDetector :
    nearTrip.level = some { reference := 415, window := 30000 } ∧ rinse.leakThreshold + 400 ≤ 415
      ∧ 415 < rinse.leakThreshold + 401 ∧ { nearTrip with level := none }.level = none
      ∧ (online .run).lg.drive (.fill 0) = false ∧ (online .run).lg.drive (.drain 0) = false
      ∧ ((online .run).request (.drain 0) true).lg.drive (.drain 0) = true := by decide

/-- Zone 0 ONLINE in RUN with its level decline detector armed. -/
def armed : State :=
  let s := online .run
  { s with fd := { s.fd with
      tanks := s.fd.tanks.set 0 { nearTrip with level := some { reference := 415, window := 0 } } } }

theorem witness_LeakWindowTakesReference :
    armed.live = true ∧ armed.pmc.mode ≠ .starting ∧ (armed.fd.tanks.get 1).level = none
      ∧ (armed.fd.tanks.get 0).level = some { reference := 415, window := 0 }
      ∧ nearTrip.level = some { reference := 415, window := 30000 }
      ∧ (armed.smp.channels.get 0).level.reading = .valid 400 := by decide

/-- The conveyor runs and the silence timer has run out; with or without a TRAVEL case. -/
def silent (cases : List Case) : State :=
  let s := withCases ((online .run).request .conveyor true) cases
  { s with fd := { s.fd with silence := some 0 } }

theorem witness_EncoderSilenceDetects :
    (silent []).live = true ∧ (silent []).pmc.mode ≠ .starting ∧ (silent []).TableSound
      ∧ (silent []).ck.trigger = false ∧ (silent []).fd.silence = some 0
      ∧ (silent []).cm.table.length < 8 ∧ (online .run).fd.silence = none
      ∧ (silent [aCase 1 .travel .degraded .none none none]).TableSound
      ∧ (∃ c ∈ (silent [aCase 1 .travel .degraded .none none none]).cm.table,
          c.proc = .travel ∧ c.isResolved = false) :=
  ⟨by decide, by decide, ⟨by decide, by decide, countP_takes_le_one _ (by decide)⟩, by decide, by decide,
    by decide, by decide, ⟨by decide, by decide, countP_takes_le_one _ (by decide)⟩, by decide⟩

/-- The silent conveyor with its TRAVEL case. -/
def travelCase : State := silent [aCase 1 .travel .degraded .none none none]

theorem travelCase_no_other_case (n : Nat) :
    ∀ id : LineId, travelCase.lg.claimsOf (.ofCase (n + 2)) id
      = ((travelCase.ownerWants (.ofCase (n + 2))).on id).toList := by
  intro id
  cases id
  case conveyor => rfl
  case main => rfl
  all_goals (rename_i z; fin_cases z <;> rfl)

theorem travelCase_claims : travelCase.ClaimsStand := by
  intro o
  cases o
  case ofCase n =>
    rcases n with _ | _ | n
    case succ.succ => exact travelCase_no_other_case n
    all_goals exact forall_lines (by decide)
  case zoneOff z => exact forall_lines (by fin_cases z <;> decide)
  case tempGuard z => exact forall_lines (by fin_cases z <;> decide)
  case levelGuard z => exact forall_lines (by fin_cases z <;> decide)
  all_goals exact forall_lines (by decide)

theorem witness_EncoderSilenceDetects_delivered :
    travelCase.live = true ∧ travelCase.TableSound ∧ travelCase.ClaimsStand
      ∧ travelCase.fd.silence = some 0 ∧ travelCase.ck.trigger = false :=
  ⟨by decide, ⟨by decide, by decide, countP_takes_le_one _ (by decide)⟩, travelCase_claims, by decide,
    by decide⟩

/-- A counted pulse with the conveyor driven and a TRAVEL case in the table. -/
theorem witness_PulseMovesRacks_travel :
    travelCase.rt.Shaped ∧ travelCase.DrivesResolved ∧ travelCase.lg.drive .conveyor = true
      ∧ (∃ c ∈ travelCase.cm.table, c.proc = .travel ∧ c.isResolved = false)
      ∧ travelCase.lk.outcomes.length < 16 :=
  ⟨⟨by decide, by decide⟩, forall_lines (by decide), by decide, by decide, by decide⟩

/-- R113: with the pulse taken first the expiry behind it makes no detection. -/
theorem test_pulse_before_expiry :
    (match exec (.encoderPulse true false) (silent []) with
      | .next t => (match exec .encoderSilenceExpiry t with
        | .next u => decide (u = t)
        | _ => false)
      | _ => false) = true := by decide

/-! #### Checkpoints, resets and the link -/

/-- A snapshot of a generation with no racks and no cases. -/
def snap (generation : Nat) : Snapshot :=
  { generation := generation, nextTag := 4, nextCaseId := 2, mode := .run, onlineMask := zoneOnly 0,
    racks := [], cases := [] }

theorem snap_valid {n : Nat} (h1 : 1 ≤ n) (h2 : n ≤ lastGeneration) :
    (snap n).programmed.valid = some (snap n) := by
  rw [Snapshot.valid_programmed]; exact if_pos ⟨h1, h2⟩

/-- A write in some stage into slot 2, whose contents are given, slot 3 GOOD. -/
def writing (stage : WriteStage) (generation : Nat) (contents : SlotContents) : State :=
  let s := online .run
  { s with
    ck := { s.ck with write := .busy stage (snap generation) 2, slots := s.ck.slots.set 2 contents,
                      nextGeneration := generation + 1 } }

theorem witness_WriteStagesFollow :
    (writing .erasing 7 .blank).live = true
      ∧ (writing .erasing 7 .blank).ck.write = .busy .erasing (snap 7) 2
      ∧ (writing .programming 7 .blank).ck.write = .busy .programming (snap 7) 2
      ∧ (online .run).ck.write = .idle := by decide

/-- A slot read back valid, one whose check value is spoilt, the last generation, and the only GOOD slot. -/
theorem witness_VerifyCompletes :
    (writing .verifying 7 (snap 7).programmed).live = true
      ∧ (writing .verifying 7 (snap 7).programmed).ck.write = .busy .verifying (snap 7) 2
      ∧ ((writing .verifying 7 (snap 7).programmed).ck.slots.get 2).valid = some (snap 7)
      ∧ ((writing .verifying 7 (.record (snap 7) ((snap 7).checkValue + 1))).ck.slots.get 2).valid = none
      ∧ (snap 4294967294).generation = 4294967294
      ∧ (writing .verifying 7 .blank).ck.bad.get (2 + 1) = false
      ∧ (∀ i : Fin 4, i ≠ 2 → ({ z0 := true, z1 := true, z2 := false, z3 := true } : ZoneSet).get i
          = true)
      ∧ (writing .verifying 7 .blank).ck.pending = false
      ∧ { (writing .verifying 7 .blank).ck with pending := true }.pending = true := by
  refine ⟨by decide, rfl, snap_valid (by decide) (by decide), ?_, rfl, by decide, by decide, rfl, rfl⟩
  exact SlotContents.valid_record_of_ne (by generalize (snap 7).checkValue = x; simp)

/-- An EXITED record and one inside. -/
theorem witness_VerifyCompletes_positions :
    (exitedRack 7).exitPosition = some 6000 ∧ (rack 8).exitPosition = none
      ∧ (rack 8).entryStamp = some 0 ∧ (rack 8).position 1000 = 1000 := by decide

/-- After slot 2, slot 3 being BAD, comes slot 0; and with no slot before, slot 0. -/
theorem witness_VerifyCompletes_target :
    NextGood (some 2) (zoneOnly 3) 0 ∧ NextGood none ZoneSet.none 0 :=
  ⟨⟨by decide, 1, by decide, by decide, by decide⟩, ⟨by decide, 0, by decide, by decide, by decide⟩⟩

/-- The slots at 1,203 to 1,206 of chapter 9.5, with the write of 1,207 waiting to be read back. -/
def fourSlots : State :=
  let s := writing .verifying 1207 (snap 1207).programmed
  { s with
    ck := { s.ck with slots := { z0 := (snap 1205).programmed, z1 := (snap 1206).programmed,
                                 z2 := (snap 1207).programmed, z3 := (snap 1204).programmed } }
    pending := [.verifyComplete] }

theorem fourSlots_below : fourSlots.GenerationsSound := by
  intro _
  refine ⟨?_, Nat.lt_succ_self 1207⟩
  intro i sn h
  fin_cases i <;>
    (obtain rfl := Option.some.inj ((snap_valid (by decide) (by decide)).symm.trans h)
     decide)

theorem fourSlots_choice : restoreChoice fourSlots.ck.slots = some (2, snap 1207) := by
  have h : ∀ n, 1204 ≤ n → n ≤ 1207 → (snap n).programmed.valid = some (snap n) :=
    fun n h1 h2 => snap_valid (by omega) (le_trans h2 (by decide))
  have g : ∀ n, (snap n).generation = n := fun _ => rfl
  simp [restoreChoice, Four.indices, fourSlots, Four.get, h, g]

theorem witness_GenerationsStaySound :
    fourSlots.Quiet ∧ fourSlots.lk.SendsHeld ∧ fourSlots.GenerationsSound
      ∧ ∃ t, step fourSlots = .next t :=
  ⟨⟨by decide, by decide⟩, ⟨by decide, by decide, by decide, by decide⟩, fourSlots_below, _, rfl⟩

/-- Chapter 9.5: of 1,205, 1,206, 1,207 and 1,204 slot 2 is chosen; and of a blank store none. -/
theorem witness_RestoreChoosesNewest :
    restoreChoice fourSlots.ck.slots = some (2, snap 1207)
      ∧ restoreChoice State.reset.ck.slots = none := ⟨fourSlots_choice, by decide⟩

/-- R44, R185: DRV and ATTN of a powered part, a notice queued. -/
theorem test_pins_follow :
    ((inMode .run).request .conveyor true).drvPin .conveyor = true ∧ (inMode .run).attnPin = false
      ∧ { inMode .run with
          lk := { (inMode .run).lk with events := [.mode .run .none] } }.attnPin = true := by decide

theorem witness_PartGoesDown :
    (online .run).power.supplyGood = true ∧ (online .run).power.resetLow = false ∧
    fourSlots.ck.write = .busy .verifying (snap 1207) 2 ∧ (online .run).ck.write = .idle
      ∧ (writing .erasing 7 .blank).ck.write = .busy .erasing (snap 7) 2
      ∧ WriteStage.erasing ≠ .verifying := by decide

/-- Each reset, from a part that is down or has a restart due. -/
theorem witness_ResetsLeaveTheResetState :
    (down (online .run)).power.resetLow = false ∧ (online .run).power.supplyGood = true
      ∧ (online .run).powered = true
      ∧ { (online .run).lk with restart := .due }.restart = .due := by decide

theorem witness_ResetsWaitForBoth :
    { (online .run).power with resetLow := true }.resetLow = true
      ∧ (down (online .run)).power.supplyGood = false ∧ (online .run).lk.restart ≠ .due := by decide

/-- STARTING with a blank store, and with a snapshot to carry over. -/
def startingWith (slots : Four SlotContents) : State :=
  { State.reset with ck := { State.reset.ck with slots := slots } }

theorem witness_StartingEnds :
    (startingWith fourSlots.ck.slots).live = true
      ∧ (startingWith fourSlots.ck.slots).pmc.mode = .starting
      ∧ (startingWith fourSlots.ck.slots).Quiet ∧ (startingWith fourSlots.ck.slots).lk.events = []
      ∧ restoreChoice (startingWith fourSlots.ck.slots).ck.slots = some (2, snap 1207)
      ∧ State.reset.Quiet ∧ restoreChoice State.reset.ck.slots = none
      ∧ (snap 4294967294).generation = 4294967294 :=
  ⟨by decide, by decide, ⟨by decide, by decide⟩, by decide, fourSlots_choice, ⟨by decide, by decide⟩,
    by decide, by decide⟩

/-- The longest frame, into an empty buffer. -/
theorem witness_FramesAreReceived :
    (List.replicate 248 (0 : Byte)).length ≤ 248 ∧ State.reset.lk.rx.assembly = []
      ∧ State.reset.lk.rx.overflow = false
      ∧ State.reset.lk.rx.count + (List.replicate 248 (0 : Byte)).length + 6 ≤ 256 := by
  simp only [List.length_replicate]
  decide

/-- A frame in assembly. -/
def assembling (bytes : List RxByte) : State :=
  let s := online .run
  { s with lk := { s.lk with rx := { s.lk.rx with assembly := bytes } } }

/-- An unmarked byte. -/
def clean (b : Byte) : RxByte := { byte := b, errorMark := false }

/-- The buffer holds 256 bytes of frames. -/
def fullBuffer : State :=
  let s := online .run
  { s with lk := { s.lk with rx := { s.lk.rx with checked := List.replicate 16 (List.replicate 16 0) } } }

theorem witness_CharactersAreTaken_mark :
    ((List.range 8).countP (fun i => (0x61 : Byte).getLsbD i)
        + ({ parity := true, stop := true } : CharacterEnd).parity.toNat) % 2 = 0 := by decide

theorem witness_CharactersAreTaken :
    (online .run).live = true ∧ (online .run).lk.linkErrors ≤ 65535
      ∧ (online .run).lk.rx.inBreak = false ∧ (online .run).lk.rx.assembly = []
      ∧ (online .run).lk.rx.overflow = false ∧ (online .run).lk.rx.count < 256
      ∧ (assembling [clean 0xC3]).lk.rx.assembly = [clean 0xC3] ∧ (clean 0xC3).isSync = true
      ∧ (1 : Byte).toNat < 2 ∧ 250 < (251 : Byte).toNat
      ∧ (assembling [clean 0xC3, clean 3, clean 2, clean 1, clean 0, clean 0]).lk.rx.assembly
          = clean 0xC3 :: clean 3 :: [clean 2, clean 1, clean 0, clean 0]
      ∧ [clean 2, clean 1, clean 0, clean 0].length + 3 = (3 : Byte).toNat + 4
      ∧ (∀ x ∈ clean 3 :: [clean 2, clean 1, clean 0, clean 0], x.isSync = false)
      ∧ (∃ x ∈ clean 3 :: [{ byte := 2, errorMark := true }, clean 1, clean 0, clean 0], x.errorMark = true)
      ∧ { (assembling [clean 0xC3]).lk.rx with overflow := true }.overflow = true
      ∧ { (online .run).lk.rx with inBreak := true }.inBreak = true := by decide

/-- LEN joins its frame, and the last byte of an IDENT request agrees, or not, with the check value. -/
theorem witness_CharactersAreTaken_ends :
    ([] ++ [clean 5]).head? = some (clean 5) ∧ 2 ≤ (5 : Byte).toNat ∧ (5 : Byte).toNat ≤ 250
      ∧ ([] : List RxByte).length + 2 < (5 : Byte).toNat + 4
      ∧ frame 0x01 7 [] = [0xC3, 2, 0x01, 7] ++ be16 (crc16 [2, 0x01, 7]).toNat
      ∧ [clean 0x01, clean 7, clean 0].length + 3 = (2 : Byte).toNat + 4
      ∧ (∀ x ∈ [clean 2, clean 0x01, clean 7, clean 0], x.errorMark = false ∧ x.isSync = false) :=
  ⟨by decide, by decide, by decide, by decide, rfl, by decide, by decide⟩

theorem witness_CharactersAreTaken_full :
    256 ≤ fullBuffer.lk.rx.count ∧ fullBuffer.lk.rx.inBreak = false := by
  refine ⟨?_, rfl⟩
  decide

theorem witness_GapsAndBreaks :
    (assembling [clean 0xC3]).live = true ∧ (assembling [clean 0xC3]).lk.rx.inBreak = false
      ∧ (assembling [clean 0xC3]).lk.rx.gap = 0 ∧ ({ (online .run).lk.rx with gap := 50 }).gap ≠ 0
      ∧ { (online .run).lk.rx with inBreak := true }.inBreak = true
      ∧ (online .run).lk.linkErrors ≤ 65535 ∧ (online .run).lk.rx.assembly = []
      ∧ (assembling [clean 0xC3, clean 5, clean 1]).lk.rx.assembly = clean 0xC3 :: [clean 5, clean 1]
      ∧ (assembling [clean 0xC3, clean 5, clean 1]).lk.rx.gap = 0
      ∧ [clean 5, clean 1].head? = some (clean 5) ∧ 2 ≤ (5 : Byte).toNat
      ∧ [clean 5, clean 1].length + 1 < (5 : Byte).toNat + 4
      ∧ (∀ x ∈ [clean 5, clean 1], x.isSync = false) := by decide

/-- R177, R178: a discard for a gap is not counted. -/
theorem test_gap_is_not_counted :
    (assembling [clean 0xC3, clean 5, clean 1]).lk.rx.gapOver.2 = 0
      ∧ (assembling [clean 0xC3, clean 5, clean 1]).lk.rx.gapOver.1.assembly = [] := by decide

/-- R175: with 65 bytes left RDY stays low, with 64 it goes high. -/
theorem test_rdy_rises_at_64 :
    let rx (n : Nat) : Rx :=
      { checked := [[0xC3, 2, 1, 7, 0, 0], List.replicate n 0], assembly := [], overflow := false, gap := 0,
        rdy := false, inBreak := false }
    (rx 65).dropHead.rdy = false ∧ (rx 64).dropHead.rdy = true := by decide

/-- Something in every outgoing place. -/
def talking : State :=
  let s := online .run
  { s with
    lk := { s.lk with reply := some { kind := 0x82, tag := 7, payload := [0] },
                      events := [.mode .run .none], outcomes := List.replicate 16 notice,
                      traces := [{ zone := 0, readings := Quad.fill .unknown }] } }

theorem witness_TransmitterObeysHold :
    talking.live = true ∧ talking.lk.hold = false ∧ talking.lk.tx = .idle
      ∧ talking.lk.reply = some { kind := 0x82, tag := 7, payload := [0] }
      ∧ talking.lk.events = [.mode .run .none] ∧ talking.lk.outcomes = notice :: List.replicate 15 notice
      ∧ (online .run).lk.reply = none ∧ (online .run).lk.events = [] ∧ (online .run).lk.outcomes = []
      ∧ (online .run).lk.traces = [] := by decide

theorem witness_SentFramesLeave :
    talking.live = true ∧ talking.ck.trigger = false ∧ talking.QueuesBounded ∧ mixed.rt.Shaped
      ∧ { talking.lk with tx := .sending .outcome [0xC3] }.tx = .sending .outcome [0xC3]
      ∧ (∀ src, talking.lk.isSending src = false)
      ∧ { talking.lk with modeFlag := true }.restoreFlag = false := by
  refine ⟨by decide, by decide, ⟨by decide, by decide, by decide, by decide⟩, mixed_shaped, by decide, ?_,
    by decide⟩
  intro src
  cases src <;> decide

theorem witness_QueuesStayBounded :
    { talking with pending := [.transmitStart] }.QueuesBounded
      ∧ ∃ t, step { talking with pending := [.transmitStart] } = .next t :=
  ⟨⟨by decide, by decide, by decide, by decide⟩, _, rfl⟩

/-! #### Requests -/

/-- A state with a request at the head: kind and payload. -/
def asked (m : Mode) (kind : Byte) (payload : List Byte) : State := asking (online m) kind payload

theorem witness_LinkAnswersRequests :
    (asked .standby 0x12 []).Asks (request 0x12 []) ∧ (asked .standby 0x00 []).Asks (request 0x00 [])
      ∧ (0x11, 0, Instr.restart) ∈ requestRows
      ∧ (asking State.reset 0x03 [1, 0]).Asks (request 0x03 [1, 0])
      ∧ State.reset.pmc.mode = .starting
      ∧ (asked .standby 0x02 [0]).Asks (request 0x02 [0])
      ∧ (asked .standby 0x10 [3]).Asks (request 0x10 [3]) ∧ (asked .standby 0x10 [4]).Asks (request 0x10 [4])
      ∧ (asked .standby 0x11 []).Asks (request 0x11 [])
      ∧ (down (asked .standby 0x11 [])).live = false ∧ talking.lk.reply ≠ none := by
  refine ⟨?_, ?_, by decide, ?_, by decide, ?_, ?_, ?_, ?_, by decide, by decide⟩ <;>
    exact ⟨by decide, by decide, by decide, by decide⟩

theorem witness_BlockReadsReport :
    (asking State.reset 0x01 []).Asks (request 0x01 []) ∧ (asked .run 0x02 []).Asks (request 0x02 [])
      ∧ (asked .run 0x09 [0]).Asks (request 0x09 [0]) ∧ (asked .run 0x09 [3]).Asks (request 0x09 [3])
      ∧ (asked .run 0x09 [4]).Asks (request 0x09 [4])
      ∧ ((online .run).pmc.zones.get 0).slot ≠ .unconfigured
      ∧ ((online .run).pmc.zones.get 3).slot = .unconfigured := by
  refine ⟨?_, ?_, ?_, ?_, ?_, by decide, by decide⟩ <;>
    exact ⟨by decide, by decide, by decide, by decide⟩

theorem witness_ListReadsReport :
    (asked .run 0x0A [21]).Asks (request 0x0A [21]) ∧ (asked .run 0x0A [22]).Asks (request 0x0A [22])
      ∧ (asked .run 0x0B [23]).Asks (request 0x0B [23]) ∧ (asked .run 0x0B [24]).Asks (request 0x0B [24])
      ∧ (asking twoCases 0x0C [2]).Asks (request 0x0C [2]) ∧ (asked .run 0x0C [0]).Asks (request 0x0C [0])
      ∧ findCase twoCases.cm.table 2 = some (stuckCase 2)
      ∧ (withRacks .run [rack 1]).rt.queue[0 + 0]? = some (rack 1) := by
  refine ⟨?_, ?_, ?_, ?_, ?_, ?_, by decide, by decide⟩ <;>
    exact ⟨by decide, by decide, by decide, by decide⟩

/-- One request for each clause of the MODE statement. -/
theorem witness_ModeFollowsTheTable :
    (asked .prepare 0x03 [3, 0]).Asks (request 0x03 [3, 0])
      ∧ profileCheck (onlineZones (online .prepare).pmc.zones none) (online .prepare).pmc.limits
          (online .prepare).smp.channels = none
      ∧ profileCheck (onlineZones (inMode .standby).pmc.zones none) (inMode .standby).pmc.limits
          (inMode .standby).smp.channels = some { check := 1, zone := none }
      ∧ (asking (withRacks .run [rack 1]) 0x03 [1, 1]).Asks (request 0x03 [1, 1])
      ∧ (∃ x ∈ (withRacks .run [rack 1]).rt.queue, x.flush = none)
      ∧ (∀ x ∈ (online .prepare).rt.queue, x.carried = false ∧ x.flush = none)
      ∧ (∃ x ∈ (withRacks .prepare [{ rack 1 with carried := true }]).rt.queue, x.carried = true)
      ∧ (asked .halt 0x03 [4, 0]).Asks (request 0x03 [4, 0])
      ∧ (asked .standby 0x03 [5, 0]).Asks (request 0x03 [5, 0])
      ∧ (asked .standby 0x03 [1, 2]).Asks (request 0x03 [1, 2]) := by
  refine ⟨?_, by decide, by decide, ?_, by decide, by decide, by decide, ?_, ?_, ?_⟩ <;>
    exact ⟨by decide, by decide, by decide, by decide⟩

/-- Two online zones in ascending order, the lower one final: check 3 fails and names the higher. -/
theorem witness_ModeFollowsTheTable_check :
    ([(0, rinse), (2, { rinse with final := false })] : OnlineZones).Pairwise (fun a b => a.1 < b.1)
      ∧ profileCheck [(0, rinse), (2, { rinse with final := false })] Limits.default
          (Four.fill (Quad.fill (channel 0))) = some { check := 3, zone := some 2 }
      ∧ profileCheck [(0, rinse)] Limits.default (Four.fill (Quad.fill (channel 0))) = none := by decide

/-- A ZONE_LOAD of a zone: both spans, and leak_threshold sent as 0 (written as 1: R191). -/
def zoneLoadBytes (zone : Byte) : List Byte :=
  [zone, 0x01, 0x03, 0, 200, 0x07, 0x08] ++ List.replicate 19 0

theorem test_leak_threshold_clamped :
    (zoneLoadRecord (zoneLoadBytes 1)).1.leakThreshold = 1 ∧ (zoneLoadRecord (zoneLoadBytes 1)).2 = [8] := by
  decide

/-- A CHAN_LOAD of channel 5 with all four fields. -/
def chanLoadBytes : List Byte := [5, 0x0F, 0x01, 0x90, 0x0E, 0x10, 0, 0, 0x04, 0xB0]

theorem witness_LoadsAreTaken :
    (asked .run 0x04 (zoneLoadBytes 1)).Asks (request 0x04 (zoneLoadBytes 1))
      ∧ (asked .run 0x04 (zoneLoadBytes 4)).Asks (request 0x04 (zoneLoadBytes 4))
      ∧ (zoneLoadBytes 1).length = 26 ∧ sent16 (zoneLoadBytes 1) 1 = 0x0103
      ∧ ((online .run).pmc.zones.get 1).slot.isOnline = false
      ∧ ((online .run).pmc.zones.get 0).slot.isOnline = true
      ∧ (asked .run 0x05 chanLoadBytes).Asks (request 0x05 chanLoadBytes) ∧ chanLoadBytes.length = 10
      ∧ (∀ n, n < 4 → (0x0F : Nat).testBit n = true)
      ∧ min 4095 (sent16 chanLoadBytes 2) < min 4095 (sent16 chanLoadBytes 4)
      ∧ (asked .prepare 0x06 clampedLimits).Asks (request 0x06 clampedLimits)
      ∧ (asked .run 0x06 clampedLimits).Asks (request 0x06 clampedLimits) ∧ clampedLimits.length = 41
      ∧ (online .prepare).DoseLimitsSound := by
  refine ⟨?_, ?_, by decide, by decide, by decide, by decide, ?_, by decide, by decide, by decide, ?_, ?_,
    by decide, ⟨by decide, by decide, by decide, by decide⟩⟩ <;>
    exact ⟨by decide, by decide, by decide, by decide⟩

/-- A load in a state whose claims stand: it keeps the detectors, but for those of the channel. -/
theorem witness_LoadsAreTaken_claims :
    (asking twoCases 0x05 chanLoadBytes).ClaimsStand
      ∧ (asking twoCases 0x05 chanLoadBytes).Asks (request 0x05 chanLoadBytes)
      ∧ (asking twoCases 0x05 chanLoadBytes).pmc.mode ≠ .starting :=
  ⟨twoCases_claims, ⟨by decide, by decide, by decide, by decide⟩, by decide⟩

theorem witness_DoseLimitsStaySound :
    (asked .prepare 0x06 clampedLimits).DoseLimitsSound
      ∧ ∃ t, step { asked .prepare 0x06 clampedLimits with pending := [.limitsLoad] } = .next t :=
  ⟨⟨by decide, by decide, by decide, by decide⟩, _, rfl⟩

/-- Zone 1 OFFLINE, zone 2 OFFLINE under a marker, zone 0 ONLINE, zone 3 UNCONFIGURED. -/
def service (m : Mode) : State :=
  let s := online m
  { s with
    pmc := { s.pmc with
      zones := (s.pmc.zones.set 1 { slot := .offline { rinse with final := false }, marker := [] }).set 2
        { slot := .offline rinse, marker := [4] } } }

theorem witness_ZonesChangeService :
    (asking (service .prepare) 0x07 [1]).Asks (request 0x07 [1])
      ∧ (asking (service .standby) 0x07 [1]).Asks (request 0x07 [1])
      ∧ (asking (service .standby) 0x08 [4]).Asks (request 0x08 [4])
      ∧ (asking (service .standby) 0x08 [0]).Asks (request 0x08 [0])
      ∧ profileCheck (onlineZones (service .prepare).pmc.zones (some 1)) (service .prepare).pmc.limits
          (service .prepare).smp.channels = some { check := 3, zone := some 1 }
      ∧ ((service .standby).pmc.zones.get 0).slot = .online rinse
      ∧ ((service .standby).pmc.zones.get 1).slot = .offline { rinse with final := false }
      ∧ ((service .standby).pmc.zones.get 2).marker ≠ []
      ∧ ((service .standby).pmc.zones.get 3).slot = .unconfigured := by
  refine ⟨?_, ?_, ?_, ?_, by decide, by decide, by decide, by decide, by decide⟩ <;>
    exact ⟨by decide, by decide, by decide, by decide⟩

end Sys2Proof.Machine.Tests
end

section
/-! PROOF. The dose limits (R4, R6): what each shared operation leaves of the limits, what one
command can make of them, and that dose_floor and t_ref stay within their ranges. -/

namespace Sys2Proof.Machine

/-! ### The limits under the shared operations -/

/-- A run of operations that each keep the limits keeps them. -/
theorem foldl_limits {α : Type} {f : State → α → State}
    (hf : ∀ s a, (f s a).pmc.limits = s.pmc.limits) (s : State) (as : List α) :
    (as.foldl f s).pmc.limits = s.pmc.limits := by
  induction as generalizing s with
  | nil => rfl
  | cons a as ih => rw [List.foldl_cons, ih, hf]

@[simp] theorem State.setSlot_limits (s : State) (z : Zone) (zs : ZoneSlot) :
    (s.setSlot z zs).pmc.limits = s.pmc.limits := rfl

@[simp] theorem State.takeOff_limits (s : State) (z : Zone) :
    (s.takeOff z).pmc.limits = s.pmc.limits := by
  simp [State.takeOff]

@[simp] theorem State.addMarker_limits (s : State) (id : Nat) (z : Zone) :
    (s.addMarker id z).pmc.limits = s.pmc.limits := by
  simp only [State.addMarker]
  split
  · rfl
  · split <;> simp

@[simp] theorem State.addMarkers_limits (s : State) (id : Nat) (zs : List Zone) :
    (zs.foldl (State.addMarker id) s).pmc.limits = s.pmc.limits :=
  foldl_limits (State.addMarker_limits · id) s zs

@[simp] theorem State.removeMarkers_limits (s : State) (id : Nat) :
    (s.removeMarkers id).pmc.limits = s.pmc.limits := rfl

@[simp] theorem State.alterCase_limits (s : State) (old new : Case) :
    (s.alterCase old new).pmc.limits = s.pmc.limits := by
  simp only [State.alterCase, apply_ite State.pmc, State.trigger_pmc,
    State.announceCase_pmc, State.setRt_pmc, ite_self, State.addMarkers_limits,
    State.linkGainedPumps_pmc, State.applySets_pmc, State.putCase_pmc]

@[simp] theorem State.changeCase_limits (s : State) (old new : Case) :
    (s.changeCase old new).pmc.limits = s.pmc.limits := by
  simp [State.changeCase]

@[simp] theorem State.resolveCase_limits (s : State) (c : Case) :
    (s.resolveCase c).pmc.limits = s.pmc.limits := by
  simp [State.resolveCase]

@[simp] theorem State.advanceCase_limits (s : State) (old new : Case) :
    (s.advanceCase old new).pmc.limits = s.pmc.limits := by
  unfold State.advanceCase
  split <;> simp

@[simp] theorem State.enterMode_pmc (s : State) (m : Mode) (c : HaltCause) :
    (s.enterMode m c).pmc = { s.pmc with mode := m, haltCause := c } := by
  simp only [State.enterMode, State.trigger_pmc, State.announceMode_pmc, State.applySets_pmc]
  split <;> rfl

@[simp] theorem State.changeMode_limits (s : State) (m : Mode) (c : HaltCause) :
    (s.changeMode m c).pmc.limits = s.pmc.limits := by
  simp [State.changeMode]

@[simp] theorem State.enterHalt_limits (s : State) (c : HaltCause) :
    (s.enterHalt c).pmc.limits = s.pmc.limits := by
  unfold State.enterHalt
  split <;> simp

@[simp] theorem State.automaticHalt_limits (s : State) (c : HaltCause) :
    (s.automaticHalt c).pmc.limits = s.pmc.limits := by
  unfold State.automaticHalt
  split <;> simp

@[simp] theorem State.openCase_limits (s : State) (d : Detection) :
    (s.openCase d).pmc.limits = s.pmc.limits := by
  simp only [State.openCase, apply_ite State.pmc, State.trigger_pmc,
    State.announceCase_pmc, State.setRt_pmc, ite_self, State.addMarkers_limits,
    State.linkGainedPumps_pmc, State.applySets_pmc, State.evaluateSuspension_pmc, State.setCm_pmc]

@[simp] theorem State.detect_limits (s : State) (d : Detection) :
    (s.detect d).pmc.limits = s.pmc.limits := by
  unfold State.detect
  split
  · simp [State.deliver]
  · split <;> simp

@[simp] theorem State.detectEvent_limits (s : State) (d : Detection) :
    (s.detectEvent d).pmc.limits = s.pmc.limits := by
  simp [State.detectEvent]

@[simp] theorem State.detectEvents_limits (s : State) (ds : List Detection) :
    (ds.foldl State.detectEvent s).pmc.limits = s.pmc.limits :=
  foldl_limits State.detectEvent_limits s ds

/-! ### The limits under a round -/

@[simp] theorem State.caseSample_limits (z : Zone) (rec : ZoneRecord) (lines : Lines) (r : Quad Reading)
    (s : State) (id : Nat) : (s.caseSample z rec lines r id).pmc.limits = s.pmc.limits := by
  unfold State.caseSample
  split
  · rfl
  · split
    · rfl
    · simp only [State.commit_pmc, State.settleAfter_pmc]
      split <;> simp

@[simp] theorem State.casesSample_limits (z : Zone) (lines : Lines) (r : Quad Reading) (ids : List Nat)
    (s : State) : (s.casesSample z lines r ids).pmc.limits = s.pmc.limits := by
  unfold State.casesSample
  split
  · rfl
  · exact foldl_limits (State.caseSample_limits z _ lines r) s ids

@[simp] theorem State.managerSample_limits (z : Zone) (lines : Lines) (r : Quad Reading)
    (ds : List Detection) (first : Nat) (ids : List Nat) (s : State) :
    (s.managerSample z lines r ds first ids).pmc.limits = s.pmc.limits := by
  simp [State.managerSample]

@[simp] theorem State.contactSample_pmc (z : Zone) (lines : Lines) (r : Quad Reading) (s : State) :
    (s.contactSample z lines r).pmc = s.pmc := by
  simp only [State.contactSample]
  split <;> rfl

@[simp] theorem State.doseSample_pmc (z : Zone) (lines : Lines) (r : Quad Reading) (s : State) :
    (s.doseSample z lines r).pmc = s.pmc := by
  simp only [State.doseSample]
  split <;> rfl

@[simp] theorem State.dwellSample_pmc (z : Zone) (s : State) : (s.dwellSample z).pmc = s.pmc := by
  simp only [State.dwellSample]
  repeat' split
  all_goals simp

@[simp] theorem State.finalSample_pmc (z : Zone) (lines : Lines) (r : Quad Reading) (s : State) :
    (s.finalSample z lines r).pmc = s.pmc := by
  simp only [State.finalSample]
  repeat' split
  all_goals simp

@[simp] theorem State.detectorSample_pmc (z : Zone) (lines : Lines) (r : Quad Reading)
    (runs : List Quantity) (s : State) : (s.detectorSample z lines r runs).1.pmc = s.pmc := by
  unfold State.detectorSample
  split <;> rfl

@[simp] theorem State.traceSample_pmc (z : Zone) (r : Quad Reading) (s : State) :
    (s.traceSample z r).pmc = s.pmc := by
  unfold State.traceSample
  split <;> rfl

@[simp] theorem State.guardSample_pmc (z : Zone) (r : Quad Reading) (s : State) :
    (s.guardSample z r).pmc = s.pmc := rfl

@[simp] theorem State.zoneSample_limits (codes : Quad Nat) (order : ZoneOrder) (z : Zone) (s : State) :
    (s.zoneSample codes order z).pmc.limits = s.pmc.limits := by
  simp only [State.zoneSample]
  split <;> simp

@[simp] theorem State.panEvent_limits (before : Smp) (s : State) :
    (s.panEvent before).pmc.limits = s.pmc.limits := by
  unfold State.panEvent
  split <;> simp

@[simp] theorem State.eyeEvent_pmc (before : Smp) (s : State) : (s.eyeEvent before).pmc = s.pmc := by
  unfold State.eyeEvent
  split <;> simp

@[simp] theorem State.sampleRound_limits (input : RoundInput) (s : State) :
    (s.sampleRound input).pmc.limits = s.pmc.limits := by
  simp only [State.sampleRound, Four.indices, List.foldl_cons, List.foldl_nil, State.zoneSample_limits]
  split <;> simp

/-! ### The limits under the other events -/

@[simp] theorem State.pulseDetectors_limits (s : State) :
    s.pulseDetectors.pmc.limits = s.pmc.limits := by
  simp only [State.pulseDetectors]
  repeat' split
  all_goals simp

@[simp] theorem State.pulse_limits (trackerFirst : Bool) (s : State) :
    (s.pulse trackerFirst).pmc.limits = s.pmc.limits := by
  simp only [State.pulse]
  split <;> simp

@[simp] theorem State.startingEnd_limits (s : State) : s.startingEnd.pmc.limits = s.pmc.limits := by
  simp only [State.startingEnd, State.commit_pmc]
  split <;> simp [State.restore]

@[simp] theorem State.verifyComplete_pmc (s : State) : s.verifyComplete.pmc = s.pmc := by
  unfold State.verifyComplete State.writeVerified State.writeFailed
  simp only []
  repeat' split
  all_goals simp

@[simp] theorem State.silenceExpiry_limits (s : State) : s.silenceExpiry.pmc.limits = s.pmc.limits := by
  unfold State.silenceExpiry
  split <;> simp

@[simp] theorem State.dwellExpiry_pmc (s : State) : s.dwellExpiry.pmc = s.pmc := by
  unfold State.dwellExpiry
  split <;> simp

@[simp] theorem State.localiseExpiry_limits (s : State) : s.localiseExpiry.pmc.limits = s.pmc.limits := by
  unfold State.localiseExpiry
  split <;> simp

@[simp] theorem State.drainExpiry_limits (s : State) : s.drainExpiry.pmc.limits = s.pmc.limits := by
  unfold State.drainExpiry
  split <;> simp

@[simp] theorem State.leakVerifyExpiry_limits (s : State) :
    s.leakVerifyExpiry.pmc.limits = s.pmc.limits := by
  unfold State.leakVerifyExpiry
  split <;> simp [State.startLeakWatch]

@[simp] theorem State.purgeExpiry_limits (z : Zone) (s : State) :
    (s.purgeExpiry z).pmc.limits = s.pmc.limits := by
  unfold State.purgeExpiry
  split <;> simp

@[simp] theorem State.refillExpiry_limits (z : Zone) (s : State) :
    (s.refillExpiry z).pmc.limits = s.pmc.limits := by
  unfold State.refillExpiry
  split <;> simp

@[simp] theorem State.tick_pmc (s : State) : s.tick.pmc = s.pmc := by
  unfold State.tick
  split <;> rfl

@[simp] theorem State.goDown_pmc (p : Power) (s : State) : (s.goDown p).pmc = s.pmc := rfl

@[simp] theorem State.endReset_limits (cause : ResetCause) (strap : Baud) (s : State) :
    (s.endReset cause strap).pmc.limits = Limits.default := rfl

/-! ### The limits under the requests -/

/-- A request that is not taken, or that the tests before its owner refuse, leaves the Profile and
Mode Controller as it is; any other leaves of it what the owner does (R180). -/
theorem takeRequest_pmc (kind length : Nat) (inStarting : Bool) (owner : List Byte → State → Answered)
    (s : State) :
    (takeRequest kind length inStarting owner s).pmc = s.pmc
      ∨ ∃ p, (takeRequest kind length inStarting owner s).pmc = (owner p s.dropRequest).1.pmc := by
  unfold takeRequest
  split
  · exact .inl rfl
  next r _ =>
    split
    · simp only [State.commit_pmc, State.answer, State.setLk_pmc, State.handle]
      split
      · exact .inl rfl
      · split
        · exact .inl rfl
        · exact .inr ⟨r.payload, rfl⟩
    · exact .inl rfl

/-- A request whose owner keeps the limits keeps them. -/
theorem takeRequest_limits {owner : List Byte → State → Answered}
    (ho : ∀ p s, (owner p s).1.pmc.limits = s.pmc.limits) (kind length : Nat) (inStarting : Bool)
    (s : State) : (takeRequest kind length inStarting owner s).pmc.limits = s.pmc.limits := by
  obtain h | ⟨p, h⟩ := takeRequest_pmc kind length inStarting owner s
  · rw [h]
  · rw [h, ho]; rfl

theorem enterRun_limits (s : State) : s.enterRun.pmc.limits = s.pmc.limits := by
  simp only [State.enterRun]
  split <;> simp

theorem modeTable_limits (target : Mode) (force : Bool) (s : State) :
    (modeTable target force s).1.pmc.limits = s.pmc.limits := by
  simp only [modeTable, modePrepareFromStandby, modeRunFromPrepare, modeStandby, ok, refuse]
  repeat' split
  all_goals simp [enterRun_limits]

theorem modeRequest_limits (p : List Byte) (s : State) :
    (modeRequest p s).1.pmc.limits = s.pmc.limits := by
  unfold modeRequest
  split
  · rfl
  · rfl
  · split
    · rfl
    · exact modeTable_limits _ _ s

theorem zoneLoadRequest_limits (p : List Byte) (s : State) :
    (zoneLoadRequest p s).1.pmc.limits = s.pmc.limits := by
  unfold zoneLoadRequest
  repeat' split
  all_goals rfl

theorem chanLoadRequest_limits (p : List Byte) (s : State) :
    (chanLoadRequest p s).1.pmc.limits = s.pmc.limits := by
  unfold chanLoadRequest
  repeat' split
  any_goals rfl
  unfold State.writeCalibration State.guardLoaded
  split <;> rfl

theorem zoneOnRequest_limits (p : List Byte) (s : State) :
    (zoneOnRequest p s).1.pmc.limits = s.pmc.limits := by
  simp only [zoneOnRequest]
  repeat' split
  all_goals rfl

theorem zoneOffRequest_limits (p : List Byte) (s : State) :
    (zoneOffRequest p s).1.pmc.limits = s.pmc.limits := by
  unfold zoneOffRequest
  repeat' split
  all_goals simp [ok, refuse]

theorem haltClearRequest_limits (p : List Byte) (s : State) :
    (haltClearRequest p s).1.pmc.limits = s.pmc.limits := by
  unfold haltClearRequest
  split <;> simp [ok, refuse]

theorem caseClearRequest_limits (p : List Byte) (s : State) :
    (caseClearRequest p s).1.pmc.limits = s.pmc.limits := by
  unfold caseClearRequest
  repeat' split
  all_goals simp [ok, refuse]

theorem caseRetryRequest_limits (p : List Byte) (s : State) :
    (caseRetryRequest p s).1.pmc.limits = s.pmc.limits := by
  unfold caseRetryRequest
  repeat' split
  all_goals simp [ok, refuse]

theorem zoneReadRequest_limits (p : List Byte) (s : State) :
    (zoneReadRequest p s).1.pmc.limits = s.pmc.limits := by
  unfold zoneReadRequest
  split <;> rfl

theorem linesReadRequest_limits (p : List Byte) (s : State) :
    (linesReadRequest p s).1.pmc.limits = s.pmc.limits := by
  unfold linesReadRequest
  split <;> rfl

theorem racksReadRequest_limits (p : List Byte) (s : State) :
    (racksReadRequest p s).1.pmc.limits = s.pmc.limits := by
  unfold racksReadRequest
  split <;> rfl

theorem caseReadRequest_limits (p : List Byte) (s : State) :
    (caseReadRequest p s).1.pmc.limits = s.pmc.limits := by
  unfold caseReadRequest
  repeat' split
  all_goals rfl

theorem traceRequest_limits (p : List Byte) (s : State) :
    (traceRequest p s).1.pmc.limits = s.pmc.limits := by
  unfold traceRequest
  repeat' split
  all_goals rfl

/-- LIMITS_LOAD leaves the limits as they are, or as its payload makes them (R9). -/
theorem limitsLoadRequest_limits (p : List Byte) (s : State) :
    (limitsLoadRequest p s).1.pmc.limits = s.pmc.limits
      ∨ (limitsLoadRequest p s).1.pmc.limits = (limitsLoadResult p s.pmc.limits).1 := by
  unfold limitsLoadRequest
  split
  · exact .inr rfl
  · exact .inr rfl
  · exact .inl rfl

/-! ### The limits under a command -/

/-- What a command can make of the limits: it keeps them, sets the defaults (a reset, R24), or loads
a payload into them (R9). -/
def Limits.ComeFrom (l now : Limits) : Prop :=
  l = now ∨ l = Limits.default ∨ ∃ p, l = (limitsLoadResult p now).1

theorem limits_comeFrom_branch {t u : State} {now : Limits} (b : Prop) [Decidable b]
    (ht : t.pmc.limits.ComeFrom now) (hu : u.pmc.limits.ComeFrom now) :
    (if b then t else u).pmc.limits.ComeFrom now := by
  split
  · exact ht
  · exact hu

/-- An event that keeps the limits where its condition holds keeps them. -/
theorem limits_comeFrom_ite {s t : State} (b : Prop) [Decidable b] (h : t.pmc.limits = s.pmc.limits) :
    (if b then t else s).pmc.limits.ComeFrom s.pmc.limits :=
  limits_comeFrom_branch b (.inl h) (.inl rfl)

theorem unknownKind_limits {s t : State} (h : execUnknownKind s = .next t) :
    t.pmc.limits = s.pmc.limits := by
  cases h
  repeat' split
  all_goals rfl

theorem limitsLoad_limits {s t : State} (h : execLimitsLoad s = .next t) :
    t.pmc.limits.ComeFrom s.pmc.limits := by
  cases h
  obtain h | ⟨p, h⟩ := takeRequest_pmc 0x06 41 false limitsLoadRequest s
  · exact .inl (by rw [h])
  · obtain hl | hl := limitsLoadRequest_limits p s.dropRequest
    · exact .inl (by rw [h, hl]; rfl)
    · exact .inr (.inr ⟨p, by rw [h, hl]; rfl⟩)

/-- Only a reset and a LIMITS_LOAD change the limits. -/
theorem exec_limits_comeFrom : ∀ (c : Instr) {s t : State}, exec c s = .next t →
    t.pmc.limits.ComeFrom s.pmc.limits
  | .powerReset _, _, _, rfl => limits_comeFrom_branch _ (.inl rfl) (.inr (.inl rfl))
  | .pinReset _, _, _, rfl => limits_comeFrom_branch _ (.inl rfl) (.inr (.inl rfl))
  | .performRestart _, _, _, rfl => limits_comeFrom_branch _ (.inr (.inl rfl)) (.inl rfl)
  | .startingEnd, s, _, rfl => limits_comeFrom_ite _ s.startingEnd_limits
  | .linkReset, _, _, rfl => limits_comeFrom_ite _ rfl
  | .rxByte _ _, _, _, rfl => limits_comeFrom_ite _ rfl
  | .frameGapTimeout, _, _, rfl => limits_comeFrom_ite _ rfl
  | .unknownKind, _, _, h => .inl (unknownKind_limits h)
  | .ident, _, _, rfl => .inl (takeRequest_limits (fun _ _ => rfl) ..)
  | .status, _, _, rfl => .inl (takeRequest_limits (fun _ _ => rfl) ..)
  | .mode, _, _, rfl => .inl (takeRequest_limits modeRequest_limits ..)
  | .zoneLoad, _, _, rfl => .inl (takeRequest_limits zoneLoadRequest_limits ..)
  | .chanLoad, _, _, rfl => .inl (takeRequest_limits chanLoadRequest_limits ..)
  | .limitsLoad, _, _, h => limitsLoad_limits h
  | .zoneOn, _, _, rfl => .inl (takeRequest_limits zoneOnRequest_limits ..)
  | .zoneOff, _, _, rfl => .inl (takeRequest_limits zoneOffRequest_limits ..)
  | .zoneRead, _, _, rfl => .inl (takeRequest_limits zoneReadRequest_limits ..)
  | .linesRead, _, _, rfl => .inl (takeRequest_limits linesReadRequest_limits ..)
  | .racksRead, _, _, rfl => .inl (takeRequest_limits racksReadRequest_limits ..)
  | .caseRead, _, _, rfl => .inl (takeRequest_limits caseReadRequest_limits ..)
  | .caseClear, _, _, rfl => .inl (takeRequest_limits caseClearRequest_limits ..)
  | .caseRetry, _, _, rfl => .inl (takeRequest_limits caseRetryRequest_limits ..)
  | .haltClear, _, _, rfl => .inl (takeRequest_limits haltClearRequest_limits ..)
  | .trace, _, _, rfl => .inl (takeRequest_limits traceRequest_limits ..)
  | .restart, _, _, rfl => .inl (takeRequest_limits (fun _ _ => rfl) ..)
  | .requestInputChange line on, s, t, h => by
    simp only [exec, execRequestInputChange] at h
    split at h
    · cases h
    · cases h; exact limits_comeFrom_ite _ rfl
  | .holdChange _, _, _, rfl => .inl rfl
  | .transmitStart, _, _, rfl => limits_comeFrom_ite _ rfl
  | .replySent, _, _, rfl => limits_comeFrom_ite _ rfl
  | .eventNoticeSent, _, _, rfl => limits_comeFrom_ite _ (by simp)
  | .outcomeNoticeSent, _, _, rfl => limits_comeFrom_ite _ (by simp)
  | .traceNoticeSent, _, _, rfl => limits_comeFrom_ite _ rfl
  | .sampleRound input, s, t, h => by
    simp only [exec, execSampleRound] at h
    split at h
    · cases h
    · cases h; exact limits_comeFrom_ite _ (s.sampleRound_limits input)
  | .encoderPulse _ _, s, _, rfl => limits_comeFrom_ite _ (s.pulse_limits _)
  | .eraseComplete, _, _, rfl => limits_comeFrom_ite _ rfl
  | .programComplete _, _, _, rfl => limits_comeFrom_ite _ rfl
  | .verifyComplete, _, _, rfl => limits_comeFrom_ite _ (by simp)
  | .dwellExpiry, _, _, rfl => limits_comeFrom_ite _ (by simp)
  | .leakWindowExpiry _, _, _, rfl => limits_comeFrom_ite _ rfl
  | .encoderSilenceExpiry, _, _, rfl => limits_comeFrom_ite _ (by simp)
  | .localiseExpiry, _, _, rfl => limits_comeFrom_ite _ (by simp)
  | .drainTimeoutExpiry, _, _, rfl => limits_comeFrom_ite _ (by simp)
  | .leakVerifyExpiry, _, _, rfl => limits_comeFrom_ite _ (by simp)
  | .leakWatchExpiry, _, _, rfl => limits_comeFrom_ite _ rfl
  | .purgeExpiry _, _, _, rfl => limits_comeFrom_ite _ (by simp)
  | .refillExpiry _, _, _, rfl => limits_comeFrom_ite _ (by simp)
  | .powerLost, _, _, rfl => .inl rfl
  | .resetPinAsserted, _, _, rfl => .inl rfl
  | .breakEnd, _, _, rfl => limits_comeFrom_ite _ rfl

/-! ### The dose limits -/

/-- R4, R6 on limits: dose_floor lies in 400..t_ref, t_ref in 600..800. -/
def Limits.DoseSound (l : Limits) : Prop :=
  400 ≤ l.doseFloor ∧ l.doseFloor ≤ l.tRef ∧ 600 ≤ l.tRef ∧ l.tRef ≤ 800

theorem State.doseLimitsSound_iff (s : State) : s.DoseLimitsSound ↔ s.pmc.limits.DoseSound := Iff.rfl

/-- A present field is written with the nearest value of its range, an absent one with `absent` (R5). -/
theorem loadField_fst {lo hi : Nat} (hr : lo ≤ hi) (number : Nat) (isPresent : Bool) (absent value : Nat) :
    (loadField number isPresent absent lo hi value).1
      = if isPresent then max lo (min hi value) else absent := by
  cases isPresent
  · rfl
  · simp only [loadField, clampTo, if_true]
    split
    · omega
    · split <;> omega

/-- dose_floor after a load: the nearest value of 400..t_ref to the one sent, or to the one it had
(R6). -/
theorem doseFloorField_fst {tRef : Nat} (ht : 400 ≤ tRef) (isPresent : Bool) (now value : Nat) :
    (doseFloorField isPresent now value tRef).1
      = if isPresent then max 400 (min tRef value) else min now tRef := by
  cases isPresent
  · simp only [doseFloorField, Bool.false_eq_true, if_false]
    split <;> simp <;> omega
  · simp [doseFloorField, loadField_fst ht]

/-- A load keeps the dose limits within their ranges (R6). -/
theorem limitsLoadResult_doseSound (p : List Byte) {l : Limits} (h : l.DoseSound) :
    (limitsLoadResult p l).1.DoseSound := by
  obtain ⟨floorLo, floorHi, refLo, refHi⟩ := h
  simp only [Limits.DoseSound, limitsLoadResult]
  rw [loadField_fst (by decide), doseFloorField_fst (by split <;> omega)]
  split <;> split <;> omega

theorem Limits.default_doseSound : Limits.default.DoseSound := by
  unfold Limits.DoseSound
  decide

/-- Limits that a command leaves are within their ranges where those before it were. -/
theorem Limits.ComeFrom.doseSound {l now : Limits} (h : l.ComeFrom now) (hn : now.DoseSound) :
    l.DoseSound := by
  obtain rfl | rfl | ⟨p, rfl⟩ := h
  · exact hn
  · exact Limits.default_doseSound
  · exact limitsLoadResult_doseSound p hn

/-- The limits after a step come from those before it: an idle step keeps them. -/
theorem step_limits_comeFrom {s t : State} (h : step s = .next t) :
    t.pmc.limits.ComeFrom s.pmc.limits := by
  unfold step at h
  split at h
  · cases h; exact .inl (by simp)
  next c rest _ => exact exec_limits_comeFrom (s := { s with pending := rest }) c h

/-- Settles O59: the law holds of whatever limits a step can leave. -/
theorem doseLimitsStaySound : Obligations.DoseLimitsStaySound := by
  unfold Obligations.DoseLimitsStaySound
  intro s t hs h
  rw [State.doseLimitsSound_iff] at hs ⊢
  exact (step_limits_comeFrom h).doseSound hs

end Sys2Proof.Machine
end

section
/-! PROOF. The claims of the machine's owners, line by line (R15, R52 to R56), the drives that the
MODE claims hold off (R56), and the laws at reset (R24, R43, R60, R84, R117, R133, R161, R187). -/

namespace Sys2Proof.Machine

/-! ### Claims line by line -/

/-- The record of every line is one of the 22 (R44). -/
theorem LineId.mem_all (id : LineId) : id ∈ LineId.all := by
  cases id with
  | conveyor => decide
  | main => decide
  | heatA z => fin_cases z <;> decide
  | heatB z => fin_cases z <;> decide
  | pump z => fin_cases z <;> decide
  | fill z => fin_cases z <;> decide
  | drain z => fin_cases z <;> decide

@[simp] theorem ClaimSet.on_nil (id : LineId) : ClaimSet.on [] id = none := rfl

@[simp] theorem blockOn_on (ids : List LineId) (id : LineId) :
    ClaimSet.on (blockOn ids) id = if id ∈ ids then some .block else none := by
  induction ids with
  | nil => rfl
  | cons a ids ih =>
    simp only [ClaimSet.on, blockOn, List.map_cons, List.find?_cons] at ih ⊢
    by_cases h : a = id
    · simp [h]
    · simpa [h, Ne.symm h] using ih

/-- The MODE claims line by line (R15, R56). -/
theorem modeClaims_on (m : Mode) (id : LineId) :
    (modeClaims m).on id
      = if m = .starting ∨ m = .halt ∨ (m ≠ .run ∧ id = .conveyor) then some .block else none := by
  cases m <;> simp [modeClaims, LineId.mem_all]

/-- The ZONE_OFF claims line by line (R52). -/
theorem zoneOffClaims_on (z : Zone) (slot : SlotState) (id : LineId) :
    (zoneOffClaims z slot).on id
      = if slot.isOnline = false ∧ (id = .heatA z ∨ id = .heatB z ∨ id = .pump z ∨ id = .fill z) then
          some .block
        else none := by
  unfold zoneOffClaims
  cases slot.isOnline <;> simp

/-! ### Drives under the MODE claims -/

/-- A resolved line under a standing BLOCK is off (R48). -/
theorem State.DrivesResolved.off_of_claim {s : State} (h : s.DrivesResolved) {o : Owner} {id : LineId}
    (hb : s.lg.claimOf o id = some .block) : s.lg.drive id = false :=
  Line.Resolved.off_of_block (h id) hb

/-- Settles O14: the MODE claims stand, and a resolved line under a BLOCK is off. -/
theorem drivesOffInHalt : Obligations.DrivesOffInHalt := by
  unfold Obligations.DrivesOffInHalt
  intro s id hr hc
  have claim : ∀ id, s.lg.claimOf .mode id = (modeClaims s.pmc.mode).on id := hc.claimOf .mode
  constructor
  · intro hm
    apply hr.off_of_claim (o := .mode)
    rw [claim, modeClaims_on, if_pos (by tauto)]
  · intro hm
    apply hr.off_of_claim (o := .mode)
    rw [claim, modeClaims_on, if_pos (.inr (.inr ⟨hm, rfl⟩))]

/-! ### The state after reset -/

theorem reset_drivesResolved : State.reset.DrivesResolved := by
  intro id
  cases id <;> simp [State.reset, Lines.get, ZoneLines.afterReset, Line.afterReset, blocksOf]

/-- The owners that block a line after a reset (R60). -/
def resetOwners : LineId → List Owner
  | .heatA z => [.mode, .zoneOff z, .tempGuard z, .levelGuard z]
  | .heatB z => [.mode, .zoneOff z, .tempGuard z, .levelGuard z]
  | .pump z => [.mode, .zoneOff z]
  | .fill z => [.mode, .zoneOff z, .levelGuard z]
  | .drain _ => [.mode]
  | .conveyor => [.mode]
  | .main => [.mode]

theorem resetOwners_nodup (id : LineId) : (resetOwners id).Nodup := by
  cases id <;> simp [resetOwners]

theorem reset_line (id : LineId) : State.reset.lg.get id = Line.afterReset (resetOwners id) := by
  cases id <;> simp [State.reset, Lines.get, ZoneLines.afterReset, resetOwners]

/-- One owner's claims among BLOCKs of distinct owners. -/
theorem kinds_blocksOf {owners : List Owner} (h : owners.Nodup) (o : Owner) :
    ((blocksOf owners).filter fun c => c.owner = o).map (·.kind)
      = if o ∈ owners then [.block] else [] := by
  induction owners with
  | nil => rfl
  | cons a owners ih =>
    obtain ⟨ha, hn⟩ := List.nodup_cons.mp h
    have ih := ih hn
    simp only [blocksOf, List.map_cons, List.filter_cons] at ih ⊢
    by_cases e : a = o
    · subst e; simp_all
    · simp only [e, decide_false, Bool.false_eq_true, if_false, ih, List.mem_cons, Ne.symm e, false_or]

theorem reset_claimsOf (o : Owner) (id : LineId) :
    State.reset.lg.claimsOf o id = if o ∈ resetOwners id then [.block] else [] := by
  rw [Lines.claimsOf, reset_line]
  exact kinds_blocksOf (resetOwners_nodup id) o

/-- What each owner is to claim at reset (R24, R43): MODE everywhere, the guards of every zone, no
other. -/
theorem reset_ownerWants_on (o : Owner) (id : LineId) :
    (State.reset.ownerWants o).on id = if o ∈ resetOwners id then some .block else none := by
  have slot : ∀ z, (State.reset.pmc.zones.get z).slot = .unconfigured := by simp [State.reset]
  have readings : ∀ z, (State.reset.smp.channels.get z).temp.reading = .unknown
      ∧ (State.reset.smp.channels.get z).level.reading = .unknown := by
    simp [State.reset, Quad.fill]
  cases o with
  | mode => cases id <;> simp [State.ownerWants, modeClaims_on, State.reset, resetOwners]
  | ofCase n => cases id <;> simp [State.ownerWants, findCase, State.reset, resetOwners]
  | zoneOff z =>
    cases id <;>
      simp [State.ownerWants, zoneOffClaims_on, slot, SlotState.isOnline, resetOwners, eq_comm]
  | tempGuard z =>
    cases id <;> simp [State.ownerWants, tempGuardClaims, readings, resetOwners, eq_comm]
  | levelGuard z =>
    cases id <;>
      simp [State.ownerWants, levelGuardClaims, Reading.judged, readings, resetOwners, eq_comm]
  | dwell => cases id <;> simp [State.ownerWants, dwellClaims, State.reset, resetOwners]
  | outcomeStall =>
    cases id <;> simp [State.ownerWants, stallClaims, queuePlaces, State.reset, resetOwners]

theorem reset_claimsStand : State.reset.ClaimsStand := by
  intro o id
  rw [reset_claimsOf, reset_ownerWants_on]
  split <;> rfl

theorem reset_racksSound : State.reset.RacksSound := by
  refine ⟨by decide, ?_, ?_, ?_⟩
  · simp [Rt.Shaped, State.reset]
  · simp [State.reset]
  · simp [Ck.Bounded, SlotContents.Bounded, State.reset]

theorem reset_racksOrdered : State.reset.RacksOrdered := by
  simp [State.RacksOrdered, TagsRun, State.reset, Limits.default]

theorem reset_quiet : State.reset.Quiet :=
  ⟨rfl, fun _ => ⟨rfl, rfl, rfl, rfl, rfl, rfl⟩⟩

/-- Settles O46: each law at the values of the reset. -/
theorem resetMeetsTheLaws : Obligations.ResetMeetsTheLaws := by
  unfold Obligations.ResetMeetsTheLaws
  have tableSound : State.reset.TableSound := ⟨by decide, List.nodup_nil, fun _ => Nat.zero_le 1⟩
  have settled : State.reset.SuspensionSettled := by simp [State.SuspensionSettled, State.reset]
  have bounded : State.reset.QueuesBounded := ⟨by decide, by decide, by decide, by decide⟩
  have held : State.reset.lk.SendsHeld := by simp [Lk.SendsHeld, Lk.isSending, State.reset]
  have generations : State.reset.GenerationsSound := fun h => absurd rfl h
  exact ⟨reset_drivesResolved, reset_claimsStand, tableSound, settled, reset_racksSound,
    reset_racksOrdered, rfl, bounded, held, reset_quiet, generations, Limits.default_doseSound⟩

end Sys2Proof.Machine
end

section
/-! PROOF. How a request that is asked is taken and answered (R180, R190), and ZONE_ON and ZONE_OFF
(R12, R13). -/

namespace Sys2Proof.Machine

/-! ### A request that is asked -/

/-- An event that has raised no trigger leaves the Checkpoint Store nothing to take (R162). -/
theorem State.commit_of_not_trigger {s : State} (h : s.ck.trigger = false) : s.commit = s := by
  simp [State.commit, h]

@[simp] theorem State.dropRequest_power (s : State) : s.dropRequest.power = s.power := rfl
@[simp] theorem State.dropRequest_pmc (s : State) : s.dropRequest.pmc = s.pmc := rfl
@[simp] theorem State.dropRequest_smp (s : State) : s.dropRequest.smp = s.smp := rfl
@[simp] theorem State.dropRequest_lg (s : State) : s.dropRequest.lg = s.lg := rfl
@[simp] theorem State.dropRequest_rt (s : State) : s.dropRequest.rt = s.rt := rfl
@[simp] theorem State.dropRequest_du (s : State) : s.dropRequest.du = s.du := rfl
@[simp] theorem State.dropRequest_fd (s : State) : s.dropRequest.fd = s.fd := rfl
@[simp] theorem State.dropRequest_cm (s : State) : s.dropRequest.cm = s.cm := rfl
@[simp] theorem State.dropRequest_ck (s : State) : s.dropRequest.ck = s.ck := rfl
@[simp] theorem State.dropRequest_freeIndex (s : State) : s.dropRequest.freeIndex = s.freeIndex := rfl
@[simp] theorem State.dropRequest_pending (s : State) : s.dropRequest.pending = s.pending := rfl

@[simp] theorem State.answer_power (s : State) (r : Request) (p : List Byte) :
    (s.answer r p).power = s.power := rfl
@[simp] theorem State.answer_pmc (s : State) (r : Request) (p : List Byte) :
    (s.answer r p).pmc = s.pmc := rfl
@[simp] theorem State.answer_smp (s : State) (r : Request) (p : List Byte) :
    (s.answer r p).smp = s.smp := rfl
@[simp] theorem State.answer_lg (s : State) (r : Request) (p : List Byte) :
    (s.answer r p).lg = s.lg := rfl
@[simp] theorem State.answer_rt (s : State) (r : Request) (p : List Byte) :
    (s.answer r p).rt = s.rt := rfl
@[simp] theorem State.answer_du (s : State) (r : Request) (p : List Byte) :
    (s.answer r p).du = s.du := rfl
@[simp] theorem State.answer_fd (s : State) (r : Request) (p : List Byte) :
    (s.answer r p).fd = s.fd := rfl
@[simp] theorem State.answer_cm (s : State) (r : Request) (p : List Byte) :
    (s.answer r p).cm = s.cm := rfl
@[simp] theorem State.answer_ck (s : State) (r : Request) (p : List Byte) :
    (s.answer r p).ck = s.ck := rfl
@[simp] theorem State.answer_freeIndex (s : State) (r : Request) (p : List Byte) :
    (s.answer r p).freeIndex = s.freeIndex := rfl
@[simp] theorem State.answer_pending (s : State) (r : Request) (p : List Byte) :
    (s.answer r p).pending = s.pending := rfl

section
variable {s : State} {r : Request} {kind length : Nat} (inStarting : Bool)
  {owner : List Byte → State → Answered}

/-- A request of the right length that is asked after STARTING goes to its owner, is answered, and
ends its event (R180). -/
theorem takeRequest_of_asks (h : s.Asks r) (hm : s.pmc.mode ≠ .starting) (hk : r.kind.toNat = kind)
    (hl : r.payload.length = length) {q : State} {p : List Byte}
    (ho : owner r.payload s.dropRequest = (q, p)) :
    takeRequest kind length inStarting owner s = (q.answer r p).commit := by
  obtain ⟨live, empty, head, -⟩ := h
  have next : s.nextRequest = some r := by simp [State.nextRequest, live, empty, head]
  have handled : s.dropRequest.handle length inStarting owner r.payload = (q, p) := by
    simp [State.handle, hm, hl, ho]
  simp [takeRequest, next, hk, handled]

/-- A request whose owner changes no block is answered, and nothing else happens. -/
theorem takeRequest_unchanged (h : s.Asks r) (hm : s.pmc.mode ≠ .starting) (hk : r.kind.toNat = kind)
    (hl : r.payload.length = length) {p : List Byte}
    (ho : owner r.payload s.dropRequest = (s.dropRequest, p)) :
    takeRequest kind length inStarting owner s = { s with lk := s.answered r p } := by
  rw [takeRequest_of_asks inStarting h hm hk hl ho, State.commit_of_not_trigger (by exact h.2.2.2)]
  rfl

/-- A request whose owner raises no checkpoint trigger leaves what the owner leaves, answered. -/
theorem takeRequest_of_not_trigger (h : s.Asks r) (hm : s.pmc.mode ≠ .starting)
    (hk : r.kind.toNat = kind) (hl : r.payload.length = length) {q : State} {p : List Byte}
    (ho : owner r.payload s.dropRequest = (q, p)) (hq : q.ck = s.ck) :
    takeRequest kind length inStarting owner s = q.answer r p := by
  obtain ⟨-, -, -, quiet⟩ := id h
  rw [takeRequest_of_asks inStarting h hm hk hl ho,
    State.commit_of_not_trigger (by rw [State.answer_ck, hq, quiet])]

end

/-- The reply stands, and the frame has left, where nothing else has touched the receive side. -/
theorem State.answer_repliesTo {q s : State} (h : q.lk.rx = s.lk.rx.dropHead) (r : Request)
    (p : List Byte) : (q.answer r p).RepliesTo s r p :=
  ⟨h, rfl⟩

theorem zoneOperand_val (z : Zone) : zoneOperand z.val = some z := by
  simp [zoneOperand]

theorem zoneOperand_eq_none {n : Nat} (h : 4 ≤ n) : zoneOperand n = none := by
  simp [zoneOperand, h]

/-! ### Claims of the zone owners -/

@[simp] theorem State.applySets_lg (s : State) (sets : List (Owner × ClaimSet)) :
    (s.applySets sets).lg = s.lg.applySets sets := rfl

theorem State.setSlot_pmc (s : State) (z : Zone) (zs : ZoneSlot) :
    (s.setSlot z zs).pmc = { s.pmc with zones := s.pmc.zones.set z zs } := rfl

theorem State.setSlot_claimOf (s : State) (z : Zone) (zs : ZoneSlot) (o : Owner) (id : LineId) :
    (s.setSlot z zs).lg.claimOf o id
      = if o = .zoneOff z then (zoneOffClaims z zs.slot).on id else s.lg.claimOf o id := by
  simp [State.setSlot]

theorem State.endDwell_du (s : State) : s.endDwell.du = .inactive := rfl

theorem State.endDwell_claimOf (s : State) (o : Owner) (id : LineId) :
    s.endDwell.lg.claimOf o id = if o = .dwell then none else s.lg.claimOf o id := by
  simp [State.endDwell]

theorem State.dwellZoneLeaves_of_active {s : State} {z : Zone} {timer : Nat} {tags : List Nat}
    (h : s.du = .active z timer tags) : s.dwellZoneLeaves z = s.endDwell := by
  simp [State.dwellZoneLeaves, h]

theorem State.dwellZoneLeaves_of_not_active {s : State} {z : Zone}
    (h : ∀ timer tags, s.du ≠ .active z timer tags) : s.dwellZoneLeaves z = s := by
  unfold State.dwellZoneLeaves
  split
  next dz timer tags hd =>
    have : dz ≠ z := by rintro rfl; exact h _ _ hd
    rw [if_neg this]
  · rfl

/-- The claims of an owner other than DWELL stay when a zone leaves ONLINE. -/
theorem State.dwellZoneLeaves_claimOf (s : State) (z : Zone) {o : Owner} (ho : o ≠ .dwell) (id : LineId) :
    (s.dwellZoneLeaves z).lg.claimOf o id = s.lg.claimOf o id := by
  unfold State.dwellZoneLeaves
  repeat' split
  · simp [State.endDwell_claimOf, ho]
  · rfl
  · rfl

/-! ### What ZONE_ON and ZONE_OFF answer -/

section
variable {s : State} {p : List Byte} {z : Zone}

theorem zoneOnRequest_no_zone (h : 4 ≤ u8 p 0) : zoneOnRequest p s = (s, [0x12]) := by
  simp [zoneOnRequest, zoneOperand_eq_none h, refuse, resBadArg]

theorem zoneOnRequest_unconfigured (hz : u8 p 0 = z.val) (h : (s.pmc.zones.get z).slot = .unconfigured) :
    zoneOnRequest p s = (s, [0x17]) := by
  simp [zoneOnRequest, hz, zoneOperand_val, h, refuse, resWrongState]

theorem zoneOnRequest_marked (hz : u8 p 0 = z.val) (h : (s.pmc.zones.get z).slot ≠ .unconfigured)
    (hm : (s.pmc.zones.get z).marker ≠ []) : zoneOnRequest p s = (s, [0x19]) := by
  simp only [zoneOnRequest, hz, zoneOperand_val]
  cases e : (s.pmc.zones.get z).slot with
  | unconfigured => exact absurd e h
  | offline rec => simp [hm, refuse, resCaseHolds]
  | online rec => simp [hm, refuse, resCaseHolds]

theorem zoneOnRequest_online (hz : u8 p 0 = z.val) (h : (s.pmc.zones.get z).slot.isOnline = true)
    (hm : (s.pmc.zones.get z).marker = []) : zoneOnRequest p s = (s, [0x00]) := by
  simp only [zoneOnRequest, hz, zoneOperand_val]
  cases e : (s.pmc.zones.get z).slot with
  | unconfigured => simp [e, SlotState.isOnline] at h
  | offline rec => simp [e, SlotState.isOnline] at h
  | online rec => simp [hm, ok, resOk]

/-- ZONE_ON of an OFFLINE zone that no case holds: refused by the profile check, or the zone goes
ONLINE (R12). -/
theorem zoneOnRequest_offline (hz : u8 p 0 = z.val) {rec : ZoneRecord}
    (h : (s.pmc.zones.get z).slot = .offline rec) (hm : (s.pmc.zones.get z).marker = []) :
    zoneOnRequest p s
      = match zoneOnCheck z s with
        | some f => (s, [0x15, byte f.check, zoneByte f.zone])
        | none => (s.setSlot z { slot := .online rec, marker := [] }, [0x00]) := by
  simp only [zoneOnRequest, hz, zoneOperand_val, h, hm, List.isEmpty_nil]
  cases zoneOnCheck z s <;> rfl

theorem zoneOffRequest_no_zone (h : 4 ≤ u8 p 0) : zoneOffRequest p s = (s, [0x12]) := by
  simp [zoneOffRequest, zoneOperand_eq_none h, refuse, resBadArg]

theorem zoneOffRequest_unconfigured (hz : u8 p 0 = z.val)
    (h : (s.pmc.zones.get z).slot = .unconfigured) : zoneOffRequest p s = (s, [0x17]) := by
  simp [zoneOffRequest, hz, zoneOperand_val, h, refuse, resWrongState]

theorem zoneOffRequest_offline (hz : u8 p 0 = z.val) {rec : ZoneRecord}
    (h : (s.pmc.zones.get z).slot = .offline rec) : zoneOffRequest p s = (s, [0x00]) := by
  simp [zoneOffRequest, hz, zoneOperand_val, h, ok, resOk]

/-- ZONE_OFF of an ONLINE zone: the slot goes OFFLINE with its guard, and a dwell on it ends (R13). -/
theorem zoneOffRequest_online (hz : u8 p 0 = z.val) {rec : ZoneRecord}
    (h : (s.pmc.zones.get z).slot = .online rec) :
    zoneOffRequest p s
      = ((s.setSlot z { slot := .offline rec, marker := (s.pmc.zones.get z).marker }).dwellZoneLeaves z,
          [0x00]) := by
  simp [zoneOffRequest, hz, zoneOperand_val, h, ok, resOk, State.takeOff, SlotState.takenOff]

end

/-- The profile check of a ZONE_ON is run in PREPARE and RUN (R10, R12). -/
theorem zoneOnCheck_of_serving {s : State} (h : s.pmc.mode = .prepare ∨ s.pmc.mode = .run) (z : Zone) :
    zoneOnCheck z s
      = profileCheck (onlineZones s.pmc.zones (some z)) s.pmc.limits s.smp.channels := by
  obtain h | h := h <;> simp [zoneOnCheck, h]

theorem zoneOnCheck_dropRequest (z : Zone) (s : State) : zoneOnCheck z s.dropRequest = zoneOnCheck z s :=
  rfl

/-- A ZONE_ON passes in STANDBY and HALT, and where the profile check passes (R12). -/
theorem zoneOnCheck_eq_none {s : State} {z : Zone}
    (h : s.pmc.mode = .standby ∨ s.pmc.mode = .halt
      ∨ profileCheck (onlineZones s.pmc.zones (some z)) s.pmc.limits s.smp.channels = none) :
    zoneOnCheck z s = none := by
  unfold zoneOnCheck
  split <;> simp_all

/-! ### ZONE_ON and ZONE_OFF as events -/

theorem exec_zoneOn (s : State) : exec .zoneOn s = .next (takeRequest 0x07 1 false zoneOnRequest s) := rfl

theorem exec_zoneOff (s : State) : exec .zoneOff s = .next (takeRequest 0x08 1 false zoneOffRequest s) :=
  rfl

section
variable {s : State} {r : Request} {b : Byte} {z : Zone}

/-- A zone put ONLINE loses its ZONE_OFF guard; its record stays, and nothing else is touched (R12,
R52). -/
theorem zoneOn_puts_online (ha : s.Asks r) (hp : r.payload = [b]) (hm : s.pmc.mode ≠ .starting)
    (hk : r.kind = 0x07) (hz : b.toNat = z.val) {rec : ZoneRecord}
    (h : (s.pmc.zones.get z).slot = .offline rec) (hn : (s.pmc.zones.get z).marker = [])
    (hc : zoneOnCheck z s = none) :
    ∃ t, exec .zoneOn s = .next t ∧ t.RepliesTo s r [0x00]
      ∧ t.pmc = { s.pmc with zones := s.pmc.zones.set z { slot := .online rec, marker := [] } }
      ∧ (∀ id, t.lg.claimOf (.zoneOff z) id = none)
      ∧ (∀ o id, o ≠ .zoneOff z → t.lg.claimOf o id = s.lg.claimOf o id)
      ∧ t.smp = s.smp ∧ t.rt = s.rt ∧ t.du = s.du ∧ t.cm = s.cm ∧ t.ck = s.ck ∧ t.SameOutside s := by
  have owner : zoneOnRequest r.payload s.dropRequest
      = (s.dropRequest.setSlot z { slot := .online rec, marker := [] }, [0x00]) := by
    rw [hp, zoneOnRequest_offline (s := s.dropRequest) (p := [b]) hz h hn, zoneOnCheck_dropRequest, hc]
  have taken := takeRequest_of_not_trigger (kind := 0x07) (length := 1) false ha hm (by simp [hk])
    (by simp [hp]) owner (by simp)
  have executed := (exec_zoneOn s).trans (congrArg Host.Outcome.next taken)
  refine ⟨_, executed, State.answer_repliesTo rfl r _, rfl, fun id => ?_, fun o id ho => ?_, rfl,
    rfl, rfl, rfl, rfl, rfl, rfl, rfl⟩
  · simp [State.setSlot_claimOf, zoneOffClaims, SlotState.isOnline]
  · simp [State.setSlot_claimOf, ho]

/-- A zone taken out of service takes its ZONE_OFF guard, and a dwell on it ends; record and marker stay
(R13, R52, R97). -/
theorem zoneOff_takes_off (ha : s.Asks r) (hp : r.payload = [b]) (hm : s.pmc.mode ≠ .starting)
    (hk : r.kind = 0x08) (hz : b.toNat = z.val) {rec : ZoneRecord}
    (h : (s.pmc.zones.get z).slot = .online rec) :
    ∃ t, exec .zoneOff s = .next t ∧ t.RepliesTo s r [0x00]
      ∧ t.pmc =
          { s.pmc with
            zones := s.pmc.zones.set z
              { slot := .offline rec, marker := (s.pmc.zones.get z).marker } }
      ∧ (∀ id, t.lg.claimOf (.zoneOff z) id
          = if id = .heatA z ∨ id = .heatB z ∨ id = .pump z ∨ id = .fill z then some .block else none)
      ∧ (∀ o id, o ≠ .zoneOff z → o ≠ .dwell → t.lg.claimOf o id = s.lg.claimOf o id)
      ∧ (∀ timer tags, s.du = .active z timer tags →
          t.du = .inactive ∧ ∀ id, t.lg.claimOf .dwell id = none)
      ∧ ((∀ timer tags, s.du ≠ .active z timer tags) →
          t.du = s.du ∧ ∀ id, t.lg.claimOf .dwell id = s.lg.claimOf .dwell id)
      ∧ t.smp = s.smp ∧ t.rt = s.rt ∧ t.cm = s.cm ∧ t.ck = s.ck ∧ t.SameOutside s := by
  have owner := zoneOffRequest_online (s := s.dropRequest) (p := r.payload) (by rw [hp]; exact hz) h
  have taken := takeRequest_of_not_trigger (kind := 0x08) (length := 1) false ha hm (by simp [hk])
    (by simp [hp]) owner (by simp)
  have executed := (exec_zoneOff s).trans (congrArg Host.Outcome.next taken)
  refine ⟨_, executed, State.answer_repliesTo (by simp [State.dropRequest]) r _, ?_, fun id => ?_,
    fun o id ho hd => ?_, fun timer tags hd => ?_, fun hd => ?_, ?_⟩
  · simp [State.setSlot_pmc]
  · simp [State.dwellZoneLeaves_claimOf, State.setSlot_claimOf, zoneOffClaims_on, SlotState.isOnline]
  · simp [State.dwellZoneLeaves_claimOf _ _ hd, State.setSlot_claimOf, ho]
  · rw [State.dwellZoneLeaves_of_active (timer := timer) (tags := tags) (by simpa using hd)]
    simp [State.endDwell_du, State.endDwell_claimOf]
  · rw [State.dwellZoneLeaves_of_not_active (by simpa using hd)]
    simp [State.setSlot_claimOf]
  · simp [State.SameOutside]

end

/-- Settles O60: each row is the owner's answer to it; the refusals change nothing but the link. -/
theorem zonesChangeService : Obligations.ZonesChangeService := by
  unfold Obligations.ZonesChangeService
  intro s r b ha hp hm
  have length : r.payload.length = 1 := by simp [hp]
  refine ⟨fun hk hb => ?_, fun z hz => ⟨fun hk => ?_, fun hk => ?_⟩⟩
  · split
    next hk =>
      rw [exec_zoneOn, takeRequest_unchanged false ha hm (by simp [hk]) length
        (by rw [hp]; exact zoneOnRequest_no_zone hb)]
    next hn =>
      have hk : r.kind = 0x08 := hk.resolve_left hn
      rw [exec_zoneOff, takeRequest_unchanged false ha hm (by simp [hk]) length
        (by rw [hp]; exact zoneOffRequest_no_zone hb)]
  · have refused : ∀ {p}, zoneOnRequest [b] s.dropRequest = (s.dropRequest, p) →
        exec .zoneOn s = .next { s with lk := s.answered r p } := fun ho => by
      rw [exec_zoneOn, takeRequest_unchanged false ha hm (by simp [hk]) length (by rw [hp]; exact ho)]
    refine ⟨fun h => refused (zoneOnRequest_unconfigured hz h),
      fun h hn => refused (zoneOnRequest_marked hz h hn),
      fun h hn => refused (zoneOnRequest_online hz h hn), fun rec h hn => ⟨fun f hs hf => ?_, fun hc => ?_⟩⟩
    · apply refused
      rw [zoneOnRequest_offline (s := s.dropRequest) (p := [b]) hz h hn, zoneOnCheck_dropRequest,
        zoneOnCheck_of_serving hs, hf]
    · exact zoneOn_puts_online ha hp hm hk hz h hn (zoneOnCheck_eq_none hc)
  · have refused : ∀ {p}, zoneOffRequest [b] s.dropRequest = (s.dropRequest, p) →
        exec .zoneOff s = .next { s with lk := s.answered r p } := fun ho => by
      rw [exec_zoneOff, takeRequest_unchanged false ha hm (by simp [hk]) length (by rw [hp]; exact ho)]
    exact ⟨fun h => refused (zoneOffRequest_unconfigured hz h),
      fun rec h => refused (zoneOffRequest_offline hz h),
      fun rec h => zoneOff_takes_off ha hp hm hk hz h⟩

end Sys2Proof.Machine
end

section
/-! PROOF. The flush of the transit queue and its drain (R73, R75), a mode change with its effects
and the write it starts (R15, R22, R162, R163), and HALT_CLEAR (R21). -/

namespace Sys2Proof.Machine

/-! ### The drain -/

/-- The drain moves records from the head of the transit queue to the outcome queue: none is lost or
reordered (R73). -/
theorem drainScan_tags (room : Nat) (q : List Rack) :
    noticeTags (drainScan room q).2 ++ tagsOf (drainScan room q).1 = tagsOf q := by
  induction room generalizing q with
  | zero => simp [drainScan, noticeTags]
  | succ room ih =>
    cases q with
    | nil => rfl
    | cons r rs =>
      simp only [drainScan]
      split
      · have := ih rs
        simp only [noticeTags, tagsOf] at this ⊢
        simp [this, Rack.notice]
      · simp [noticeTags]

theorem mem_of_mem_drainScan {room : Nat} {q : List Rack} {x : Rack} (h : x ∈ (drainScan room q).1) :
    x ∈ q := by
  induction room generalizing q with
  | zero => exact h
  | succ room ih =>
    cases q with
    | nil => exact h
    | cons r rs =>
      simp only [drainScan] at h
      split at h
      · exact List.mem_cons_of_mem r (ih h)
      · exact h

/-- A record that the drain takes leaves as the notice of its outcome; any other stays (R72, R73). -/
theorem drainScan_delivers (room : Nat) {q : List Rack} {x : Rack} (h : x ∈ q) :
    x ∈ (drainScan room q).1 ∨ ∃ o, x.outcome = some o ∧ x.notice o ∈ (drainScan room q).2 := by
  induction room generalizing q with
  | zero => exact .inl h
  | succ room ih =>
    cases q with
    | nil => exact .inl h
    | cons r rs =>
      simp only [drainScan]
      split
      next o _ ho =>
        obtain rfl | h := List.mem_cons.mp h
        · exact .inr ⟨o, ho, List.mem_cons_self ..⟩
        · obtain hl | ⟨o', ho', hn⟩ := ih h
          · exact .inl hl
          · exact .inr ⟨o', ho', List.mem_cons_of_mem _ hn⟩
      · exact .inl h

/-- What a drain step has taken from the transit queue and given to the outcome queue (R73). -/
def State.drained (s : State) : List Rack × List OutcomeNotice :=
  drainScan (queuePlaces - s.lk.outcomes.length) s.rt.queue

theorem State.drainRacks_rt (s : State) : s.drainRacks.rt = { s.rt with queue := s.drained.1 } := by
  simp only [State.drainRacks]
  split <;> rfl

theorem State.drainRacks_lk (s : State) :
    s.drainRacks.lk = { s.lk with outcomes := s.lk.outcomes ++ s.drained.2 } := by
  simp only [State.drainRacks]
  split <;> rfl

theorem State.drainRacks_ck (s : State) : ∃ b, s.drainRacks.ck = { s.ck with trigger := b } := by
  simp only [State.drainRacks]
  split
  · exact ⟨s.ck.trigger, rfl⟩
  · exact ⟨true, rfl⟩

/-! ### The flush -/

/-- The transit queue with the accounts closed for a reason (R75). -/
def State.flushedQueue (s : State) (reason : FlushReason) : List Rack :=
  s.rt.queue.map (Rack.flushed reason s.smp.travel s.contactRequired s.pmc.limits.doseRequired)

/-- The reason of a flush stands among the reasons of an outcome (R71). -/
def Reasons.ofFlush (r : Reasons) : FlushReason → Bool
  | .standbyFlush => r.standbyFlush
  | .haltFlush => r.haltFlush

section
variable (reason : FlushReason) (travel : Word32) (required : Four Nat) (dose : Nat) (x : Rack)

theorem Rack.flushed_of_exited (h : x.exited = true) :
    x.flushed reason travel required dose = x := by
  simp [Rack.flushed, h]

@[simp] theorem Rack.flushed_tag : (x.flushed reason travel required dose).tag = x.tag := by
  unfold Rack.flushed
  split <;> rfl

@[simp] theorem Rack.flushed_exited : (x.flushed reason travel required dose).exited = true := by
  unfold Rack.flushed
  split
  · assumption
  · rfl

/-- A record still inside is flushed with the reason, and held; a HOLD it had keeps its cause (R75,
R70, R71). -/
theorem Rack.flushed_of_inside (h : x.exited = false) :
    let y := x.flushed reason travel required dose
    y.flush = some reason ∧ y.hold = some (x.hold.getD .byFlush)
      ∧ ∃ o, y.outcome = some o ∧ o.disposition = .hold ∧ o.reasons.ofFlush reason = true := by
  cases reason <;> simp [Rack.flushed, h, Rack.exit, Rack.judge, Reasons.ofFlush]

end

theorem State.flush_rt_queue (s : State) (reason : FlushReason) :
    (s.flush reason).rt.queue
      = (drainScan (queuePlaces - s.lk.outcomes.length) (s.flushedQueue reason)).1 := by
  simp [State.flush, State.drainRacks_rt, State.drained, State.flushedQueue]

theorem State.flush_lk (s : State) (reason : FlushReason) :
    (s.flush reason).lk
      = { s.lk with
          outcomes := s.lk.outcomes
            ++ (drainScan (queuePlaces - s.lk.outcomes.length) (s.flushedQueue reason)).2 } := by
  simp [State.flush, State.drainRacks_lk, State.drained, State.flushedQueue]

theorem State.flush_ck (s : State) (reason : FlushReason) :
    ∃ b, (s.flush reason).ck = { s.ck with trigger := b } :=
  State.drainRacks_ck _

/-- A flush loses and reorders no rack (R73, R75). -/
theorem State.flush_tags (s : State) (reason : FlushReason) :
    noticeTags (s.flush reason).lk.outcomes ++ tagsOf (s.flush reason).rt.queue
      = noticeTags s.lk.outcomes ++ tagsOf s.rt.queue := by
  have kept : tagsOf (s.flushedQueue reason) = tagsOf s.rt.queue := by
    simp [tagsOf, State.flushedQueue, Function.comp_def]
  rw [State.flush_rt_queue, State.flush_lk, ← kept,
    ← drainScan_tags (queuePlaces - s.lk.outcomes.length) (s.flushedQueue reason)]
  simp [noticeTags]

/-- Every record a flush leaves in the transit queue is EXITED (R75). -/
theorem State.flush_exited (s : State) (reason : FlushReason) {x : Rack}
    (h : x ∈ (s.flush reason).rt.queue) : x.exited = true := by
  rw [State.flush_rt_queue] at h
  obtain ⟨y, -, rfl⟩ := List.mem_map.mp (mem_of_mem_drainScan h)
  simp

/-- Where a rack of outcome `o` is after an event: in the transit queue still, or as a notice in the
outcome queue. -/
def State.HasRack (t : State) (y : Rack) (o : Outcome) : Prop :=
  y ∈ t.rt.queue ∨ y.notice o ∈ t.lk.outcomes

/-- An EXITED record passes a flush as it is (R75). -/
theorem State.flush_keeps_exited (s : State) (reason : FlushReason) {x : Rack} (h : x ∈ s.rt.queue)
    (hx : x.exited = true) :
    x ∈ (s.flush reason).rt.queue
      ∨ ∃ o, x.outcome = some o ∧ x.notice o ∈ (s.flush reason).lk.outcomes := by
  have mem : x ∈ s.flushedQueue reason :=
    List.mem_map.mpr ⟨x, h, Rack.flushed_of_exited _ _ _ _ _ hx⟩
  rw [State.flush_rt_queue, State.flush_lk]
  obtain hq | ⟨o, ho, hn⟩ := drainScan_delivers (queuePlaces - s.lk.outcomes.length) mem
  · exact .inl hq
  · exact .inr ⟨o, ho, List.mem_append_right _ hn⟩

/-- A record still inside is EXITED by a flush with HOLD, the HOLD's cause kept, and the reason (R75). -/
theorem State.flush_holds_inside (s : State) (reason : FlushReason) {x : Rack} (h : x ∈ s.rt.queue)
    (hx : x.exited = false) :
    ∃ y : Rack, y.tag = x.tag ∧ y.exited = true ∧ y.flush = some reason
      ∧ y.hold = some (x.hold.getD .byFlush)
      ∧ ∃ o, y.outcome = some o ∧ o.disposition = .hold ∧ o.reasons.ofFlush reason = true
          ∧ (s.flush reason).HasRack y o := by
  let y := x.flushed reason s.smp.travel s.contactRequired s.pmc.limits.doseRequired
  have mem : y ∈ s.flushedQueue reason := List.mem_map.mpr ⟨x, h, rfl⟩
  obtain ⟨hf, hh, o, ho, hd, hr⟩ := Rack.flushed_of_inside reason s.smp.travel s.contactRequired
    s.pmc.limits.doseRequired x hx
  refine ⟨y, Rack.flushed_tag .., Rack.flushed_exited .., hf, hh, o, ho, hd, hr, ?_⟩
  rw [State.HasRack, State.flush_rt_queue, State.flush_lk]
  obtain hq | ⟨o', ho', hn⟩ := drainScan_delivers (queuePlaces - s.lk.outcomes.length) mem
  · exact .inl hq
  · obtain rfl : o = o' := Option.some.inj (ho.symm.trans ho')
    exact .inr (List.mem_append_right _ hn)

/-! ### Suspension -/

/-- Two states that differ, beside the cases, in what suspending and announcing cases changes (R124,
R131): notices that have joined the event queue, the checkpoint trigger where it did not stand,
claims of cases. -/
structure State.OnlyCases (t s : State) : Prop where
  lk : ∃ more, t.lk = { s.lk with events := s.lk.events ++ more }
  ck : s.ck.trigger = true → t.ck = s.ck
  claims : ∀ o id, (∀ n, o ≠ .ofCase n) → t.lg.claimOf o id = s.lg.claimOf o id

theorem State.OnlyCases.refl (s : State) : s.OnlyCases s :=
  ⟨⟨[], by simp⟩, fun _ => rfl, fun _ _ _ => rfl⟩

theorem State.OnlyCases.trans {u t s : State} (hu : u.OnlyCases t) (ht : t.OnlyCases s) :
    u.OnlyCases s := by
  obtain ⟨more, hm⟩ := ht.lk
  obtain ⟨more', hm'⟩ := hu.lk
  refine ⟨⟨more ++ more', by simp [hm', hm]⟩, fun h => ?_, fun o id ho => ?_⟩
  · have same := ht.ck h
    rw [hu.ck (by rw [same, h]), same]
  · rw [hu.claims o id ho, ht.claims o id ho]

theorem State.announceCase_onlyCases (s : State) (c : Case) : (s.announceCase c).OnlyCases s := by
  refine ⟨?_, fun h => ?_, fun o id _ => by simp⟩
  · unfold State.announceCase State.serveCase
    simp only
    repeat' split
    · exact ⟨[.ofCase { c with announce := false }], rfl⟩
    · exact ⟨[.ofCase { c with announce := false }], rfl⟩
    · exact ⟨[], by simp⟩
  · unfold State.announceCase State.serveCase
    simp only
    repeat' split
    · simp [State.trigger, State.setCk, ← h]
    · rfl
    · rfl

theorem State.suspendOrResume_onlyCases (s : State) (id : Nat) : (s.suspendOrResume id).OnlyCases s := by
  unfold State.suspendOrResume
  split
  · exact .refl s
  next c _ =>
    simp only
    split
    · exact .refl s
    · refine (State.announceCase_onlyCases _ _).trans ⟨⟨[], by simp⟩, fun _ => rfl, fun o l ho => ?_⟩
      simp [ho id]

theorem State.evaluateSuspension_onlyCases (s : State) : s.evaluateSuspension.OnlyCases s := by
  unfold State.evaluateSuspension
  generalize s.cm.table.map (·.id) = ids
  induction ids generalizing s with
  | nil => exact .refl s
  | cons id ids ih => exact (ih _).trans (s.suspendOrResume_onlyCases id)

/-! ### Entering a mode -/

section
variable (s : State) (m : Mode) (cause : HaltCause)

theorem State.enterMode_du :
    (s.enterMode m cause).du = if s.pmc.mode = .run then .inactive else s.du := by
  simp only [State.enterMode, State.trigger_du, State.announceMode_du, State.applySets_du]
  split <;> rfl

theorem State.enterMode_ck : (s.enterMode m cause).ck = { s.ck with trigger := true } := by
  simp only [State.enterMode, State.trigger, State.setCk_ck, State.announceMode_ck, State.applySets_ck]
  split <;> rfl

theorem State.enterMode_lk :
    (s.enterMode m cause).lk
      = if s.lk.eventRoom then { s.lk.pushEvent (.mode m cause) with modeFlag := false }
        else { s.lk with modeFlag := true } := by
  simp only [State.enterMode, State.trigger_lk, State.announceMode, State.modeNotice]
  by_cases h : s.pmc.mode = .run <;> simp [h] <;> split <;> rfl

theorem State.enterMode_claimOf_mode (id : LineId) :
    (s.enterMode m cause).lg.claimOf .mode id = (modeClaims m).on id := by
  simp only [State.enterMode, State.trigger_lg, State.announceMode_lg, State.applySets_lg]
  split <;> simp

end

/-! ### A mode change -/

/-- What a mode change has made before the Checkpoint Store takes its trigger (R15, R22). -/
structure State.ModeEntered (t s : State) (m : Mode) (cause : HaltCause) : Prop where
  pmc : t.pmc = { s.pmc with mode := m, haltCause := cause }
  claims : ∀ id, t.lg.claimOf .mode id =
    if m = .starting ∨ m = .halt ∨ (m ≠ .run ∧ id = .conveyor) then some .block else none
  du : t.du = if s.pmc.mode = .run then .inactive else s.du
  noticed : s.lk.events.length < queuePlaces → EventNotice.mode m cause ∈ t.lk.events
  flagged : queuePlaces ≤ s.lk.events.length → t.lk.modeFlag = true
  ck : t.ck = { s.ck with trigger := true }
  smp : t.smp = s.smp
  outside : t.SameOutside s

/-- Where an event has come from `s` to before a mode change: it has done nothing but to the racks,
the outcome queue, the frame and reply of the request, lines and detectors, and it may have raised
its trigger. -/
structure State.BeforeMode (q s : State) : Prop where
  pmc : q.pmc = s.pmc
  du : q.du = s.du
  events : q.lk.events = s.lk.events
  ck : ∃ b, q.ck = { s.ck with trigger := b }
  smp : q.smp = s.smp
  outside : q.SameOutside s

theorem State.dropRequest_beforeMode (s : State) : s.dropRequest.BeforeMode s :=
  ⟨rfl, rfl, rfl, ⟨s.ck.trigger, rfl⟩, rfl, rfl, rfl, rfl⟩

theorem State.flush_beforeMode (s : State) (reason : FlushReason) :
    (s.dropRequest.flush reason).BeforeMode s :=
  ⟨by simp, by simp, by rw [State.flush_lk]; rfl, s.dropRequest.flush_ck reason, by simp,
    by simp [State.SameOutside]⟩

/-- The receive side and the outcome queue pass a mode change (R22). -/
theorem State.changeMode_lk (s : State) (m : Mode) (cause : HaltCause) :
    (s.changeMode m cause).lk.rx = s.lk.rx ∧ (s.changeMode m cause).lk.outcomes = s.lk.outcomes := by
  obtain ⟨more, h⟩ := (s.enterMode m cause).evaluateSuspension_onlyCases.lk
  rw [State.changeMode, h, State.enterMode_lk]
  split <;> exact ⟨rfl, rfl⟩

theorem State.changeMode_modeEntered {q s : State} (h : q.BeforeMode s) (m : Mode) (cause : HaltCause) :
    (q.changeMode m cause).ModeEntered s m cause := by
  have cases := (q.enterMode m cause).evaluateSuspension_onlyCases
  obtain ⟨more, lk⟩ := cases.lk
  obtain ⟨b, ck⟩ := h.ck
  have triggered : (q.enterMode m cause).ck = { s.ck with trigger := true } := by
    rw [State.enterMode_ck, ck]
  refine
    { pmc := by simp [State.changeMode, h.pmc]
      claims := fun id => ?_
      du := by simp [State.changeMode, State.enterMode_du, h.pmc, h.du]
      noticed := fun room => ?_
      flagged := fun full => ?_
      ck := by rw [State.changeMode, cases.ck (by rw [triggered]), triggered]
      smp := by simp [h.smp]
      outside := by simpa [State.SameOutside] using h.outside }
  · rw [State.changeMode, cases.claims _ _ (by simp), State.enterMode_claimOf_mode, modeClaims_on]
  · have room : q.lk.eventRoom = true := by simpa [Lk.eventRoom, h.events] using room
    simp [State.changeMode, lk, State.enterMode_lk, room, Lk.pushEvent]
  · have full : q.lk.eventRoom = false := by simpa [Lk.eventRoom, h.events] using full
    simp [State.changeMode, lk, State.enterMode_lk, full]

theorem State.ModeEntered.answer {t s : State} {m : Mode} {cause : HaltCause}
    (h : t.ModeEntered s m cause) (r : Request) (p : List Byte) :
    (t.answer r p).ModeEntered s m cause :=
  ⟨h.pmc, h.claims, h.du, h.noticed, h.flagged, h.ck, h.smp, h.outside⟩

/-! ### The write that a mode change starts -/

/-- The slot `k` places after the one that follows a slot, counting round; from slot 0 on where
there is none (R163). -/
def slotFrom (after : Option (Fin 4)) (k : Nat) : Fin 4 :=
  Fin.ofNat 4 ((match after with
    | none => 0
    | some a => a.val + 1) + k)

theorem slotsAfter_eq (after : Option (Fin 4)) : slotsAfter after = (List.range 4).map (slotFrom after) := by
  cases after with
  | none => rfl
  | some a => fin_cases a <;> rfl

theorem nextGood_iff {after : Option (Fin 4)} {bad : ZoneSet} {target : Fin 4} :
    NextGood after bad target ↔
      bad.get target = false
        ∧ ∃ k, k < 4 ∧ target = slotFrom after k ∧ ∀ j, j < k → bad.get (slotFrom after j) = true :=
  Iff.rfl

/-- The target of a write is the first GOOD slot after the current one (R163, R165). -/
theorem targetAfter_of_nextGood {after : Option (Fin 4)} {bad : ZoneSet} {target : Fin 4}
    (h : NextGood after bad target) : targetAfter after bad = some target := by
  obtain ⟨good, k, hk, rfl, earlier⟩ := nextGood_iff.mp h
  rw [targetAfter, slotsAfter_eq, List.find?_eq_some_iff_getElem]
  refine ⟨by simp [good], k, by simpa using hk, by simp, fun j hj => ?_⟩
  simp [earlier j hj]

theorem State.snapshot_commit (s : State) (generation : Nat) :
    s.commit.snapshot generation = s.snapshot generation := by
  simp [State.snapshot, State.onlineMask]

/-- A trigger taken while a write is in flight waits (R162). -/
theorem State.commit_write_pending {s : State} (ht : s.ck.trigger = true) (hon : s.ck.state = .on)
    (hw : s.ck.write ≠ .idle) : s.commit.ck.pending = true := by
  unfold State.commit
  cases e : s.ck.write with
  | idle => exact absurd e hw
  | busy stage snapshot target => simp [ht, hon, e]

/-- A trigger taken with no write in flight starts one, of the state as it stands, where a slot is
GOOD (R162, R163). -/
theorem State.commit_write {s : State} (ht : s.ck.trigger = true) (hon : s.ck.state = .on)
    (hw : s.ck.write = .idle) {target : Fin 4} (hg : targetAfter s.ck.current s.ck.bad = some target) :
    s.commit.ck.write = .busy .erasing (s.snapshot s.ck.nextGeneration) target
      ∧ s.commit.ck.nextGeneration = s.ck.nextGeneration + 1 := by
  simp [State.commit, ht, hon, hw, State.startWrite, hg, Ck.startErase, State.snapshot, State.onlineMask]

/-- A mode change whose event is over has its trigger taken (R22, R162). -/
theorem State.ModeEntered.commit {t s : State} {m : Mode} {cause : HaltCause}
    (h : t.ModeEntered s m cause) : t.commit.ModeChanged s m cause := by
  have trigger : t.ck.trigger = true := by rw [h.ck]
  have write : ∀ target, s.ck.state = .on → s.ck.write = .idle →
      targetAfter s.ck.current s.ck.bad = some target →
      t.commit.ck.write = .busy .erasing (t.commit.snapshot s.ck.nextGeneration) target
        ∧ t.commit.ck.nextGeneration = s.ck.nextGeneration + 1 := by
    intro target on idle good
    have := State.commit_write (s := t) trigger (by rw [h.ck, on]) (by rw [h.ck, idle])
      (by rw [h.ck, good])
    rw [h.ck] at this
    rwa [State.snapshot_commit]
  refine ⟨by simp [h.pmc], by simpa using h.claims, by simp [h.du], by simpa using h.noticed,
    by simpa using h.flagged, fun on busy => ?_, fun on idle some_good => ?_,
    fun target on idle next => write target on idle (targetAfter_of_nextGood next), by simp [h.smp],
    by simpa [State.SameOutside] using h.outside⟩
  · exact State.commit_write_pending trigger (by rw [h.ck, on]) (by rw [h.ck]; exact busy)
  · obtain ⟨target, good⟩ := Option.isSome_iff_exists.mp some_good
    exact ⟨_, target, (write target on idle good).1, by simp [State.snapshot, h.pmc]⟩

/-! ### A request that changes the mode -/

section
variable {s u : State} {r : Request} {m : Mode} {cause : HaltCause}

/-- A request whose owner has changed the mode is answered OK, and the change is whole when its
event is over: what else the owner did stands (R180, R22). -/
theorem takeRequest_modeChanged {kind length : Nat} (inStarting : Bool)
    {owner : List Byte → State → Answered} (h : s.Asks r) (hm : s.pmc.mode ≠ .starting)
    (hk : r.kind.toNat = kind) (hl : r.payload.length = length)
    (ho : owner r.payload s.dropRequest = (u, [0x00])) (hu : u.ModeEntered s m cause)
    (hrx : u.lk.rx = s.lk.rx.dropHead) :
    ∃ t, takeRequest kind length inStarting owner s = t ∧ t.RepliesTo s r [0x00]
      ∧ t.ModeChanged s m cause ∧ t.rt = u.rt ∧ t.lk.outcomes = u.lk.outcomes := by
  refine ⟨_, takeRequest_of_asks inStarting h hm hk hl ho, ?_, (hu.answer r _).commit, by simp, ?_⟩
  · simpa [State.RepliesTo] using State.answer_repliesTo hrx r [0x00]
  · simp [State.answer]

end

/-! ### HALT_CLEAR -/

theorem exec_haltClear (s : State) :
    exec .haltClear s = .next (takeRequest 0x0F 0 false haltClearRequest s) := rfl

theorem haltClearRequest_refused {s : State} (h : s.pmc.mode ≠ .halt) (p : List Byte) :
    haltClearRequest p s = (s, [0x13]) := by
  unfold haltClearRequest
  split
  · contradiction
  · rfl

theorem haltClearRequest_of_halt {s : State} (h : s.pmc.mode = .halt) (p : List Byte) :
    haltClearRequest p s = ((s.flush .haltFlush).changeMode .standby .none, [0x00]) := by
  simp [haltClearRequest, h, ok, resOk]

/-- Settles O33: the flush, then the mode change, whose trigger is taken once the request is answered. -/
theorem haltClearFlushes : Obligations.HaltClearFlushes := by
  unfold Obligations.HaltClearFlushes
  intro s r ha hk hp
  have length : r.payload.length = 0 := by simp [hp]
  refine ⟨fun hn hm => ?_, fun hh => ?_⟩
  · rw [exec_haltClear, takeRequest_unchanged false ha hm (by simp [hk]) length
      (haltClearRequest_refused (s := s.dropRequest) hn _)]
  · have entered := State.changeMode_modeEntered (s.flush_beforeMode .haltFlush) .standby .none
    obtain ⟨rx, outcomes⟩ := (s.dropRequest.flush .haltFlush).changeMode_lk .standby .none
    obtain ⟨t, ht, reply, changed, rt, out⟩ :=
      takeRequest_modeChanged (kind := 0x0F) (length := 0) false ha (by simp [hh]) (by simp [hk]) length
        (haltClearRequest_of_halt (s := s.dropRequest) hh _) entered (by rw [rx, State.flush_lk]; rfl)
    rw [State.changeMode_rt] at rt
    rw [outcomes] at out
    obtain ⟨pmc, claims, -, -, -, -, -, -, smp, outside⟩ := changed
    refine ⟨t, by rw [exec_haltClear, ht], reply, pmc, smp, ?_, fun x hx => ?_, fun x hx inside => ?_, ?_, outside⟩
    · rw [rt, out]
      exact s.dropRequest.flush_tags .haltFlush
    · exact State.flush_exited _ _ (by rwa [rt] at hx)
    · obtain ⟨y, tag, exited, flush, hold, o, ho, hd, hr, has⟩ :=
        s.dropRequest.flush_holds_inside .haltFlush hx inside
      exact ⟨y, tag, exited, flush, hold, o, ho, hd, hr, by rw [rt, out]; exact has⟩
    · simpa using claims

end Sys2Proof.Machine
end

section
/-! PROOF. The profile check (R10, R11): the zones it takes, each of its rows, and that it reports
the first row that fails. -/

namespace Sys2Proof.Machine

/-! ### The zones that the check takes -/

/-- What zone z contributes to the online zones (R10). -/
def onlineEntry (zones : Four ZoneSlot) (also : Option Zone) (z : Zone) : Option (Zone × ZoneRecord) :=
  match (zones.get z).slot with
  | .online r => some (z, r)
  | .offline r => if also = some z then some (z, r) else none
  | .unconfigured => none

theorem onlineZones_eq (zones : Four ZoneSlot) (also : Option Zone) :
    onlineZones zones also = Four.indices.filterMap (onlineEntry zones also) := rfl

theorem onlineEntry_eq_some {zones : Four ZoneSlot} {also : Option Zone} {z z' : Zone} {rec : ZoneRecord} :
    onlineEntry zones also z = some (z', rec) ↔
      z = z' ∧ ((zones.get z).slot = .online rec ∨ ((zones.get z).slot = .offline rec ∧ also = some z)) := by
  unfold onlineEntry
  cases (zones.get z).slot with
  | unconfigured => simp
  | online r => simp
  | offline r => by_cases h : also = some z <;> simp [h]

theorem Four.mem_indices (z : Fin 4) : z ∈ Four.indices := by
  fin_cases z <;> decide

/-- The check takes the ONLINE zones, and one to be put ONLINE (R10). -/
theorem mem_onlineZones (zones : Four ZoneSlot) (also : Option Zone) (z : Zone) (rec : ZoneRecord) :
    (z, rec) ∈ onlineZones zones also ↔
      (zones.get z).slot = .online rec ∨ ((zones.get z).slot = .offline rec ∧ also = some z) := by
  simp only [onlineZones_eq, List.mem_filterMap, onlineEntry_eq_some]
  constructor
  · rintro ⟨_, -, rfl, h⟩
    exact h
  · intro h
    exact ⟨z, Four.mem_indices z, rfl, h⟩

/-- The check takes its zones in ascending order (R10). -/
theorem onlineZones_pairwise (zones : Four ZoneSlot) (also : Option Zone) :
    (onlineZones zones also).Pairwise (fun a b => a.1 < b.1) := by
  have ascending : Four.indices.Pairwise (· < ·) := by decide
  refine ascending.filterMap _ fun a a' lt ⟨z, r⟩ h ⟨z', r'⟩ h' => ?_
  obtain ⟨rfl, -⟩ := onlineEntry_eq_some.mp h
  obtain ⟨rfl, -⟩ := onlineEntry_eq_some.mp h'
  exact lt

/-! ### The lowest-numbered zone of a check -/

theorem not_lowestBad_nil (bad : Nat → Prop) (named : Option Zone) : ¬LowestBad [] bad named := by
  simp [LowestBad]

theorem lowestBad_cons (e : Zone × ZoneRecord) (zones : OnlineZones) (bad : Nat → Prop)
    (named : Option Zone) :
    LowestBad (e :: zones) bad named ↔
      (bad 0 ∧ named = some e.1) ∨ (¬bad 0 ∧ LowestBad zones (fun i => bad (i + 1)) named) := by
  constructor
  · rintro ⟨i, e', hi, hn, hb, first⟩
    cases i with
    | zero => exact .inl ⟨hb, by simp_all⟩
    | succ i =>
      exact .inr ⟨first 0 (by omega), i, e', hi, hn, hb, fun j hj => first (j + 1) (by omega)⟩
  · rintro (⟨hb, hn⟩ | ⟨h0, i, e', hi, hn, hb, first⟩)
    · exact ⟨0, e, rfl, hn, hb, fun j hj => absurd hj (by omega)⟩
    · refine ⟨i + 1, e', hi, hn, hb, fun j hj => ?_⟩
      cases j with
      | zero => exact h0
      | succ j => exact first j (by omega)

theorem lowestBad_congr {zones : OnlineZones} {bad bad' : Nat → Prop} (h : ∀ i, bad i ↔ bad' i)
    (named : Option Zone) : LowestBad zones bad named ↔ LowestBad zones bad' named := by
  rw [funext fun i => propext (h i)]

/-- `found` is the lowest-numbered zone at a bad place, or none where no place is bad. -/
def FindsLowest (found : Option Zone) (zones : OnlineZones) (bad : Nat → Prop) : Prop :=
  ∀ named, LowestBad zones bad named ↔ ∃ z, found = some z ∧ named = some z

theorem findsLowest_nil (bad : Nat → Prop) : FindsLowest none [] bad := by
  simp [FindsLowest, not_lowestBad_nil]

/-- A search that tries the first zone and then the rest finds the lowest-numbered. -/
theorem FindsLowest.cons {found : Option Zone} {zones : OnlineZones} {bad : Nat → Prop}
    (h : FindsLowest found zones fun i => bad (i + 1)) (e : Zone × ZoneRecord) {first : Bool}
    (hf : bad 0 ↔ first = true) : FindsLowest (if first then some e.1 else found) (e :: zones) bad := by
  intro named
  rw [lowestBad_cons, hf, h named]
  cases first <;> simp

theorem FindsLowest.congr {found : Option Zone} {zones : OnlineZones} {bad bad' : Nat → Prop}
    (h : FindsLowest found zones bad) (hb : ∀ i, bad i ↔ bad' i) : FindsLowest found zones bad' := by
  intro named
  rw [← h named, lowestBad_congr hb]

/-- Check 4 (R11): the lowest-numbered zone with an empty span or one that reaches into the next
zone's. -/
theorem spanOrder_findsLowest (zones : OnlineZones) :
    FindsLowest (spanOrder zones) zones fun i => ∃ e, zones[i]? = some e
      ∧ (e.2.spanEnd ≤ e.2.spanStart
        ∨ ∃ next, zones[i + 1]? = some next ∧ next.2.spanStart < e.2.spanEnd) := by
  induction zones with
  | nil => exact findsLowest_nil _
  | cons e rest ih =>
    refine FindsLowest.cons (first := spanOrderFails e.2 rest.head?) ih e ?_
    cases rest <;> simp [spanOrderFails]

/-- The record before place `i`, `previous` standing before the first. -/
def recordBefore (previous : Option ZoneRecord) (zones : OnlineZones) : Nat → Option ZoneRecord
  | 0 => previous
  | i + 1 => zones[i]?.map (·.2)

theorem recordBefore_cons (previous : Option ZoneRecord) (e : Zone × ZoneRecord) (zones : OnlineZones)
    (i : Nat) : recordBefore previous (e :: zones) (i + 1) = recordBefore (some e.2) zones i := by
  cases i <;> rfl

/-- Check 5 (R11), from a previous record on: the lowest-numbered zone with a t_min below the one
before it. -/
theorem tMinOrder_findsLowest (previous : Option ZoneRecord) (zones : OnlineZones) :
    FindsLowest (tMinOrder previous zones) zones fun i => ∃ p e,
      recordBefore previous zones i = some p ∧ zones[i]? = some e ∧ e.2.tMin < p.tMin := by
  induction zones generalizing previous with
  | nil => exact findsLowest_nil _
  | cons e rest ih =>
    refine FindsLowest.cons (first := previous.any fun p => e.2.tMin < p.tMin)
      ((ih (some e.2)).congr fun i => ?_) e ?_
    · simp [recordBefore_cons]
    · cases previous <;> simp [recordBefore]

/-- Checks 6, 7 and 10 (R11): the lowest-numbered zone whose record fails a test. -/
theorem firstFailing_findsLowest (zones : OnlineZones) (fails : Zone → ZoneRecord → Bool) :
    FindsLowest (firstFailing zones fails) zones fun i =>
      ∃ e, zones[i]? = some e ∧ fails e.1 e.2 = true := by
  induction zones with
  | nil => exact findsLowest_nil _
  | cons e rest ih =>
    have := FindsLowest.cons (first := fails e.1 e.2) (bad := fun i =>
      ∃ e', (e :: rest)[i]? = some e' ∧ fails e'.1 e'.2 = true) ih e (by simp)
    simp only [firstFailing, List.find?_cons] at this ⊢
    cases h : fails e.1 e.2 <;> simpa [h] using this

/-! ### The rows -/

section
variable (zones : OnlineZones) (l : Limits) (chs : Four (Quad Channel))

/-- The rows of R11's table as the part runs them: what check `n` reports. -/
def checkRow (n : Nat) : Option CheckFailure :=
  match n with
  | 1 => if zones.isEmpty then some { check := 1, zone := none } else none
  | 2 => finalCount zones
  | 3 => finalLast zones
  | 4 => zoneCheck 4 (spanOrder zones)
  | 5 => zoneCheck 5 (tMinOrder none zones)
  | 6 => zoneCheck 6 (firstFailing zones fun _ r => r.tMax ≤ r.tMin)
  | 7 => zoneCheck 7 (firstFailing zones fun _ r =>
          !(r.levelEmpty < r.levelHeaterSafe && r.levelHeaterSafe < r.levelSetpoint))
  | 8 => exitShort zones l
  | 9 => if 23 * l.minPitch < l.exitPosition then some { check := 9, zone := none } else none
  | 10 => zoneCheck 10 (firstFailing zones fun z _ =>
          (chs.get z).toList.any fun c => c.calibration.isNone)
  | _ => none

/-- The rows before `n` pass. -/
def PassesBefore (n : Nat) : Prop := ∀ m z, m < n → ¬FailsCheck zones l chs m z

/-- Row `n` reports exactly the failure of check `n`, with the zone that its row of R11 names. -/
def RowReports (n : Nat) : Prop :=
  ∀ f, checkRow zones l chs n = some f ↔ f.check = n ∧ FailsCheck zones l chs n f.zone

end

section
variable {zones : OnlineZones} {l : Limits} {chs : Four (Quad Channel)}

theorem some_failure_eq (n : Nat) (z : Option Zone) (f : CheckFailure) :
    some { check := n, zone := z } = some f ↔ f.check = n ∧ f.zone = z := by
  cases f
  simp [eq_comm]

theorem zoneCheck_eq_some {found : Option Zone} {bad : Nat → Prop} (h : FindsLowest found zones bad)
    (n : Nat) (f : CheckFailure) :
    zoneCheck n found = some f ↔ f.check = n ∧ LowestBad zones bad f.zone := by
  rw [h f.zone]
  cases found with
  | none => simp [zoneCheck]
  | some z =>
    rw [zoneCheck, Option.map_some, some_failure_eq]
    simp

theorem emptyProfile_reports : RowReports zones l chs 1 := by
  intro f
  cases zones with
  | nil =>
    rw [show checkRow [] l chs 1 = some { check := 1, zone := none } from rfl, some_failure_eq]
    simp [FailsCheck]
  | cons e rest => simp [checkRow, FailsCheck]

theorem finalCount_reports : RowReports zones l chs 2 := by
  intro f
  show finalCount zones = some f ↔ f.check = 2
    ∧ (zones.filter fun e => e.2.final).length ≠ 1
    ∧ f.zone = ((zones.filter fun e => e.2.final)[1]?).map (·.1)
  unfold finalCount
  split
  next h => rw [some_failure_eq]; simp [h]
  next h => simp [h]
  next h => rw [some_failure_eq]; simp [h]

/-- Where check 2 passes there is one final online zone (R11). -/
theorem one_final (h : PassesBefore zones l chs 3) :
    ∃ e, zones.filter (fun e => e.2.final) = [e] := by
  by_contra none
  refine h 2 _ (by omega) ⟨fun one => none ?_, rfl⟩
  exact List.length_eq_one_iff.mp one

/-- Zones in ascending order are told apart by their numbers. -/
theorem eq_of_same_zone (hz : zones.Pairwise (fun a b => a.1 < b.1)) {a b : Zone × ZoneRecord}
    (ha : a ∈ zones) (hb : b ∈ zones) (h : a.1 = b.1) : a = b := by
  have nodup : (zones.map Prod.fst).Nodup :=
    List.Pairwise.map _ (fun _ _ lt => ne_of_lt lt) hz
  exact List.inj_on_of_nodup_map nodup ha hb h

theorem finalLast_reports (hz : zones.Pairwise (fun a b => a.1 < b.1)) (h : PassesBefore zones l chs 3) :
    RowReports zones l chs 3 := by
  intro f
  obtain ⟨e, finals⟩ := one_final h
  have final : e ∈ zones ∧ e.2.final = true :=
    List.mem_filter.mp (by rw [finals]; exact List.mem_singleton_self e)
  show finalLast zones = some f ↔ f.check = 3
    ∧ ∃ e ∈ zones.filter (fun e => e.2.final), ∃ highest, zones.getLast? = some highest
        ∧ e.1 ≠ highest.1 ∧ f.zone = some highest.1
  simp only [finals, List.mem_singleton, exists_eq_left]
  unfold finalLast
  cases last : zones.getLast? with
  | none => simp
  | some highest =>
    have mem : highest ∈ zones := List.mem_of_getLast? last
    cases hf : highest.2.final with
    | true =>
      have same : highest = e := by
        have : highest ∈ zones.filter fun e => e.2.final := by simp [mem, hf]
        simpa [finals] using this
      rw [same] at hf
      simp [same, hf]
    | false =>
      have other : e.1 ≠ highest.1 := fun same => by
        rw [eq_of_same_zone hz final.1 mem same, hf] at final
        exact Bool.noConfusion final.2
      simp only [hf, Bool.false_eq_true, if_false]
      rw [some_failure_eq]
      simp [other]

theorem spanOrder_reports : RowReports zones l chs 4 :=
  zoneCheck_eq_some (spanOrder_findsLowest zones) 4

theorem tMinOrder_reports : RowReports zones l chs 5 := by
  refine zoneCheck_eq_some ((tMinOrder_findsLowest none zones).congr fun i => ?_) 5
  cases i with
  | zero => simp [recordBefore]
  | succ i => cases h : zones[i]? <;> simp [recordBefore, h]

theorem tMax_reports : RowReports zones l chs 6 :=
  zoneCheck_eq_some ((firstFailing_findsLowest zones _).congr fun i => by simp) 6

theorem levels_reports : RowReports zones l chs 7 :=
  zoneCheck_eq_some ((firstFailing_findsLowest zones _).congr fun i => by simp [imp_iff_not_or]) 7

theorem exitShort_reports : RowReports zones l chs 8 := by
  intro f
  show exitShort zones l = some f ↔ f.check = 8
    ∧ ∃ highest, zones.getLast? = some highest ∧ l.exitPosition < highest.2.spanEnd
        ∧ f.zone = some highest.1
  unfold exitShort
  cases zones.getLast? with
  | none => simp
  | some highest =>
    by_cases short : l.exitPosition < highest.2.spanEnd
    · simp only [short, if_true]
      rw [some_failure_eq]
      simp [short]
    · simp [short]

theorem pitch_reports : RowReports zones l chs 9 := by
  intro f
  show (if 23 * l.minPitch < l.exitPosition then some { check := 9, zone := none } else none) = some f
    ↔ f.check = 9 ∧ 23 * l.minPitch < l.exitPosition ∧ f.zone = none
  by_cases dense : 23 * l.minPitch < l.exitPosition
  · rw [if_pos dense, some_failure_eq]
    simp [dense]
  · simp [dense]

theorem Quad.mem_toList {α : Type} (v : Quad α) (a : α) : a ∈ v.toList ↔ ∃ q, v.get q = a := by
  constructor
  · simp only [Quad.toList, List.mem_cons, List.not_mem_nil, or_false]
    rintro (rfl | rfl | rfl | rfl)
    · exact ⟨.temp, rfl⟩
    · exact ⟨.level, rfl⟩
    · exact ⟨.pressure, rfl⟩
    · exact ⟨.current, rfl⟩
  · rintro ⟨q, rfl⟩
    cases q <;> simp [Quad.toList, Quad.get]

theorem channels_reports : RowReports zones l chs 10 :=
  zoneCheck_eq_some ((firstFailing_findsLowest zones _).congr fun i => by simp [Quad.mem_toList]) 10

/-- Each row reports its own check, where the rows before it pass; there is no check outside 1..10. -/
theorem rowReports (hz : zones.Pairwise (fun a b => a.1 < b.1)) (n : Nat)
    (h : PassesBefore zones l chs n) : RowReports zones l chs n := by
  match n, h with
  | 0, _ => exact fun f => by simp [checkRow, FailsCheck]
  | 1, _ => exact emptyProfile_reports
  | 2, _ => exact finalCount_reports
  | 3, h => exact finalLast_reports hz h
  | 4, _ => exact spanOrder_reports
  | 5, _ => exact tMinOrder_reports
  | 6, _ => exact tMax_reports
  | 7, _ => exact levels_reports
  | 8, _ => exact exitShort_reports
  | 9, _ => exact pitch_reports
  | 10, _ => exact channels_reports
  | n + 11, _ => exact fun f => by simp [checkRow, FailsCheck]

end

/-! ### The first row that fails -/

section
variable (zones : OnlineZones) (l : Limits) (chs : Four (Quad Channel))

/-- The rows from `n` on, `rows` of them: the first that reports. -/
def checksFrom : Nat → Nat → Option CheckFailure
  | 0, _ => none
  | rows + 1, n => checkRow zones l chs n <|> checksFrom rows (n + 1)

theorem profileCheck_eq : profileCheck zones l chs = checksFrom zones l chs 10 1 := by
  simp [profileCheck, checksFrom, checkRow]

end

section
variable {zones : OnlineZones} {l : Limits} {chs : Four (Quad Channel)}

/-- A row that reports nothing passes. -/
theorem PassesBefore.succ {n : Nat} (h : PassesBefore zones l chs n) (hr : RowReports zones l chs n)
    (passes : checkRow zones l chs n = none) : PassesBefore zones l chs (n + 1) := by
  intro m z hm fails
  obtain hm | rfl := Nat.lt_succ_iff_lt_or_eq.mp hm
  · exact h m z hm fails
  · have := (hr { check := m, zone := z }).mpr ⟨rfl, fails⟩
    simp [passes] at this

/-- The rows from `n` to the last report the first check that fails (R11). -/
theorem checksFrom_eq_some (hz : zones.Pairwise (fun a b => a.1 < b.1)) (rows : Nat) {n : Nat}
    (hn : n + rows = 11) (h : PassesBefore zones l chs n) (f : CheckFailure) :
    checksFrom zones l chs rows n = some f ↔
      n ≤ f.check ∧ FailsCheck zones l chs f.check f.zone ∧ PassesBefore zones l chs f.check := by
  induction rows generalizing n with
  | zero =>
    simp only [checksFrom, reduceCtorEq, false_iff]
    rintro ⟨hf, fails, -⟩
    obtain ⟨k, hk⟩ := Nat.exists_eq_add_of_le' (show 11 ≤ f.check by omega)
    simp [hk, FailsCheck] at fails
  | succ rows ih =>
    have row := rowReports hz n h
    cases found : checkRow zones l chs n with
    | none =>
      have next := h.succ row found
      simp only [checksFrom, found]
      rw [show ((none : Option CheckFailure) <|> checksFrom zones l chs rows (n + 1))
        = checksFrom zones l chs rows (n + 1) from rfl, ih (by omega) next]
      refine ⟨fun ⟨hf, rest⟩ => ⟨by omega, rest⟩, fun ⟨hf, fails, before⟩ => ⟨?_, fails, before⟩⟩
      by_contra low
      exact next f.check f.zone (by omega) fails
    | some g =>
      obtain ⟨rfl, fails⟩ := (row g).mp found
      simp only [checksFrom, found]
      rw [show (some g <|> checksFrom zones l chs rows (g.check + 1)) = some g from rfl]
      constructor
      · intro e
        cases e
        exact ⟨le_rfl, fails, h⟩
      · rintro ⟨hf, fails', before⟩
        obtain hf | hf := Nat.lt_or_eq_of_le hf
        · exact absurd fails (before _ _ hf)
        · rw [← found]
          exact (row f).mpr ⟨hf.symm, by rwa [hf]⟩

theorem passesBefore_one : PassesBefore zones l chs 1 := by
  intro m z hm
  obtain rfl : m = 0 := by omega
  simp [FailsCheck]

/-- The profile check reports the first of the ten checks that fails, with the zone that its row
names (R11). -/
theorem profileCheck_eq_some (hz : zones.Pairwise (fun a b => a.1 < b.1)) (f : CheckFailure) :
    profileCheck zones l chs = some f ↔
      FailsCheck zones l chs f.check f.zone ∧ PassesBefore zones l chs f.check := by
  rw [profileCheck_eq, checksFrom_eq_some hz 10 rfl passesBefore_one]
  refine and_iff_right_of_imp fun ⟨fails, _⟩ => ?_
  by_contra low
  exact passesBefore_one f.check f.zone (by omega) fails

/-- The profile check passes where no check fails. -/
theorem profileCheck_eq_none (hz : zones.Pairwise (fun a b => a.1 < b.1)) :
    profileCheck zones l chs = none ↔ ∀ n z, ¬FailsCheck zones l chs n z := by
  constructor
  · intro passes n
    induction n using Nat.strong_induction_on with
    | _ n ih =>
      intro z fails
      have := (profileCheck_eq_some hz { check := n, zone := z }).mpr ⟨fails, fun m z hm => ih m hm z⟩
      simp [passes] at this
  · intro passes
    cases found : profileCheck zones l chs with
    | none => rfl
    | some f => exact absurd ((profileCheck_eq_some hz f).mp found).1 (passes _ _)

end

end Sys2Proof.Machine
end

section
/-! PROOF. The MODE request (R16 to R20, R192): its operands, the rows of the table, and the event
as a whole. -/

namespace Sys2Proof.Machine

/-! ### The operands -/

/-- The two bytes of a MODE request name a mode that can be requested, and a force that is 0 or 1
(R192). -/
structure NamesMode (target force : Byte) (m : Mode) : Prop where
  target : Mode.ofCode target.toNat = some m
  real : m ≠ .starting
  force : force.toNat ≤ 1

theorem NamesMode.of_code {target force : Byte} {m : Mode} (h : target.toNat = m.code)
    (real : m ≠ .starting) (hf : force.toNat ≤ 1) : NamesMode target force m where
  target := by rw [h]; cases m <;> rfl
  real := real
  force := hf

/-- Targets 1..4 with a force of 0 or 1 name a mode (R192). -/
theorem exists_namesMode {target force : Byte}
    (h : 1 ≤ target.toNat ∧ target.toNat ≤ 4 ∧ force.toNat ≤ 1) : ∃ m, NamesMode target force m := by
  obtain ⟨lo, hi, hf⟩ := h
  have target_cases : target.toNat = 1 ∨ target.toNat = 2 ∨ target.toNat = 3 ∨ target.toNat = 4 := by
    omega
  obtain h | h | h | h := target_cases
  · exact ⟨.standby, .of_code h (by decide) hf⟩
  · exact ⟨.prepare, .of_code h (by decide) hf⟩
  · exact ⟨.run, .of_code h (by decide) hf⟩
  · exact ⟨.halt, .of_code h (by decide) hf⟩

/-- No other targets name one. -/
theorem mode_ofCode_cases {n : Nat} (h : n = 0 ∨ 4 < n) :
    Mode.ofCode n = none ∨ Mode.ofCode n = some .starting := by
  obtain rfl | h := h
  · exact .inr rfl
  · obtain ⟨k, rfl⟩ := Nat.exists_eq_add_of_le' h
    exact .inl rfl

/-- A target outside 1..4 or a force other than 0 and 1 is refused (R192). -/
theorem modeRequest_bad {target force : Byte}
    (h : ¬(1 ≤ target.toNat ∧ target.toNat ≤ 4 ∧ force.toNat ≤ 1)) (s : State) :
    modeRequest [target, force] s = (s, [0x12]) := by
  have decoded : u8 [target, force] 0 = target.toNat := rfl
  unfold modeRequest
  by_cases range : target.toNat = 0 ∨ 4 < target.toNat
  · obtain none | starting := mode_ofCode_cases range
    · rw [decoded, none]; rfl
    · rw [decoded, starting]; rfl
  · have high : 1 < u8 [target, force] 1 := show 1 < force.toNat by omega
    split
    · rfl
    · rfl
    · rw [if_pos high]; rfl

/-- Any other request goes by the table (R16). -/
theorem modeRequest_of_names {target force : Byte} {m : Mode} (h : NamesMode target force m) (s : State) :
    modeRequest [target, force] s = modeTable m (force.toNat = 1) s := by
  have decoded : Mode.ofCode (u8 [target, force] 0) = some m := h.target
  have low : ¬1 < u8 [target, force] 1 := Nat.not_lt.mpr h.force
  have real := h.real
  unfold modeRequest
  rw [decoded]
  cases m with
  | starting => exact absurd rfl real
  | _ => simp only [low, if_false]; rfl

/-! ### The table -/

section
variable {s : State} {force : Bool}

theorem modeTable_of_halt (h : s.pmc.mode = .halt) (m : Mode) : modeTable m force s = (s, [0x13]) := by
  cases m <;> simp [modeTable, h, refuse, resWrongMode]

/-- A request for the mode that is current changes nothing (R16). -/
theorem modeTable_current (hm : s.pmc.mode ≠ .starting) (hh : s.pmc.mode ≠ .halt) :
    modeTable s.pmc.mode force s = (s, [0x00]) := by
  cases h : s.pmc.mode with
  | starting => exact absurd h hm
  | halt => exact absurd h hh
  | _ => simp [modeTable, h, ok, resOk]

theorem modeTable_run_of_standby (h : s.pmc.mode = .standby) :
    modeTable .run force s = (s, [0x13]) := by
  simp [modeTable, h, refuse, resWrongMode]

/-- STANDBY to PREPARE is refused where the profile check fails (R17). -/
theorem modeTable_prepare_refused (h : s.pmc.mode = .standby) {f : CheckFailure}
    (hf : profileCheck (onlineZones s.pmc.zones none) s.pmc.limits s.smp.channels = some f) :
    modeTable .prepare force s = (s, [0x15, byte f.check, zoneByte f.zone]) := by
  simp only [modeTable, h, modePrepareFromStandby, hf]
  rfl

/-- STANDBY to PREPARE is made where the profile check passes (R17). -/
theorem modeTable_prepare_of_standby (h : s.pmc.mode = .standby)
    (hf : profileCheck (onlineZones s.pmc.zones none) s.pmc.limits s.smp.channels = none) :
    modeTable .prepare force s = (s.changeMode .prepare .none, [0x00]) := by
  simp only [modeTable, h, modePrepareFromStandby, hf]
  rfl

theorem modeTable_prepare_of_run (h : s.pmc.mode = .run) :
    modeTable .prepare force s = (s.changeMode .prepare .none, [0x00]) := by
  simp [modeTable, h, ok, resOk]

/-- PREPARE to RUN is kept out by a record that is CARRIED or flushed (R17). -/
theorem modeTable_run_of_racks (h : s.pmc.mode = .prepare)
    (hr : ∃ x ∈ s.rt.queue, x.carried = true ∨ x.flush ≠ none) :
    modeTable .run force s = (s, [0x18]) := by
  have present : s.rt.queue.any Rack.keepsRunOut = true := by
    simpa [Rack.keepsRunOut, Option.isSome_iff_ne_none] using hr
  simp [modeTable, h, modeRunFromPrepare, present, refuse, resRacksPresent]

/-- A record that is neither CARRIED nor flushed does not keep RUN out (R17). -/
theorem no_rack_keepsRunOut (hr : ∀ x ∈ s.rt.queue, x.carried = false ∧ x.flush = none) :
    s.rt.queue.any Rack.keepsRunOut = false := by
  simpa [Rack.keepsRunOut] using hr

/-- PREPARE to RUN is refused where no record keeps it out and the profile check fails (R17). -/
theorem modeTable_run_refused (h : s.pmc.mode = .prepare)
    (hr : ∀ x ∈ s.rt.queue, x.carried = false ∧ x.flush = none) {f : CheckFailure}
    (hf : profileCheck (onlineZones s.pmc.zones none) s.pmc.limits s.smp.channels = some f) :
    modeTable .run force s = (s, [0x15, byte f.check, zoneByte f.zone]) := by
  simp only [modeTable, h, modeRunFromPrepare, no_rack_keepsRunOut hr, Bool.false_eq_true, if_false, hf]
  rfl

/-- PREPARE to RUN is made where no record keeps it out and the profile check passes (R17). -/
theorem modeTable_run_of_prepare (h : s.pmc.mode = .prepare)
    (hr : ∀ x ∈ s.rt.queue, x.carried = false ∧ x.flush = none)
    (hf : profileCheck (onlineZones s.pmc.zones none) s.pmc.limits s.smp.channels = none) :
    modeTable .run force s = (s.enterRun, [0x00]) := by
  simp only [modeTable, h, modeRunFromPrepare, no_rack_keepsRunOut hr, Bool.false_eq_true, if_false, hf]
  rfl

theorem modeTable_standby (h : s.pmc.mode = .prepare ∨ s.pmc.mode = .run) :
    modeTable .standby force s = modeStandby force s := by
  obtain h | h := h <;> simp [modeTable, h]

/-- PREPARE or RUN to STANDBY is made where every record carries a flush reason (R19). -/
theorem modeTable_standby_of_flushed (h : s.pmc.mode = .prepare ∨ s.pmc.mode = .run)
    (hr : ∀ x ∈ s.rt.queue, x.flush ≠ none) :
    modeTable .standby force s = (s.changeMode .standby .none, [0x00]) := by
  have absent : s.rt.queue.any Rack.keepsStandbyOut = false := by
    simpa [Rack.keepsStandbyOut] using hr
  simp [modeTable_standby h, modeStandby, absent, ok, resOk]

/-- PREPARE or RUN to STANDBY with a record that carries no flush reason: refused, or flushed first
(R19). -/
theorem modeTable_standby_of_racks (h : s.pmc.mode = .prepare ∨ s.pmc.mode = .run)
    (hr : ∃ x ∈ s.rt.queue, x.flush = none) :
    modeTable .standby force s
      = if force then ((s.flush .standbyFlush).changeMode .standby .none, [0x00]) else (s, [0x18]) := by
  have present : s.rt.queue.any Rack.keepsStandbyOut = true := by
    simpa [Rack.keepsStandbyOut] using hr
  simp [modeTable_standby h, modeStandby, present, ok, resOk, refuse, resRacksPresent]

theorem modeTable_halt (hm : s.pmc.mode ≠ .starting) (hh : s.pmc.mode ≠ .halt) :
    modeTable .halt force s = (s.changeMode .halt .requested, [0x00]) := by
  cases h : s.pmc.mode with
  | starting => exact absurd h hm
  | halt => exact absurd h hh
  | _ => simp [modeTable, h, ok, resOk]

end

/-! ### RUN entry -/

theorem State.entryEvent_rt (s : State) :
    s.entryEvent.rt
      = if s.pmc.mode = .run then (s.rt.entry s.smp.travel s.pmc.limits.minPitch s.onlineMask).1
        else s.rt := by
  simp only [State.entryEvent]
  split
  · split <;> rfl
  · rfl

/-- An entry event raises at most the trigger (R65). -/
theorem State.entryEvent_ck {s : State} (h : s.ck.trigger = true) : s.entryEvent.ck = s.ck := by
  simp only [State.entryEvent]
  split
  · split
    · simp [State.trigger, State.setCk, State.setRt, ← h]
    · rfl
  · rfl

theorem State.ModeEntered.entryEvent {t s : State} {m : Mode} {cause : HaltCause}
    (h : t.ModeEntered s m cause) : t.entryEvent.ModeEntered s m cause where
  pmc := by rw [State.entryEvent_pmc, h.pmc]
  claims := by simpa using h.claims
  du := by rw [State.entryEvent_du, h.du]
  noticed := by simpa using h.noticed
  flagged := by simpa using h.flagged
  ck := by rw [State.entryEvent_ck (by rw [h.ck]), h.ck]
  smp := by rw [State.entryEvent_smp, h.smp]
  outside := by simpa [State.SameOutside] using h.outside

/-- RUN entry is a mode change, and the test of the entry eye behind it (R17). -/
theorem State.enterRun_modeEntered (s : State) :
    s.dropRequest.enterRun.ModeEntered s .run .none := by
  have entered := State.changeMode_modeEntered s.dropRequest_beforeMode .run .none
  simp only [State.enterRun]
  split
  · exact entered.entryEvent
  · exact entered

theorem State.enterRun_rx (s : State) : s.enterRun.lk.rx = s.lk.rx := by
  have := (s.changeMode_lk .run .none).1
  simp only [State.enterRun]
  split <;> simpa using this

/-- At RUN entry a blocked entry eye makes an entry event (R17, R65). -/
theorem State.enterRun_rt (s : State) :
    s.enterRun.rt
      = if s.smp.eyeBlocked then
          ({ s with pmc := { s.pmc with mode := .run } } : State).entryEvent.rt
        else s.rt := by
  simp only [State.enterRun, State.changeMode_smp]
  split
  · simp [State.entryEvent_rt, State.onlineMask, State.changeMode]
  · simp

/-! ### The event -/

theorem exec_mode (s : State) : exec .mode s = .next (takeRequest 0x03 2 false modeRequest s) := rfl

section
variable {s u : State} {r : Request} {target force : Byte}

theorem mode_unchanged (ha : s.Asks r) (hk : r.kind = 0x03) (hp : r.payload = [target, force])
    (hm : s.pmc.mode ≠ .starting) {p : List Byte}
    (ho : modeRequest [target, force] s.dropRequest = (s.dropRequest, p)) :
    exec .mode s = .next { s with lk := s.answered r p } := by
  rw [exec_mode, takeRequest_unchanged false ha hm (by simp [hk]) (by simp [hp]) (by rw [hp, ho])]

/-- A row of the table that changes nothing, as an event. -/
theorem mode_refused (ha : s.Asks r) (hk : r.kind = 0x03) (hp : r.payload = [target, force])
    (hm : s.pmc.mode ≠ .starting) {m : Mode} (names : NamesMode target force m) {p : List Byte}
    (row : modeTable m (force.toNat = 1) s.dropRequest = (s.dropRequest, p)) :
    exec .mode s = .next { s with lk := s.answered r p } :=
  mode_unchanged ha hk hp hm ((modeRequest_of_names names _).trans row)

/-- A row of the table that enters a mode, as an event. -/
theorem mode_changed (ha : s.Asks r) (hk : r.kind = 0x03) (hp : r.payload = [target, force])
    (hm : s.pmc.mode ≠ .starting) {m entered : Mode} {cause : HaltCause} (names : NamesMode target force m)
    (row : modeTable m (force.toNat = 1) s.dropRequest = (u, [0x00])) (hu : u.ModeEntered s entered cause)
    (hrx : u.lk.rx = s.lk.rx.dropHead) :
    ∃ t, exec .mode s = .next t ∧ t.RepliesTo s r [0x00] ∧ t.ModeChanged s entered cause ∧ t.rt = u.rt
      ∧ t.lk.outcomes = u.lk.outcomes := by
  have owner : modeRequest r.payload s.dropRequest = (u, [0x00]) := by
    rw [hp, modeRequest_of_names names, row]
  obtain ⟨t, ht, rest⟩ :=
    takeRequest_modeChanged (kind := 0x03) (length := 2) false ha hm (by simp [hk]) (by simp [hp]) owner
      hu hrx
  exact ⟨t, by rw [exec_mode, ht], rest⟩

/-- A row of the table that is the mode change alone, as an event. -/
theorem mode_changed_only (ha : s.Asks r) (hk : r.kind = 0x03) (hp : r.payload = [target, force])
    (hm : s.pmc.mode ≠ .starting) {m entered : Mode} {cause : HaltCause} (names : NamesMode target force m)
    (row : modeTable m (force.toNat = 1) s.dropRequest = (s.dropRequest.changeMode entered cause, [0x00])) :
    ∃ t, exec .mode s = .next t ∧ t.RepliesTo s r [0x00] ∧ t.ModeChanged s entered cause
      ∧ t.rt = s.rt := by
  obtain ⟨t, ht, reply, changed, rt, -⟩ := mode_changed ha hk hp hm names row
    (State.changeMode_modeEntered s.dropRequest_beforeMode entered cause)
    (s.dropRequest.changeMode_lk entered cause).1
  exact ⟨t, ht, reply, changed, by rw [rt, State.changeMode_rt, State.dropRequest_rt]⟩

/-- RUN entry as an event (R17). -/
theorem mode_enters_run (ha : s.Asks r) (hk : r.kind = 0x03) (hp : r.payload = [target, force])
    (hm : s.pmc.mode ≠ .starting) (names : NamesMode target force .run)
    (row : modeTable .run (force.toNat = 1) s.dropRequest = (s.dropRequest.enterRun, [0x00])) :
    ∃ t, exec .mode s = .next t ∧ t.RepliesTo s r [0x00] ∧ t.ModeChanged s .run .none
      ∧ t.rt =
          (if s.smp.eyeBlocked then
            ({ s with pmc := { s.pmc with mode := .run } } : State).entryEvent.rt
          else s.rt) := by
  obtain ⟨t, ht, reply, changed, rt, -⟩ := mode_changed ha hk hp hm names row s.enterRun_modeEntered
    s.dropRequest.enterRun_rx
  refine ⟨t, ht, reply, changed, ?_⟩
  rw [rt, State.enterRun_rt]
  simp only [State.entryEvent_rt]
  rfl

/-- A forced MODE STANDBY as an event: the flush, then the change (R19, R75). -/
theorem mode_flushes (ha : s.Asks r) (hk : r.kind = 0x03) (hp : r.payload = [target, force])
    (hm : s.pmc.mode ≠ .starting) (names : NamesMode target force .standby)
    (row : modeTable .standby (force.toNat = 1) s.dropRequest
      = ((s.dropRequest.flush .standbyFlush).changeMode .standby .none, [0x00])) :
    ∃ t, exec .mode s = .next t ∧ t.RepliesTo s r [0x00] ∧ t.ModeChanged s .standby .none
      ∧ noticeTags t.lk.outcomes ++ tagsOf t.rt.queue
          = noticeTags s.lk.outcomes ++ tagsOf s.rt.queue
      ∧ (∀ x ∈ t.rt.queue, x.exited = true)
      ∧ (∀ x ∈ s.rt.queue, x.exited = true →
          x ∈ t.rt.queue ∨ ∃ o, x.outcome = some o ∧ x.notice o ∈ t.lk.outcomes)
      ∧ (∀ x ∈ s.rt.queue, x.exited = false →
          ∃ y : Rack, y.tag = x.tag ∧ y.flush = some .standbyFlush
            ∧ ∃ o, y.outcome = some o ∧ o.disposition = .hold ∧ o.reasons.standbyFlush = true
                ∧ (y ∈ t.rt.queue ∨ y.notice o ∈ t.lk.outcomes)) := by
  obtain ⟨rx, outcomes⟩ := (s.dropRequest.flush .standbyFlush).changeMode_lk .standby .none
  obtain ⟨t, ht, reply, changed, rt, out⟩ := mode_changed ha hk hp hm names row
    (State.changeMode_modeEntered (s.flush_beforeMode .standbyFlush) .standby .none)
    (by rw [rx, State.flush_lk]; rfl)
  rw [State.changeMode_rt] at rt
  rw [outcomes] at out
  refine ⟨t, ht, reply, changed, ?_⟩
  rw [rt, out]
  refine ⟨s.dropRequest.flush_tags .standbyFlush, fun x hx => State.flush_exited _ _ hx,
    fun x hx exited => s.dropRequest.flush_keeps_exited .standbyFlush hx exited, fun x hx inside => ?_⟩
  obtain ⟨y, tag, -, flush, -, o, ho, hd, hr, has⟩ :=
    s.dropRequest.flush_holds_inside .standbyFlush hx inside
  exact ⟨y, tag, flush, o, ho, hd, hr, has⟩

end

/-- Settles O57: the zones, the checks, and each row of the table. -/
theorem modeFollowsTheTable : Obligations.ModeFollowsTheTable := by
  unfold Obligations.ModeFollowsTheTable
  refine ⟨fun zones also => ⟨onlineZones_pairwise zones also, mem_onlineZones zones also⟩,
    fun zones l chs hz => ⟨profileCheck_eq_some hz, profileCheck_eq_none hz⟩, ?_⟩
  intro s r target force ha hk hp hm refused check good
  have names : ∀ (m : Mode), m ≠ .starting → good → target = BitVec.ofNat 8 m.code →
      NamesMode target force m := fun m real g ht =>
    .of_code (by rw [ht]; cases m <;> rfl) real g.2.2
  refine ⟨fun bad => mode_unchanged ha hk hp hm (modeRequest_bad bad _), fun g halt => ?_,
    fun g halt current => ?_, fun g standby ht => ?_, fun g row f failed => ?_,
    fun g standby ht passes => ?_, fun g prepare ht => ⟨fun racks => ?_, fun racks passes => ?_⟩,
    fun g run ht => ?_, fun g serving ht => ⟨fun flushed => ?_, fun racks hf => ?_, fun racks hf => ?_⟩,
    fun g halt ht => ?_⟩
  · obtain ⟨m, hn⟩ := exists_namesMode g
    exact mode_refused ha hk hp hm hn (modeTable_of_halt (s := s.dropRequest) halt m)
  · exact mode_refused ha hk hp hm (.of_code current hm g.2.2)
      (modeTable_current (s := s.dropRequest) hm halt)
  · exact mode_refused ha hk hp hm (names .run (by decide) g ht)
      (modeTable_run_of_standby (s := s.dropRequest) standby)
  · obtain ⟨standby, ht⟩ | ⟨prepare, ht, racks⟩ := row
    · exact mode_refused ha hk hp hm (names .prepare (by decide) g ht)
        (modeTable_prepare_refused (s := s.dropRequest) standby failed)
    · exact mode_refused ha hk hp hm (names .run (by decide) g ht)
        (modeTable_run_refused (s := s.dropRequest) prepare racks failed)
  · exact mode_changed_only ha hk hp hm (names .prepare (by decide) g ht)
      (modeTable_prepare_of_standby (s := s.dropRequest) standby passes)
  · exact mode_refused ha hk hp hm (names .run (by decide) g ht)
      (modeTable_run_of_racks (s := s.dropRequest) prepare racks)
  · exact mode_enters_run ha hk hp hm (names .run (by decide) g ht)
      (modeTable_run_of_prepare (s := s.dropRequest) prepare racks passes)
  · exact mode_changed_only ha hk hp hm (names .prepare (by decide) g ht)
      (modeTable_prepare_of_run (s := s.dropRequest) run)
  · exact mode_changed_only ha hk hp hm (names .standby (by decide) g ht)
      (modeTable_standby_of_flushed (s := s.dropRequest) serving flushed)
  · refine mode_refused ha hk hp hm (names .standby (by decide) g ht)
      ((modeTable_standby_of_racks (s := s.dropRequest) serving racks).trans ?_)
    simp [hf]
  · refine mode_flushes ha hk hp hm (names .standby (by decide) g ht)
      ((modeTable_standby_of_racks (s := s.dropRequest) serving racks).trans ?_)
    simp [hf]
  · exact mode_changed_only ha hk hp hm (names .halt (by decide) g ht)
      (modeTable_halt (s := s.dropRequest) hm halt)

end Sys2Proof.Machine
end

section
/-! PROOF. The fields of a load (R5, R6, R191): what is written, what is listed, and the replies. -/

namespace Sys2Proof.Machine

/-! ### One field -/

/-- A present field is listed exactly where the value written is not the one sent (R5). -/
theorem loadField_snd (number : Nat) (isPresent : Bool) (absent lo hi value : Nat) :
    (loadField number isPresent absent lo hi value).2
      = if isPresent = true ∧ (loadField number isPresent absent lo hi value).1 ≠ value then [number]
        else [] := by
  cases isPresent
  · rfl
  · simp only [loadField, if_true, true_and, ne_eq, ite_not]

/-- An absent dose_floor is listed where the t_ref of the same load brings it down (R6). -/
theorem doseFloorField_snd (isPresent : Bool) (now value tRef : Nat) :
    (doseFloorField isPresent now value tRef).2
      = if (doseFloorField isPresent now value tRef).1 ≠ (if isPresent then value else now) then [1]
        else [] := by
  cases isPresent
  · simp only [doseFloorField, Bool.false_eq_true, if_false]
    by_cases low : tRef < now
    · simp [low, ne_of_lt low]
    · simp [low]
  · simp only [doseFloorField, if_true, loadField_snd 1 true, true_and]

/-- What a load makes of a field: the value written, and its number where it is listed (R5). -/
def LoadField.load (presence : Nat) (f : LoadField) : Nat × List Nat :=
  loadField f.number (presence.testBit f.number) f.absent f.lo f.hi f.sent

theorem LoadField.load_listed (presence : Nat) (f : LoadField) :
    (f.load presence).2 = [] ∨ (f.load presence).2 = [f.number] := by
  rw [LoadField.load, loadField_snd]
  split
  · exact .inr rfl
  · exact .inl rfl

theorem LoadField.load_taken {f : LoadField} (hr : f.lo ≤ f.hi) {presence : Nat} {listed : List Nat}
    (hl : f.number ∈ listed ↔ f.number ∈ (f.load presence).2) :
    f.Taken presence listed (f.load presence).1 := by
  rw [LoadField.load, loadField_snd] at hl
  simp only [LoadField.Taken, LoadField.load]
  cases h : presence.testBit f.number with
  | true =>
    simp only [h, true_and] at hl
    refine ⟨by rw [loadField_fst hr, if_pos rfl], hl.trans ?_⟩
    split <;> simp_all
  | false =>
    refine ⟨by rw [loadField_fst hr]; rfl, ?_⟩
    simp [hl, h]

/-! ### The fields of one load -/

section
variable {fields : List LoadField} {made : LoadField → Nat × List Nat}

/-- The numbers that a load lists, where `made` says what it makes of each field. -/
def listedNumbers (made : LoadField → Nat × List Nat) (fields : List LoadField) : List Nat :=
  fields.flatMap fun f => (made f).2

theorem number_of_mem_listed (hm : ∀ f, (made f).2 = [] ∨ (made f).2 = [f.number]) {n : Nat}
    (h : n ∈ listedNumbers made fields) : ∃ f ∈ fields, n = f.number ∧ f.number ∈ (made f).2 := by
  obtain ⟨f, hf, hn⟩ := List.mem_flatMap.mp h
  refine ⟨f, hf, ?_⟩
  obtain e | e := hm f
  · simp [e] at hn
  · simpa [e] using hn

/-- Fields in ascending order are listed in ascending order. -/
theorem listedNumbers_pairwise (hm : ∀ f, (made f).2 = [] ∨ (made f).2 = [f.number])
    (hf : fields.Pairwise fun a b => a.number < b.number) :
    (listedNumbers made fields).Pairwise (· < ·) := by
  induction fields with
  | nil => exact List.Pairwise.nil
  | cons f rest ih =>
    obtain ⟨lower, hf⟩ := List.pairwise_cons.mp hf
    rw [listedNumbers, List.flatMap_cons, List.pairwise_append]
    refine ⟨?_, ih hf, fun a ha b hb => ?_⟩
    · obtain e | e := hm f <;> simp [e]
    · obtain ⟨g, hg, rfl, -⟩ := number_of_mem_listed hm hb
      have : a = f.number := by
        obtain e | e := hm f
        · simp [e] at ha
        · simpa [e] using ha
      rw [this]
      exact lower g hg

/-- A field's number is listed exactly where the load lists it for that field. -/
theorem mem_listedNumbers (hm : ∀ f, (made f).2 = [] ∨ (made f).2 = [f.number])
    (hf : fields.Pairwise fun a b => a.number < b.number) {f : LoadField} (h : f ∈ fields) :
    f.number ∈ listedNumbers made fields ↔ f.number ∈ (made f).2 := by
  constructor
  · intro hn
    obtain ⟨g, hg, same, listed⟩ := number_of_mem_listed hm hn
    have nodup : (fields.map LoadField.number).Nodup := List.Pairwise.map _ (fun _ _ => ne_of_lt) hf
    rwa [List.inj_on_of_nodup_map nodup h hg same]
  · exact fun hn => List.mem_flatMap.mpr ⟨f, h, hn⟩

/-- The fields beside the values made of them. -/
theorem mem_zip_made {fw : LoadField × Nat} (h : fw ∈ fields.zip (fields.map fun f => (made f).1)) :
    fw.1 ∈ fields ∧ fw.2 = (made fw.1).1 := by
  rw [← List.map_prod_left_eq_zip] at h
  obtain ⟨f, hf, rfl⟩ := List.mem_map.mp h
  exact ⟨hf, rfl⟩

end

theorem loadReply_eq (listed : List Nat) : loadReply listed = clampedReply listed := by
  cases listed <;> rfl

theorem u16_eq (p : List Byte) (i : Nat) : u16 p i = sent16 p i := rfl

/-! ### ZONE_LOAD -/

/-- The record that a ZONE_LOAD writes, number by number (R2). -/
theorem zoneLoadRecord_numbers (p : List Byte) :
    (zoneLoadRecord p).1.numbers
      = (zoneFields p).map fun f => (f.load (sent16 p 1)).1 := rfl

theorem zoneLoadRecord_listed (p : List Byte) :
    (zoneLoadRecord p).2 = listedNumbers (LoadField.load (sent16 p 1)) (zoneFields p) := by
  simp only [zoneLoadRecord, listedNumbers, zoneFields, List.flatMap_cons, List.flatMap_nil,
    List.append_nil, List.append_assoc]
  rfl

theorem zoneFields_numbers (p : List Byte) :
    (zoneFields p).map LoadField.number = List.range 11 := rfl

theorem zoneFields_ascending (p : List Byte) :
    (zoneFields p).Pairwise fun a b => a.number < b.number :=
  List.pairwise_map.mp (by rw [zoneFields_numbers]; exact List.pairwise_lt_range)

theorem zoneFields_ranges {p : List Byte} {f : LoadField} (h : f ∈ zoneFields p) :
    f.lo ≤ f.hi ∧ f.number ≤ 10 := by
  simp only [zoneFields, List.mem_cons, List.not_mem_nil, or_false] at h
  rcases h with rfl | rfl | rfl | rfl | rfl | rfl | rfl | rfl | rfl | rfl | rfl <;> simp

theorem zoneLoadRecord_taken (p : List Byte) {fw : LoadField × Nat}
    (h : fw ∈ (zoneFields p).zip (zoneLoadRecord p).1.numbers) :
    fw.1.Taken (sent16 p 1) (zoneLoadRecord p).2 fw.2 := by
  rw [zoneLoadRecord_numbers] at h
  obtain ⟨hf, hw⟩ := mem_zip_made h
  rw [hw, zoneLoadRecord_listed]
  exact LoadField.load_taken (zoneFields_ranges hf).1
    (mem_listedNumbers (LoadField.load_listed _) (zoneFields_ascending p) hf)

theorem zoneLoadRecord_listed_pairwise (p : List Byte) : (zoneLoadRecord p).2.Pairwise (· < ·) := by
  rw [zoneLoadRecord_listed]
  exact listedNumbers_pairwise (LoadField.load_listed _) (zoneFields_ascending p)

theorem zoneLoadRecord_listed_le {p : List Byte} {n : Nat} (h : n ∈ (zoneLoadRecord p).2) : n ≤ 10 := by
  rw [zoneLoadRecord_listed] at h
  obtain ⟨f, hf, rfl, -⟩ := number_of_mem_listed (LoadField.load_listed _) h
  exact (zoneFields_ranges hf).2

/-- Test 3 of a ZONE_LOAD (R7). -/
theorem zoneLoadArgsGood_iff (p : List Byte) :
    zoneLoadArgsGood p = true ↔
      (sent16 p 1).testBit 0 = true ∧ (sent16 p 1).testBit 1 = true
        ∧ ((sent16 p 1).testBit 11 = true → (p.getD 25 0).toNat ≤ 1) := by
  simp only [zoneLoadArgsGood, present, u16_eq, Bool.and_eq_true, Bool.or_eq_true, and_assoc,
    decide_eq_true_eq]
  cases (sent16 p 1).testBit 11 <;> simp [u8]

theorem zoneLoadRecord_final (p : List Byte) :
    (zoneLoadRecord p).1.final = ((sent16 p 1).testBit 11 && (p.getD 25 0).toNat == 1) := rfl

/-! ### LIMITS_LOAD -/

/-- What a LIMITS_LOAD makes of a field: dose_floor settles against the t_ref that results (R6). -/
def LoadField.loadLimit (presence : Nat) (f : LoadField) : Nat × List Nat :=
  if f.number = 1 then doseFloorField (presence.testBit 1) f.absent f.sent f.hi else f.load presence

theorem LoadField.loadLimit_listed (presence : Nat) (f : LoadField) :
    (f.loadLimit presence).2 = [] ∨ (f.loadLimit presence).2 = [f.number] := by
  unfold LoadField.loadLimit
  split
  next h =>
    rw [doseFloorField_snd, h]
    exact (ite_eq_or_eq _ _ _).symm
  · exact f.load_listed presence

section
variable (p : List Byte) (now : Limits)

/-- The presence set of a LIMITS_LOAD (R191). -/
def limitsPresence (p : List Byte) : Nat := 65536 * (p.getD 0 0).toNat + sent16 p 1

/-- The fields of a LIMITS_LOAD, dose_floor bounded by the t_ref that results (R6). -/
def loadedLimits : List LoadField := limitFields p now (limitsLoadResult p now).1.tRef

theorem limitsLoadResult_numbers :
    (limitsLoadResult p now).1.numbers
      = (loadedLimits p now).map fun f => (f.loadLimit (limitsPresence p)).1 := rfl

theorem limitsLoadResult_listed :
    (limitsLoadResult p now).2
      = listedNumbers (LoadField.loadLimit (limitsPresence p)) (loadedLimits p now) := by
  simp only [limitsLoadResult, listedNumbers, loadedLimits, limitFields, List.flatMap_cons,
    List.flatMap_nil, List.append_nil, List.append_assoc]
  rfl

theorem loadedLimits_field_numbers :
    (loadedLimits p now).map LoadField.number = List.range 18 := rfl

theorem loadedLimits_ascending :
    (loadedLimits p now).Pairwise fun a b => a.number < b.number :=
  List.pairwise_map.mp (by rw [loadedLimits_field_numbers]; exact List.pairwise_lt_range)

variable {p now}

theorem loadedLimits_ranges {f : LoadField} (h : f ∈ loadedLimits p now) :
    f.number ≤ 17 ∧ (f.number ≠ 1 → f.lo ≤ f.hi) := by
  simp only [loadedLimits, limitFields, List.mem_cons, List.not_mem_nil, or_false] at h
  rcases h with rfl | rfl | rfl | rfl | rfl | rfl | rfl | rfl | rfl | rfl | rfl | rfl | rfl | rfl | rfl | rfl
    | rfl | rfl <;> simp

theorem limitsLoadResult_taken {fw : LoadField × Nat}
    (h : fw ∈ (loadedLimits p now).zip (limitsLoadResult p now).1.numbers) (hn : fw.1.number ≠ 1) :
    fw.1.Taken (limitsPresence p) (limitsLoadResult p now).2 fw.2 := by
  rw [limitsLoadResult_numbers] at h
  obtain ⟨hf, hw⟩ := mem_zip_made h
  have plain : fw.1.loadLimit (limitsPresence p) = fw.1.load (limitsPresence p) := if_neg hn
  have mem := mem_listedNumbers (LoadField.loadLimit_listed (limitsPresence p))
    (loadedLimits_ascending p now) hf
  rw [hw, limitsLoadResult_listed, plain]
  rw [plain] at mem
  exact LoadField.load_taken ((loadedLimits_ranges hf).2 hn) mem

theorem limitsLoadResult_listed_pairwise : (limitsLoadResult p now).2.Pairwise (· < ·) := by
  rw [limitsLoadResult_listed]
  exact listedNumbers_pairwise (LoadField.loadLimit_listed _) (loadedLimits_ascending p now)

theorem limitsLoadResult_listed_le {n : Nat} (h : n ∈ (limitsLoadResult p now).2) : n ≤ 17 := by
  rw [limitsLoadResult_listed] at h
  obtain ⟨f, hf, rfl, -⟩ := number_of_mem_listed (LoadField.loadLimit_listed _) h
  exact (loadedLimits_ranges hf).1

/-- dose_floor after a LIMITS_LOAD (R6). -/
theorem limitsLoadResult_doseFloor :
    (limitsLoadResult p now).1.doseFloor
      = (doseFloorField ((limitsPresence p).testBit 1) now.doseFloor (sent16 p 5)
          (limitsLoadResult p now).1.tRef).1 := rfl

/-- dose_floor is listed where it is not the value sent, or, absent, not the one it had (R6). -/
theorem one_mem_limitsLoadResult_listed :
    1 ∈ (limitsLoadResult p now).2 ↔
      (limitsLoadResult p now).1.doseFloor
        ≠ if (limitsPresence p).testBit 1 then sent16 p 5 else now.doseFloor := by
  let f : LoadField := ⟨1, now.doseFloor, 400, (limitsLoadResult p now).1.tRef, sent16 p 5⟩
  have mem : f ∈ loadedLimits p now := List.mem_cons_of_mem _ (List.mem_cons_self ..)
  rw [limitsLoadResult_listed, limitsLoadResult_doseFloor]
  refine (mem_listedNumbers (LoadField.loadLimit_listed _) (loadedLimits_ascending p now) mem).trans ?_
  rw [LoadField.loadLimit, if_pos rfl, doseFloorField_snd]
  split <;> simp_all [f]

end

/-! ### CHAN_LOAD -/

/-- A signed two-byte number is the two's complement of its bytes (R189). -/
theorem s16_eq_toInt (p : List Byte) (i : Nat) : s16 p i = (BitVec.ofNat 16 (sent16 p i)).toInt := by
  have bound : sent16 p i < 65536 := by
    have hi := (p.getD i 0).isLt
    have lo := (p.getD (i + 1) 0).isLt
    unfold sent16
    omega
  rw [s16, u16_eq, BitVec.toInt_eq_toNat_cond, BitVec.toNat_ofNat, Nat.mod_eq_of_lt bound]
  split <;> split <;> omega

/-- A raw point of a CHAN_LOAD (R26). -/
theorem loadField_raw (number value : Nat) :
    loadField number true 0 0 4095 value
      = (min 4095 value, if min 4095 value = value then [] else [number]) := by
  have written : (loadField number true 0 0 4095 value).1 = min 4095 value := by
    rw [loadField_fst (by decide)]
    simp
  refine Prod.ext written ?_
  simp only [loadField_snd, written, true_and, ne_eq, ite_not]

/-- The calibration of a CHAN_LOAD with all four fields and its raw points apart. -/
theorem chanLoadResult_of_good {p : List Byte} (fields : ∀ n, n < 4 → ((p.getD 1 0).toNat).testBit n = true)
    (apart : min 4095 (sent16 p 2) < min 4095 (sent16 p 4)) :
    chanLoadResult p
      = some ({ rawLo := min 4095 (sent16 p 2), rawHi := min 4095 (sent16 p 4),
                engLo := (BitVec.ofNat 16 (sent16 p 6)).toInt,
                engHi := (BitVec.ofNat 16 (sent16 p 8)).toInt },
              (if min 4095 (sent16 p 2) = sent16 p 2 then [] else [0])
                ++ (if min 4095 (sent16 p 4) = sent16 p 4 then [] else [1])) := by
  have bits : ∀ n, n < 4 → present (u8 p 1) n = true := fields
  simp [chanLoadResult, u16_eq, loadField_raw, s16_eq_toInt, bits, apart]

/-- Any other CHAN_LOAD is refused (R26). -/
theorem chanLoadResult_of_bad {p : List Byte}
    (h : ¬((∀ n, n < 4 → ((p.getD 1 0).toNat).testBit n = true)
      ∧ min 4095 (sent16 p 2) < min 4095 (sent16 p 4))) : chanLoadResult p = none := by
  simp only [chanLoadResult, u16_eq, loadField_raw, ite_eq_right_iff, reduceCtorEq, imp_false,
    Bool.and_eq_true, decide_eq_true_eq]
  rintro ⟨⟨⟨⟨b0, b1⟩, b2⟩, b3⟩, apart⟩
  refine h ⟨fun n hn => ?_, apart⟩
  interval_cases n
  · exact b0
  · exact b1
  · exact b2
  · exact b3

end Sys2Proof.Machine
end

section
/-! PROOF. Claim sets that leave the drives alone (R47, R50), and the three loads as events (R7, R9,
R26). -/

namespace Sys2Proof.Machine

/-! ### Claim sets that change nothing -/

/-- A set that asks for what the owner has leaves the claim list as it is (R47). -/
theorem setClaim_of_stands {o : Owner} {want : Option ClaimKind} {cs : List Claim}
    (h : (cs.filter fun c => c.owner = o).map (·.kind) = want.toList) : setClaim o want cs = cs := by
  cases want with
  | none =>
    have absent : ∀ c ∈ cs, c.owner ≠ o := by simpa using h
    simpa [setClaim, List.filter_eq_self] using absent
  | some k =>
    have own : ∀ c ∈ cs, c.owner = o → c.kind = k := by
      intro c hc ho
      have : c.kind ∈ (cs.filter fun c => c.owner = o).map (·.kind) :=
        List.mem_map_of_mem (List.mem_filter.mpr ⟨hc, by simpa using ho⟩)
      simpa [h] using this
    have holds : cs.any (fun c => c.owner = o) = true := by
      by_contra none
      have : cs.filter (fun c => c.owner = o) = [] := by simpa using none
      simp [this] at h
    rw [setClaim, if_pos holds]
    refine (List.map_congr_left fun c hc => ?_).trans (List.map_id cs)
    split
    next ho => rw [← own c hc ho]; rfl
    · rfl

section
variable {ls : Lines} {o : Owner} {cs : ClaimSet} {id : LineId}

/-- A line after one owner's set: as it was where its claims are, else with the new claims and
resolved (R47). -/
theorem Lines.applySets_one_get :
    (ls.applySets [(o, cs)]).get id
      = if setClaim o (cs.on id) (ls.get id).claims = (ls.get id).claims then ls.get id
        else Line.resolve { ls.get id with claims := setClaim o (cs.on id) (ls.get id).claims } := by
  simp only [Lines.applySets, Lines.resolveChanged, List.foldl_cons, List.foldl_nil, Lines.get_build,
    Lines.claimSet_get]
  split
  next same => rw [same]
  · rfl

/-- A line on which the owner has what it asks for is left alone. -/
theorem Lines.applySets_get_of_stands (h : ls.claimsOf o id = (cs.on id).toList) :
    (ls.applySets [(o, cs)]).get id = ls.get id := by
  rw [Lines.applySets_one_get, if_pos (setClaim_of_stands h)]

/-- A BLOCK turns no drive on (R48). -/
theorem Lines.drive_of_applySets_block (h : cs.on id = some .block)
    (on : (ls.applySets [(o, cs)]).drive id = true) : ls.drive id = true := by
  rw [Lines.drive, Lines.applySets_one_get] at on
  split at on
  · exact on
  · have blocked : ((setClaim o (cs.on id) (ls.get id).claims).find? fun c => c.owner = o).map (·.kind)
        = some .block := by rw [find_setClaim, if_pos rfl, h]
    have off := Line.Resolved.off_of_block
      (l := Line.resolve { ls.get id with claims := setClaim o (cs.on id) (ls.get id).claims }) rfl blocked
    rw [off] at on
    cases on

end

/-! ### Detectors and drives -/

@[simp] theorem Four.ofFn_get {α : Type} (v : Four α) : (Four.ofFn fun i => v.get i) = v := rfl

/-- No FILL or DRAIN drive goes on and the CONVEYOR drive stays: nothing that the Fault Detectors
take from the drives (R50, R104, R112). -/
structure QuietDrives (before now : Lines) : Prop where
  fill : ∀ z, now.drive (.fill z) = true → before.drive (.fill z) = true
  drain : ∀ z, now.drive (.drain z) = true → before.drive (.drain z) = true
  conveyor : now.drive .conveyor = before.drive .conveyor

theorem Tank.drivesChanged_of_quiet {before now : Lines} (h : QuietDrives before now) (z : Zone)
    (t : Tank) : t.drivesChanged before now z = t := by
  have fill := h.fill z
  have drain := h.drain z
  rw [Tank.drivesChanged, if_neg]
  simp only [Bool.or_eq_true, Bool.and_eq_true, Bool.not_eq_true', not_or, not_and, Bool.not_eq_true]
  exact ⟨fun off => by_contra fun on => by simp_all, fun off => by_contra fun on => by simp_all⟩

theorem Fd.drivesChanged_of_quiet {before now : Lines} (h : QuietDrives before now) (l : Limits)
    (fd : Fd) : fd.drivesChanged before now l = fd := by
  simp [Fd.drivesChanged, Tank.drivesChanged_of_quiet h, silenceAfterDrive, h.conveyor]

/-- A line whose drive no set of `cs` turns on: the owner has there what it asks for, or asks for a
BLOCK. -/
def Lines.StaysOff (ls : Lines) (o : Owner) (cs : ClaimSet) (id : LineId) : Prop :=
  ls.claimsOf o id = (cs.on id).toList ∨ cs.on id = some .block

theorem Lines.StaysOff.drive {ls : Lines} {o : Owner} {cs : ClaimSet} {id : LineId}
    (h : ls.StaysOff o cs id) (on : (ls.applySets [(o, cs)]).drive id = true) : ls.drive id = true := by
  obtain h | h := h
  · rwa [Lines.drive, Lines.applySets_get_of_stands h] at on
  · exact Lines.drive_of_applySets_block h on

theorem Lines.quiet_of_staysOff {ls : Lines} {o : Owner} {cs : ClaimSet}
    (fill : ∀ z, ls.StaysOff o cs (.fill z)) (drain : ∀ z, ls.StaysOff o cs (.drain z))
    (conveyor : ls.claimsOf o .conveyor = (cs.on .conveyor).toList) :
    QuietDrives ls (ls.applySets [(o, cs)]) where
  fill z := (fill z).drive
  drain z := (drain z).drive
  conveyor := by rw [Lines.drive, Lines.applySets_get_of_stands conveyor]; rfl

/-! ### The guards of a zone -/

/-- The LEVEL_GUARD claims off the heaters: a BLOCK on FILL while the level is UNKNOWN (R54). -/
theorem levelGuardClaims_on (z : Zone) (slot : SlotState) (level : Reading) {id : LineId}
    (ha : id ≠ .heatA z) (hb : id ≠ .heatB z) :
    (levelGuardClaims z slot level).on id
      = if level.judged = none ∧ id = .fill z then some .block else none := by
  unfold levelGuardClaims
  cases level.judged with
  | none => simp [ha, hb]
  | some v => by_cases below : levelBelowSafe slot v = true <;> simp [below, ha, hb]

/-- The TEMP_GUARD claims are on the heaters alone (R53). -/
theorem tempGuardClaims_on (z : Zone) (temperature : Reading) {id : LineId}
    (ha : id ≠ .heatA z) (hb : id ≠ .heatB z) : (tempGuardClaims z temperature).on id = none := by
  unfold tempGuardClaims
  split <;> simp [ha, hb]

/-- Where the claims stand, LEVEL_GUARD re-evaluated from the same reading leaves the drives that
the detectors watch, whatever the slot has become (R54). -/
theorem levelGuard_quiet {s : State} (h : s.ClaimsStand) {ls : Lines} {z : Zone}
    (same : ∀ id, ls.get id = s.lg.get id) (slot : SlotState) :
    QuietDrives ls
      (ls.applySets [(.levelGuard z, levelGuardClaims z slot (s.smp.channels.get z).level.reading)]) := by
  have stands : ∀ id : LineId, id ≠ .heatA z → id ≠ .heatB z → ls.claimsOf (.levelGuard z) id
      = ((levelGuardClaims z slot (s.smp.channels.get z).level.reading).on id).toList := by
    intro id ha hb
    rw [Lines.claimsOf, same, ← Lines.claimsOf, h (.levelGuard z) id, State.ownerWants,
      levelGuardClaims_on _ _ _ ha hb, levelGuardClaims_on _ _ _ ha hb]
  exact Lines.quiet_of_staysOff (fun w => .inl (stands _ (by simp) (by simp)))
    (fun w => .inl (stands _ (by simp) (by simp))) (stands _ (by simp) (by simp))

/-- LEVEL_GUARD from an UNKNOWN level turns no drive on (R54). -/
theorem levelGuard_unknown_quiet {s : State} (h : s.ClaimsStand) (z : Zone) (slot : SlotState) :
    QuietDrives s.lg (s.lg.applySets [(.levelGuard z, levelGuardClaims z slot .unknown)]) := by
  have stands : ∀ id : LineId, id ≠ .heatA z → id ≠ .heatB z → id ≠ .fill z →
      s.lg.claimsOf (.levelGuard z) id = ((levelGuardClaims z slot .unknown).on id).toList := by
    intro id ha hb hf
    rw [h (.levelGuard z) id, State.ownerWants, levelGuardClaims_on _ _ _ ha hb,
      levelGuardClaims_on _ _ _ ha hb]
    simp [hf]
  refine Lines.quiet_of_staysOff (fun w => ?_) (fun w => .inl (stands _ (by simp) (by simp) (by simp)))
    (stands _ (by simp) (by simp) (by simp))
  by_cases own : w = z
  · exact .inr (by simp [levelGuardClaims, Reading.judged, own])
  · exact .inl (stands _ (by simp) (by simp) (by simpa using own))

/-- TEMP_GUARD leaves the drives that the detectors watch (R53). -/
theorem tempGuard_quiet {s : State} (h : s.ClaimsStand) (z : Zone) (temperature : Reading) :
    QuietDrives s.lg (s.lg.applySets [(.tempGuard z, tempGuardClaims z temperature)]) := by
  have stands : ∀ id : LineId, id ≠ .heatA z → id ≠ .heatB z →
      s.lg.claimsOf (.tempGuard z) id = ((tempGuardClaims z temperature).on id).toList := by
    intro id ha hb
    rw [h (.tempGuard z) id, State.ownerWants, tempGuardClaims_on _ _ ha hb, tempGuardClaims_on _ _ ha hb]
  exact Lines.quiet_of_staysOff (fun w => .inl (stands _ (by simp) (by simp)))
    (fun w => .inl (stands _ (by simp) (by simp))) (stands _ (by simp) (by simp))

/-- Where the claims stand, a zone out of service that stays so has its ZONE_OFF claims already (R52). -/
theorem zoneOff_stands {s : State} (h : s.ClaimsStand) {z : Zone} {slot : SlotState}
    (was : (s.pmc.zones.get z).slot.isOnline = false) (is : slot.isOnline = false) (id : LineId) :
    (s.lg.applySets [(.zoneOff z, zoneOffClaims z slot)]).get id = s.lg.get id := by
  apply Lines.applySets_get_of_stands
  rw [h (.zoneOff z) id, State.ownerWants, zoneOffClaims_on, zoneOffClaims_on, was, is]

/-! ### ZONE_LOAD -/

/-- What a taken ZONE_LOAD leaves: the slot OFFLINE with the record, its guards re-evaluated (R7,
R55). -/
def State.zoneLoaded (z : Zone) (rec : ZoneRecord) (s : State) : State :=
  (s.setSlot z { s.pmc.zones.get z with slot := .offline rec }).guardLevel z
    (s.smp.channels.get z).level.reading

section
variable {s : State} {p : List Byte} {z : Zone}

theorem zoneLoadRequest_no_zone (h : 4 ≤ (p.getD 0 0).toNat) : zoneLoadRequest p s = (s, [0x12]) := by
  simp [zoneLoadRequest, zoneOperand_eq_none (n := u8 p 0) h, refuse, resBadArg]

theorem zoneLoadRequest_busy (hz : (p.getD 0 0).toNat = z.val)
    (h : (s.pmc.zones.get z).slot.isOnline = true) : zoneLoadRequest p s = (s, [0x14]) := by
  simp [zoneLoadRequest, show u8 p 0 = z.val from hz, zoneOperand_val, h, refuse, resZoneBusy]

theorem zoneLoadRequest_bad (hz : (p.getD 0 0).toNat = z.val)
    (h : (s.pmc.zones.get z).slot.isOnline = false) (hg : zoneLoadArgsGood p ≠ true) :
    zoneLoadRequest p s = (s, [0x12]) := by
  simp [zoneLoadRequest, show u8 p 0 = z.val from hz, zoneOperand_val, h, hg, refuse, resBadArg]

theorem zoneLoadRequest_taken (hz : (p.getD 0 0).toNat = z.val)
    (h : (s.pmc.zones.get z).slot.isOnline = false) (hg : zoneLoadArgsGood p = true) :
    zoneLoadRequest p s
      = (s.zoneLoaded z (zoneLoadRecord p).1, clampedReply (zoneLoadRecord p).2) := by
  simp [zoneLoadRequest, show u8 p 0 = z.val from hz, zoneOperand_val, h, hg, loadReply_eq,
    State.zoneLoaded]

end

section
variable (s : State) (z : Zone) (rec : ZoneRecord)

theorem State.zoneLoaded_pmc :
    (s.zoneLoaded z rec).pmc
      = { s.pmc with
          zones := s.pmc.zones.set z { slot := .offline rec, marker := (s.pmc.zones.get z).marker } } :=
  rfl

theorem State.zoneLoaded_claimOf {o : Owner} (hz : o ≠ .zoneOff z) (hl : o ≠ .levelGuard z)
    (id : LineId) : (s.zoneLoaded z rec).lg.claimOf o id = s.lg.claimOf o id := by
  simp [State.zoneLoaded, State.guardLevel, State.setSlot_claimOf, hz, hl]

/-- A ZONE_LOAD keeps the detectors (R114). -/
theorem State.zoneLoaded_fd (h : s.ClaimsStand) (off : (s.pmc.zones.get z).slot.isOnline = false) :
    (s.zoneLoaded z rec).fd = s.fd := by
  have same := zoneOff_stands (slot := .offline rec) h off rfl
  have first : QuietDrives s.lg (s.lg.applySets [(.zoneOff z, zoneOffClaims z (.offline rec))]) :=
    ⟨fun w => by simp [Lines.drive, same], fun w => by simp [Lines.drive, same], by simp [Lines.drive, same]⟩
  have second := levelGuard_quiet h (z := z) same (.offline rec)
  simp only [State.zoneLoaded, State.guardLevel, State.setSlot, State.applySets, State.setPmc,
    Four.get_set_same]
  rw [Fd.drivesChanged_of_quiet first, Fd.drivesChanged_of_quiet second]

end

/-! ### CHAN_LOAD -/

section
variable {s : State} {p : List Byte} {z : Zone}

theorem chanLoadRequest_no_zone (h : 16 ≤ (p.getD 0 0).toNat) : chanLoadRequest p s = (s, [0x12]) := by
  have : 4 ≤ u8 p 0 / 4 := by unfold u8; omega
  simp [chanLoadRequest, zoneOperand_eq_none this, refuse, resBadArg]

theorem chanLoadRequest_busy (hz : u8 p 0 / 4 = z.val) (h : (s.pmc.zones.get z).slot.isOnline = true) :
    chanLoadRequest p s = (s, [0x14]) := by
  simp [chanLoadRequest, hz, zoneOperand_val, h, refuse, resZoneBusy]

theorem chanLoadRequest_bad (hz : u8 p 0 / 4 = z.val) (h : (s.pmc.zones.get z).slot.isOnline = false)
    (hc : chanLoadResult p = none) : chanLoadRequest p s = (s, [0x12]) := by
  simp [chanLoadRequest, hz, zoneOperand_val, h, hc, refuse, resBadArg]

theorem chanLoadRequest_taken {q : Quantity} (hz : u8 p 0 / 4 = z.val) (hq : quantityOf (u8 p 0) = q)
    (h : (s.pmc.zones.get z).slot.isOnline = false) {c : Calibration} {listed : List Nat}
    (hc : chanLoadResult p = some (c, listed)) :
    chanLoadRequest p s = (s.writeCalibration z q c, clampedReply listed) := by
  simp [chanLoadRequest, hz, zoneOperand_val, h, hc, hq, loadReply_eq]

end

/-- The place of a quantity among the four channels of a zone (chapter 2.1). -/
def placeOf : Quantity → Nat
  | .temp => 0
  | .level => 1
  | .pressure => 2
  | .current => 3

theorem placeOf_lt (q : Quantity) : placeOf q < 4 := by
  cases q <;> decide

theorem quantityOf_channel (n : Nat) (q : Quantity) : quantityOf (4 * n + placeOf q) = q := by
  have place : (4 * n + placeOf q) % 4 = placeOf q := by
    have := placeOf_lt q
    omega
  rw [quantityOf, place]
  cases q <;> rfl

theorem Quad.get_set {α : Type} (v : Quad α) (q q' : Quantity) (a : α) :
    (v.set q a).get q' = if q' = q then a else v.get q' := by
  cases q <;> cases q' <;> rfl

/-- A CHAN_LOAD restarts the count of the channel's SENSOR case and touches no other (R156). -/
theorem Case.chanLoaded_eq (z : Zone) (q : Quantity) (c : Case) :
    c.chanLoaded z q
      = if c.proc = .sensor z q ∧ c.state ≠ .resolved then { c with counter := c.counter.map fun _ => 0 }
        else c := by
  have takes : c.takes (.sensor z q) = true ↔ c.proc = .sensor z q ∧ c.state ≠ .resolved := by
    cases h : c.proc <;> simp [Case.takes, Case.isResolved, Proc.key, h, and_comm]
  simp only [Case.chanLoaded, takes]

section
variable (s : State) (z : Zone) (q : Quantity) (c : Calibration)

/-- A CHAN_LOAD before the guard of its channel is re-evaluated (R26, R114, R156). -/
def State.calibrated : State :=
  { s with
    smp := { s.smp with
      channels := s.smp.channels.set z ((s.smp.channels.get z).set q (Channel.loaded c)) }
    fd := { s.fd with tanks := s.fd.tanks.set z ((s.fd.tanks.get z).chanLoaded q) }
    cm := { s.cm with table := s.cm.table.map (Case.chanLoaded z q) } }

theorem State.writeCalibration_eq : s.writeCalibration z q c = (s.calibrated z q c).guardLoaded z q := rfl

/-- The guard of a channel touches lines and detectors alone (R55). -/
theorem State.guardLoaded_frame :
    (s.guardLoaded z q).power = s.power ∧ (s.guardLoaded z q).pmc = s.pmc
      ∧ (s.guardLoaded z q).smp = s.smp ∧ (s.guardLoaded z q).rt = s.rt
      ∧ (s.guardLoaded z q).du = s.du ∧ (s.guardLoaded z q).cm = s.cm
      ∧ (s.guardLoaded z q).ck = s.ck ∧ (s.guardLoaded z q).lk = s.lk
      ∧ (s.guardLoaded z q).freeIndex = s.freeIndex ∧ (s.guardLoaded z q).pending = s.pending := by
  cases q <;> exact ⟨rfl, rfl, rfl, rfl, rfl, rfl, rfl, rfl, rfl, rfl⟩

/-- A CHAN_LOAD does to the detectors what R114 says, and no more. -/
theorem State.writeCalibration_fd (h : s.ClaimsStand) :
    (s.writeCalibration z q c).fd
      = { s.fd with tanks := s.fd.tanks.set z ((s.fd.tanks.get z).chanLoaded q) } := by
  rw [State.writeCalibration_eq]
  cases q with
  | temp => exact Fd.drivesChanged_of_quiet (tempGuard_quiet h z .unknown) _ _
  | level => exact Fd.drivesChanged_of_quiet (levelGuard_unknown_quiet h z _) _ _
  | pressure => rfl
  | current => rfl

end

/-! ### The loads as events -/

section
variable {s : State} {r : Request}

theorem exec_zoneLoad (s : State) :
    exec .zoneLoad s = .next (takeRequest 0x04 26 false zoneLoadRequest s) := rfl

theorem exec_chanLoad (s : State) :
    exec .chanLoad s = .next (takeRequest 0x05 10 false chanLoadRequest s) := rfl

theorem exec_limitsLoad (s : State) :
    exec .limitsLoad s = .next (takeRequest 0x06 41 false limitsLoadRequest s) := rfl

theorem zoneLoad_refused (ha : s.Asks r) (hm : s.pmc.mode ≠ .starting) (hk : r.kind = 0x04)
    (hl : r.payload.length = 26) {p : List Byte}
    (ho : zoneLoadRequest r.payload s.dropRequest = (s.dropRequest, p)) :
    exec .zoneLoad s = .next { s with lk := s.answered r p } := by
  rw [exec_zoneLoad, takeRequest_unchanged false ha hm (by simp [hk]) hl ho]

/-- A ZONE_LOAD that is taken: the record, the reply, and what stays (R2, R7, R191). -/
theorem zoneLoad_taken (ha : s.Asks r) (hm : s.pmc.mode ≠ .starting) (hk : r.kind = 0x04)
    (hl : r.payload.length = 26) {z : Zone} (hz : (r.payload.getD 0 0).toNat = z.val)
    (off : (s.pmc.zones.get z).slot.isOnline = false) (hg : zoneLoadArgsGood r.payload = true) :
    ∃ t rec listed, exec .zoneLoad s = .next t ∧ t.RepliesTo s r (clampedReply listed)
      ∧ t.pmc.zones.get z = { slot := .offline rec, marker := (s.pmc.zones.get z).marker }
      ∧ (∀ fw ∈ (zoneFields r.payload).zip rec.numbers, fw.1.Taken (sent16 r.payload 1) listed fw.2)
      ∧ rec.final = ((sent16 r.payload 1).testBit 11 && (r.payload.getD 25 0).toNat == 1)
      ∧ listed.Pairwise (· < ·) ∧ (∀ n ∈ listed, n ≤ 10)
      ∧ (∀ z', z' ≠ z → t.pmc.zones.get z' = s.pmc.zones.get z')
      ∧ (∀ o id, o ≠ .zoneOff z → o ≠ .levelGuard z → t.lg.claimOf o id = s.lg.claimOf o id)
      ∧ t.pmc.limits = s.pmc.limits ∧ t.pmc.mode = s.pmc.mode ∧ t.smp = s.smp ∧ t.rt = s.rt
      ∧ t.du = s.du ∧ t.cm = s.cm ∧ t.ck = s.ck ∧ t.SameOutside s
      ∧ (s.ClaimsStand → t.fd = s.fd) := by
  have taken := takeRequest_of_not_trigger (kind := 0x04) (length := 26) false ha hm (by simp [hk]) hl
    (zoneLoadRequest_taken (s := s.dropRequest) hz off hg) rfl
  have executed := (exec_zoneLoad s).trans (congrArg Host.Outcome.next taken)
  refine ⟨_, (zoneLoadRecord r.payload).1, (zoneLoadRecord r.payload).2, executed,
    State.answer_repliesTo rfl r _, ?_, fun fw h => zoneLoadRecord_taken _ h, zoneLoadRecord_final _,
    zoneLoadRecord_listed_pairwise _, fun n h => zoneLoadRecord_listed_le h, fun z' other => ?_,
    fun o id hz hl => ?_, rfl, rfl, rfl, rfl, rfl, rfl, rfl, ⟨rfl, rfl, rfl⟩, fun stand => ?_⟩
  · simp [State.zoneLoaded_pmc]
  · simp [State.zoneLoaded_pmc, other]
  · simp [State.zoneLoaded_claimOf _ _ _ hz hl]
  · exact State.zoneLoaded_fd s.dropRequest z (zoneLoadRecord r.payload).1 stand off

theorem chanLoad_refused (ha : s.Asks r) (hm : s.pmc.mode ≠ .starting) (hk : r.kind = 0x05)
    (hl : r.payload.length = 10) {p : List Byte}
    (ho : chanLoadRequest r.payload s.dropRequest = (s.dropRequest, p)) :
    exec .chanLoad s = .next { s with lk := s.answered r p } := by
  rw [exec_chanLoad, takeRequest_unchanged false ha hm (by simp [hk]) hl ho]

/-- A CHAN_LOAD that is taken: the channel, its detectors and its case, and what stays (R26, R114,
R156). -/
theorem chanLoad_taken (ha : s.Asks r) (hm : s.pmc.mode ≠ .starting) (hk : r.kind = 0x05)
    (hl : r.payload.length = 10) {z : Zone} {q : Quantity} (hz : u8 r.payload 0 / 4 = z.val)
    (hq : quantityOf (u8 r.payload 0) = q) (off : (s.pmc.zones.get z).slot.isOnline = false)
    {c : Calibration} {listed : List Nat} (hc : chanLoadResult r.payload = some (c, listed)) :
    ∃ t, exec .chanLoad s = .next t ∧ t.RepliesTo s r (clampedReply listed)
      ∧ (t.smp.channels.get z).get q = { calibration := some c, reading := .unknown, runCount := 0 }
      ∧ (∀ z' q', (z', q') ≠ (z, q) →
          (t.smp.channels.get z').get q' = (s.smp.channels.get z').get q')
      ∧ t.smp.travel = s.smp.travel ∧ t.pmc = s.pmc ∧ t.rt = s.rt ∧ t.du = s.du ∧ t.ck = s.ck
      ∧ t.SameOutside s
      ∧ (s.ClaimsStand →
          t.fd = { s.fd with tanks := s.fd.tanks.set z ((s.fd.tanks.get z).chanLoaded q) })
      ∧ t.cm = { s.cm with table := s.cm.table.map (Case.chanLoaded z q) } := by
  obtain ⟨power, pmc, smp, rt, du, cm, ck, lk, free, pending⟩ :=
    (s.dropRequest.calibrated z q c).guardLoaded_frame z q
  rw [← State.writeCalibration_eq] at power pmc smp rt du cm ck lk free pending
  have taken := takeRequest_of_not_trigger (kind := 0x05) (length := 10) false ha hm (by simp [hk]) hl
    (chanLoadRequest_taken (s := s.dropRequest) hz hq off hc) ck
  have executed := (exec_chanLoad s).trans (congrArg Host.Outcome.next taken)
  refine ⟨_, executed, State.answer_repliesTo (by rw [lk]; rfl) r _, ?_, ?_, ?_, pmc,
    rt, du, ck, ⟨power, free, pending⟩, fun stand => ?_, cm⟩
  · simp [smp, State.calibrated, Quad.get_set, Channel.loaded]
  · intro z' q' other
    simp only [State.answer_smp, smp, State.calibrated, State.dropRequest_smp, Four.get_set]
    split
    next same =>
      have : q' ≠ q := fun e => other (by rw [same, e])
      simp [Quad.get_set, this, same]
    · rfl
  · simp [smp, State.calibrated]
  · exact State.writeCalibration_fd s.dropRequest z q c stand

/-- LIMITS_LOAD is refused in RUN and HALT (R9). -/
theorem limitsLoad_refused (ha : s.Asks r) (hk : r.kind = 0x06) (hl : r.payload.length = 41)
    (h : s.pmc.mode = .run ∨ s.pmc.mode = .halt) :
    exec .limitsLoad s = .next { s with lk := s.answered r [0x13] } := by
  have refused : limitsLoadRequest r.payload s.dropRequest = (s.dropRequest, [0x13]) := by
    obtain h | h := h <;> simp [limitsLoadRequest, h, refuse, resWrongMode]
  have hm : s.pmc.mode ≠ .starting := by obtain h | h := h <;> simp [h]
  rw [exec_limitsLoad, takeRequest_unchanged false ha hm (by simp [hk]) hl refused]

/-- LIMITS_LOAD is taken in STANDBY and PREPARE, and writes the limits alone (R9). -/
theorem limitsLoad_taken (ha : s.Asks r) (hk : r.kind = 0x06) (hl : r.payload.length = 41)
    (h : s.pmc.mode = .standby ∨ s.pmc.mode = .prepare) :
    exec .limitsLoad s
      = .next { s with
          pmc := { s.pmc with limits := (limitsLoadResult r.payload s.pmc.limits).1 }
          lk := s.answered r (clampedReply (limitsLoadResult r.payload s.pmc.limits).2) } := by
  have owner : limitsLoadRequest r.payload s.dropRequest
      = (s.dropRequest.setPmc
            { s.pmc with limits := (limitsLoadResult r.payload s.pmc.limits).1 },
          clampedReply (limitsLoadResult r.payload s.pmc.limits).2) := by
    obtain h | h := h <;> simp [limitsLoadRequest, h, loadReply_eq]
  have hm : s.pmc.mode ≠ .starting := by obtain h | h := h <;> simp [h]
  rw [exec_limitsLoad, takeRequest_of_not_trigger false ha hm (by simp [hk]) hl owner rfl]
  rfl

end

/-- Settles O58: each load's tests, then what it makes of its fields and leaves of the state. -/
theorem loadsAreTaken : Obligations.LoadsAreTaken := by
  unfold Obligations.LoadsAreTaken
  intro s r ha hm
  refine ⟨fun presence hk hl hp => ?_, fun presence hk hl hp => ?_, fun presence hk hl hp => ?_⟩
  · subst hp
    refine ⟨fun h => zoneLoad_refused ha hm hk hl (zoneLoadRequest_no_zone h), fun z hz =>
      ⟨fun h => zoneLoad_refused ha hm hk hl (zoneLoadRequest_busy hz h), fun off bad => ?_,
        fun off good => ?_⟩⟩
    · exact zoneLoad_refused ha hm hk hl
        (zoneLoadRequest_bad hz off (fun h => bad ((zoneLoadArgsGood_iff _).mp h)))
    · exact zoneLoad_taken ha hm hk hl hz off ((zoneLoadArgsGood_iff _).mpr good)
  · subst hp
    refine ⟨fun h => chanLoad_refused ha hm hk hl (chanLoadRequest_no_zone h), fun z q hn => ?_⟩
    have channel : u8 r.payload 0 = 4 * z.val + placeOf q := hn
    have hz : u8 r.payload 0 / 4 = z.val := by
      have := placeOf_lt q
      omega
    have hq : quantityOf (u8 r.payload 0) = q := by rw [channel, quantityOf_channel]
    refine ⟨fun h => chanLoad_refused ha hm hk hl (chanLoadRequest_busy hz h), fun off bad => ?_,
      fun off good => ?_⟩
    · exact chanLoad_refused ha hm hk hl (chanLoadRequest_bad hz off (chanLoadResult_of_bad bad))
    · obtain ⟨t, executed, reply, chan, others, travel, pmc, rt, du, ck, outside, fd, cm⟩ :=
        chanLoad_taken ha hm hk hl hz hq off (chanLoadResult_of_good good.1 good.2)
      refine ⟨t, _, executed, reply, rfl, chan, others, travel, pmc, rt, du, ck, outside,
        fun stand => ?_, ?_, ?_⟩
      · rw [fd stand]
        refine ⟨rfl, fun z' other => by simp [other], ?_⟩
        rw [Four.get_set_same]
        cases q <;> rfl
      · rw [cm, funext (Case.chanLoaded_eq z q)]
      · rw [cm]
        simp only [List.map_map]
        refine List.map_congr_left fun c _ => ?_
        simp only [Function.comp_apply, Case.chanLoaded]
        split <;> rfl
  · subst hp
    refine ⟨limitsLoad_refused ha hk hl, fun h sound => ?_⟩
    obtain ⟨lo, hi, refLo, refHi⟩ := limitsLoadResult_doseSound r.payload sound
    have tRef : 400 ≤ (limitsLoadResult r.payload s.pmc.limits).1.tRef := lo.trans hi
    refine ⟨_, _, limitsLoad_taken ha hk hl h, fun fw hfw hn => limitsLoadResult_taken hfw hn,
      fun present => ?_, fun absent => ?_, limitsLoadResult_listed_pairwise,
      fun n hn => limitsLoadResult_listed_le hn, lo, hi⟩
    · have present : (limitsPresence r.payload).testBit 1 = true := present
      rw [one_mem_limitsLoadResult_listed, limitsLoadResult_doseFloor, doseFloorField_fst tRef, present]
      exact ⟨rfl, Iff.rfl⟩
    · have absent : (limitsPresence r.payload).testBit 1 = false := absent
      rw [one_mem_limitsLoadResult_listed, limitsLoadResult_doseFloor, doseFloorField_fst tRef, absent]
      exact ⟨rfl, Iff.rfl⟩

end Sys2Proof.Machine
end

section
/-! PROOF. Converter codes, calibration and the channel records (R30 to R35). -/

namespace Sys2Proof.Machine

/-! ### Converter codes -/

theorem Calibration.classify_eq (c : Calibration) (r : Nat) :
    c.classify r
      = if r + 40 < c.rawLo then none
        else if r < c.rawLo then some c.engLo
        else if r ≤ c.rawHi then some (c.convert r)
        else if r ≤ c.rawHi + 40 then some c.engHi
        else none := rfl

/-- Settles O3: the bounds of the bands, in the order in which the classification tests them. -/
theorem codesAreClassified : Obligations.CodesAreClassified := by
  unfold Obligations.CodesAreClassified
  intro c r h
  rw [Calibration.classify_eq]
  refine ⟨fun below => ?_, fun lo below => ?_, fun lo hi => ?_, fun above hi => ?_, fun above => ?_⟩
  · rw [if_pos (by omega)]
  · rw [if_neg (by omega), if_pos (by omega)]
  · rw [if_neg (by omega), if_neg (by omega), if_pos (by omega)]
  · rw [if_neg (by omega), if_neg (by omega), if_neg (by omega), if_pos (by omega)]
  · rw [if_neg (by omega), if_neg (by omega), if_neg (by omega), if_neg (by omega)]

/-! ### The line between the calibration points -/

/-- A quotient truncated toward zero, of a part `k` out of `d` of a distance `e`, lies between 0 and
the distance. -/
theorem tdiv_part_between {k d e : Int} (hd : 0 < d) (hk : 0 ≤ k) (hkd : k ≤ d) :
    min 0 e ≤ (k * e).tdiv d ∧ (k * e).tdiv d ≤ max 0 e := by
  have zero : (0 : Int).tdiv d = 0 := Int.zero_tdiv d
  have whole : (d * e).tdiv d = e := Int.mul_tdiv_cancel_left e hd.ne'
  obtain he | he := le_total 0 e
  · have lower := Int.tdiv_le_tdiv hd (mul_nonneg hk he)
    have upper := Int.tdiv_le_tdiv hd (mul_le_mul_of_nonneg_right hkd he)
    omega
  · have lower := Int.tdiv_le_tdiv hd (mul_le_mul_of_nonpos_right hkd he)
    have upper := Int.tdiv_le_tdiv hd (mul_nonpos_of_nonneg_of_nonpos hk he)
    omega

/-- The converted value is the quotient of R31, with the remainder that truncation toward zero leaves. -/
theorem Calibration.convert_mul_add_tmod (c : Calibration) (r : Nat) :
    (c.convert r - c.engLo) * ((c.rawHi : Int) - c.rawLo)
        + Int.tmod (((r : Int) - c.rawLo) * (c.engHi - c.engLo)) ((c.rawHi : Int) - c.rawLo)
      = ((r : Int) - c.rawLo) * (c.engHi - c.engLo) := by
  rw [Calibration.convert, add_sub_cancel_left, Int.tdiv_mul_add_tmod]

/-- Between the calibration points the converted value lies between the engineering values (R31). -/
theorem Calibration.convert_between {c : Calibration} {r : Nat} (h : c.rawLo < c.rawHi)
    (lo : c.rawLo ≤ r) (hi : r ≤ c.rawHi) :
    min c.engLo c.engHi ≤ c.convert r ∧ c.convert r ≤ max c.engLo c.engHi := by
  have part := tdiv_part_between (k := (r : Int) - c.rawLo) (d := (c.rawHi : Int) - c.rawLo)
    (e := c.engHi - c.engLo) (by omega) (by omega) (by omega)
  rw [Calibration.convert]
  omega

/-- Settles O4: the quotient on the line, and the clamp on each side of the range and within it. -/
theorem convertedReadingsInRange : Obligations.ConvertedReadingsInRange := by
  unfold Obligations.ConvertedReadingsInRange
  intro c q r h
  refine ⟨fun lo hi => ⟨c.convert_mul_add_tmod r, Calibration.convert_between h lo hi⟩,
    fun v upper hu => ?_⟩
  have range : quantityUpper q = upper := by rw [hu]; cases q <;> rfl
  simp only [clampReading, range]
  refine ⟨fun lo hi => ?_, fun below => ?_, fun above => ?_⟩ <;> omega

/-! ### Channel records -/

section
variable {q : Quantity} {ch : Channel} {c : Calibration} {code : Nat}

/-- A sample of an unconfigured channel is not taken (R35). -/
theorem Channel.sample_of_unconfigured (h : ch.calibration = none) :
    Channel.sample q ch code = (ch, false) := by
  simp [Channel.sample, h]

/-- A valid sample of a configured channel (R32). -/
theorem Channel.sample_of_valid (h : ch.calibration = some c) {v : Int} (hv : c.classify code = some v) :
    Channel.sample q ch code
      = ({ ch with reading := .valid (clampReading q v), runCount := 0 }, false) := by
  simp [Channel.sample, h, hv]

/-- An invalid sample of a configured channel (R33, R34). -/
theorem Channel.sample_of_invalid (h : ch.calibration = some c) (hv : c.classify code = none) :
    Channel.sample q ch code
      = ({ ch with reading := ch.reading.afterInvalid (min (ch.runCount + 1) 255)
                   runCount := min (ch.runCount + 1) 255 },
          decide (min (ch.runCount + 1) 255 = 4)) := by
  simp only [Channel.sample, h, hv]
  rfl

end

/-- A held value is STALE for three invalid samples, and UNKNOWN from the fourth on (R33). -/
theorem Reading.afterInvalid_of_held {r : Reading} {v : Nat} (h : r = .valid v ∨ r = .stale v) (n : Nat) :
    r.afterInvalid n = if n ≤ 3 then .stale v else .unknown := by
  obtain rfl | rfl := h <;> rfl

/-- Settles O5: the three things a sample can be, and for an invalid one the values it can find. -/
theorem channelValidity : Obligations.ChannelValidity := by
  unfold Obligations.ChannelValidity
  refine ⟨fun q ch code h => Channel.sample_of_unconfigured h,
    fun q ch c code h => ⟨fun v hv => Channel.sample_of_valid h hv, fun hv => ?_⟩⟩
  rw [Channel.sample_of_invalid h hv]
  refine ⟨h, rfl, ?_, fun v held => ⟨fun few => ?_, fun many => ?_⟩, fun unknown => ?_⟩
  · simp only [decide_eq_true_eq]
    omega
  · simp only [Reading.afterInvalid_of_held held]
    rw [if_pos (by omega)]
  · simp only [Reading.afterInvalid_of_held held]
    rw [if_neg (by omega)]
  · simp only [unknown]
    rfl

end Sys2Proof.Machine
end

section
/-! PROOF. What the work of the Case Manager and the entry events leave as they are: the sampler, the
zone records, the supply, and the link but for its events (R29, R101, R134). -/

namespace Sys2Proof.Machine

/-! ### The frame -/

theorem State.SameOutside.refl (s : State) : s.SameOutside s := ⟨rfl, rfl, rfl⟩

theorem State.SameOutside.trans {u t s : State} (hu : u.SameOutside t) (ht : t.SameOutside s) :
    u.SameOutside s := by
  obtain ⟨power, free, pending⟩ := ht
  obtain ⟨power', free', pending'⟩ := hu
  exact ⟨power'.trans power, free'.trans free, pending'.trans pending⟩

/-- The links of two states differ at most in notices that have joined the event queue and in the mode
announcement flag (R131, R182). -/
def Lk.OnlyEvents (l k : Lk) : Prop :=
  ∃ more flag, l = { k with events := k.events ++ more, modeFlag := flag }

theorem Lk.OnlyEvents.refl (k : Lk) : k.OnlyEvents k := ⟨[], k.modeFlag, by simp⟩

theorem Lk.OnlyEvents.trans {m l k : Lk} (hm : m.OnlyEvents l) (hl : l.OnlyEvents k) :
    m.OnlyEvents k := by
  obtain ⟨more, flag, rfl⟩ := hl
  obtain ⟨more', flag', rfl⟩ := hm
  exact ⟨more ++ more', flag', by simp⟩

/-- The traces and the outcomes pass whatever only announces (R181). -/
theorem Lk.OnlyEvents.queues {l k : Lk} (h : l.OnlyEvents k) :
    l.traceZone = k.traceZone ∧ l.traces = k.traces ∧ l.traceGap = k.traceGap
      ∧ l.outcomes = k.outcomes := by
  obtain ⟨more, flag, rfl⟩ := h
  exact ⟨rfl, rfl, rfl, rfl⟩

/-- What detections, case samples, mode changes and entry events keep: supply, free values and waiting
commands, the sampler, the record of every zone slot (whether ONLINE or not), and the link but for its
events. -/
structure State.Kept (t s : State) : Prop where
  outside : t.SameOutside s
  smp : t.smp = s.smp
  records : ∀ z, (t.pmc.zones.get z).slot.record = (s.pmc.zones.get z).slot.record
  lk : t.lk.OnlyEvents s.lk

/-- Two states that agree on what is kept. -/
theorem State.Kept.of_eq {t s : State} (outside : t.SameOutside s) (smp : t.smp = s.smp)
    (zones : t.pmc.zones = s.pmc.zones) (lk : t.lk = s.lk) : t.Kept s :=
  ⟨outside, smp, fun z => by rw [zones], lk ▸ .refl t.lk⟩

theorem State.Kept.refl (s : State) : s.Kept s := .of_eq (.refl s) rfl rfl rfl

theorem State.Kept.trans {u t s : State} (hu : u.Kept t) (ht : t.Kept s) : u.Kept s :=
  ⟨hu.outside.trans ht.outside, hu.smp.trans ht.smp, fun z => (hu.records z).trans (ht.records z),
    hu.lk.trans ht.lk⟩

/-- An operation behind a test. -/
theorem State.Kept.ite {u t s : State} {b : Prop} [Decidable b] (ht : t.Kept s) (hu : u.Kept t) :
    (if b then u else t).Kept s := by
  split
  · exact hu.trans ht
  · exact ht

theorem State.Kept.foldl {α : Type} {f : State → α → State} (hf : ∀ s a, (f s a).Kept s) (s : State)
    (as : List α) : (as.foldl f s).Kept s := by
  induction as generalizing s with
  | nil => exact .refl s
  | cons a as ih => exact (ih (f s a)).trans (hf s a)

/-! ### Block updates -/

theorem State.setRt_kept (s : State) (b : Rt) : (s.setRt b).Kept s := .of_eq (.refl s) rfl rfl rfl
theorem State.setCm_kept (s : State) (b : Cm) : (s.setCm b).Kept s := .of_eq (.refl s) rfl rfl rfl
theorem State.setDu_kept (s : State) (b : Dwell) : (s.setDu b).Kept s := .of_eq (.refl s) rfl rfl rfl
theorem State.setFd_kept (s : State) (b : Fd) : (s.setFd b).Kept s := .of_eq (.refl s) rfl rfl rfl

theorem State.putCase_kept (s : State) (c : Case) : (s.putCase c).Kept s := s.setCm_kept _

theorem State.trigger_kept (s : State) : s.trigger.Kept s := .of_eq (.refl s) rfl rfl rfl

theorem State.applySets_kept (s : State) (sets : List (Owner × ClaimSet)) : (s.applySets sets).Kept s :=
  .of_eq (.refl s) rfl rfl rfl

theorem State.commit_kept (s : State) : s.commit.Kept s :=
  .of_eq (by simp [State.SameOutside]) (by simp) (by simp) (by simp)

theorem State.endDwell_kept (s : State) : s.endDwell.Kept s := .of_eq (.refl s) rfl rfl rfl

/-! ### Announcements and suspension -/

/-- What changes the cases alone keeps the link but for its events. -/
theorem State.OnlyCases.onlyEvents {t s : State} (h : t.OnlyCases s) : t.lk.OnlyEvents s.lk := by
  obtain ⟨more, hm⟩ := h.lk
  exact ⟨more, s.lk.modeFlag, hm⟩

theorem State.announceCase_kept (s : State) (c : Case) : (s.announceCase c).Kept s :=
  ⟨by simp [State.SameOutside], by simp, by simp, (s.announceCase_onlyCases c).onlyEvents⟩

theorem State.evaluateSuspension_kept (s : State) : s.evaluateSuspension.Kept s :=
  ⟨by simp [State.SameOutside], by simp, by simp, s.evaluateSuspension_onlyCases.onlyEvents⟩

theorem State.announceMode_kept (s : State) : s.announceMode.Kept s := by
  refine ⟨by simp [State.SameOutside], by simp, by simp, ?_⟩
  unfold State.announceMode
  split
  · exact ⟨[s.modeNotice], false, rfl⟩
  · exact ⟨[], true, by simp⟩

/-! ### Zones -/

theorem SlotState.takenOff_record (slot : SlotState) : slot.takenOff.record = slot.record := by
  cases slot <;> rfl

/-- A slot that keeps its record, put into its place. -/
theorem record_set (zones : Four ZoneSlot) {z : Zone} {zs : ZoneSlot}
    (h : zs.slot.record = (zones.get z).slot.record) (w : Zone) :
    ((zones.set z zs).get w).slot.record = (zones.get w).slot.record := by
  rw [Four.get_set]
  split
  next e => rw [h, e]
  · rfl

theorem State.dwellZoneLeaves_kept (s : State) (z : Zone) : (s.dwellZoneLeaves z).Kept s := by
  unfold State.dwellZoneLeaves
  split
  · exact (State.Kept.refl s).ite s.endDwell_kept
  · exact .refl s

theorem State.takeOff_kept (s : State) (z : Zone) : (s.takeOff z).Kept s := by
  refine (State.dwellZoneLeaves_kept _ z).trans ⟨⟨rfl, rfl, rfl⟩, rfl, ?_, .refl s.lk⟩
  exact record_set s.pmc.zones (SlotState.takenOff_record _)

theorem State.addMarker_kept (id : Nat) (s : State) (z : Zone) : (s.addMarker id z).Kept s := by
  have marked : ∀ marker,
      (s.setPmc { s.pmc with
        zones := s.pmc.zones.set z { s.pmc.zones.get z with marker := marker } }).Kept s := fun marker =>
    ⟨.refl s, rfl, record_set s.pmc.zones rfl, .refl s.lk⟩
  simp only [State.addMarker]
  split
  · exact .refl s
  · exact (marked _).ite (State.takeOff_kept _ z)

theorem State.removeMarkers_kept (s : State) (id : Nat) : (s.removeMarkers id).Kept s :=
  ⟨.refl s, rfl, fun z => by simp [State.removeMarkers], .refl s.lk⟩

/-! ### Changes of a case, mode changes and detections -/

theorem State.linkGainedPumps_kept (s : State) (o : Option Case) (c : Case) :
    (s.linkGainedPumps o c).Kept s :=
  .foldl (fun s _ => (State.Kept.refl s).ite (s.setRt_kept _)) s _

theorem State.alterCase_kept (s : State) (old new : Case) : (s.alterCase old new).Kept s := by
  unfold State.alterCase
  extract_lets entered s1 s2 s3 s4 s5 s6
  have h1 : s1.Kept s := (State.applySets_kept _ _).trans (s.putCase_kept new)
  have h2 : s2.Kept s := (s1.linkGainedPumps_kept _ _).trans h1
  have h3 : s3.Kept s := h2.ite (s2.setRt_kept _)
  have h4 : s4.Kept s := (State.Kept.foldl (State.addMarker_kept new.id) s3 _).trans h3
  have h5 : s5.Kept s := h4.ite (s4.setRt_kept _)
  have h6 : s6.Kept s := h5.ite (s5.announceCase_kept new)
  exact h6.ite s6.trigger_kept

theorem State.settleAfter_kept (s : State) (old new : Case) : (s.settleAfter old new).Kept s :=
  (State.Kept.refl s).ite s.evaluateSuspension_kept

theorem State.changeCase_kept (s : State) (old new : Case) : (s.changeCase old new).Kept s :=
  (State.settleAfter_kept _ old new).trans (s.alterCase_kept old new)

theorem State.resolveCase_kept (s : State) (c : Case) : (s.resolveCase c).Kept s :=
  (State.changeCase_kept _ c c.resolve).trans (s.removeMarkers_kept c.id)

theorem State.advanceCase_kept (s : State) (old new : Case) : (s.advanceCase old new).Kept s := by
  unfold State.advanceCase
  split
  · exact (State.alterCase_kept _ old new).trans (s.removeMarkers_kept old.id)
  · exact s.alterCase_kept old new

theorem State.enterMode_kept (s : State) (m : Mode) (cause : HaltCause) : (s.enterMode m cause).Kept s := by
  unfold State.enterMode
  extract_lets leavesRun pmc q1 q2 q3
  have h1 : q1.Kept s := .of_eq (.refl s) rfl rfl rfl
  have h2 : q2.Kept s := h1.ite (q1.setDu_kept .inactive)
  have h3 : q3.Kept s := (q2.applySets_kept _).trans h2
  exact (State.trigger_kept _).trans (q3.announceMode_kept.trans h3)

theorem State.enterHalt_kept (s : State) (cause : HaltCause) : (s.enterHalt cause).Kept s := by
  unfold State.enterHalt
  split
  · exact .refl s
  · exact .refl s
  · exact s.enterMode_kept .halt cause

theorem State.automaticHalt_kept (s : State) (cause : HaltCause) : (s.automaticHalt cause).Kept s := by
  unfold State.automaticHalt
  split
  · exact .refl s
  · exact .refl s
  · exact (State.evaluateSuspension_kept _).trans (s.enterMode_kept .halt cause)

theorem State.openCase_kept (s : State) (d : Detection) : (s.openCase d).Kept s := by
  unfold State.openCase
  extract_lets id bare new cm s1 s2 s3 s4 s5 s6 s7
  have h2 : s2.Kept s := s1.evaluateSuspension_kept.trans (s.setCm_kept _)
  have h4 : s4.Kept s := (s3.linkGainedPumps_kept none new).trans ((s2.applySets_kept _).trans h2)
  have h5 : s5.Kept s := h4.ite (s4.setRt_kept _)
  have h6 : s6.Kept s := h5.ite (s5.setRt_kept _)
  have h7 : s7.Kept s := (State.Kept.foldl (State.addMarker_kept id) s6 _).trans h6
  exact (State.trigger_kept _).trans ((s7.announceCase_kept new).trans h7)

theorem State.detect_kept (s : State) (d : Detection) : (s.detect d).Kept s := by
  unfold State.detect
  split
  · exact s.changeCase_kept _ _
  · split
    · exact s.openCase_kept d
    · exact s.automaticHalt_kept _

theorem State.detectEvent_kept (s : State) (d : Detection) : (s.detectEvent d).Kept s :=
  (State.commit_kept _).trans (s.detect_kept d)

theorem State.entryEvent_kept (s : State) : s.entryEvent.Kept s :=
  .of_eq (by simp [State.SameOutside]) (by simp) (by simp) (by simp)

end Sys2Proof.Machine
end

section
/-! PROOF. A round of the Input Sampler: the zone sample with its consumers, and the inputs before it
(R27, R29, R36 to R39, R102, R134, R184). -/

namespace Sys2Proof.Machine

/-! ### The consumers of a zone sample -/

section
variable (z : Zone) (lines : Lines) (r : Quad Reading) (s : State)

theorem State.contactSample_kept : (s.contactSample z lines r).Kept s :=
  (State.Kept.refl s).ite (s.setRt_kept _)

theorem State.doseSample_kept : (s.doseSample z lines r).Kept s := by
  simp only [State.doseSample]
  split
  · exact s.setRt_kept _
  · exact .refl s

theorem State.dwellSample_kept : (s.dwellSample z).Kept s := by
  simp only [State.dwellSample]
  split
  · split
    · exact .refl s
    · exact (State.applySets_kept _ _).trans (s.setDu_kept _)
  · split
    · split
      · exact s.endDwell_kept
      · exact s.setDu_kept _
    · exact .refl s

theorem State.finalSample_kept : (s.finalSample z lines r).Kept s := by
  simp only [State.finalSample]
  split
  · exact .refl s
  · split
    · exact (s.doseSample_kept z lines r).ite (State.dwellSample_kept z _)
    · exact .refl s

/-- The Rack Tracker and the Dose Unit at a sample (R68, R85). -/
theorem State.accrued_kept : ((s.contactSample z lines r).finalSample z lines r).Kept s :=
  (State.finalSample_kept z lines r _).trans (s.contactSample_kept z lines r)

theorem State.detectorSample_kept (runs : List Quantity) : (s.detectorSample z lines r runs).1.Kept s := by
  unfold State.detectorSample
  split
  · exact .refl s
  · exact s.setFd_kept _

theorem State.guardSample_kept : (s.guardSample z r).Kept s := s.applySets_kept _

theorem State.caseSample_kept (rec : ZoneRecord) (id : Nat) : (s.caseSample z rec lines r id).Kept s := by
  unfold State.caseSample
  split
  · exact .refl s
  next c _ =>
    split
    · exact .refl s
    · extract_lets n q
      have halted := (s.advanceCase_kept c n.1).ite (b := n.2) (q.enterHalt_kept .unisolatedHeat)
      exact (State.commit_kept _).trans ((State.settleAfter_kept _ c n.1).trans halted)

theorem State.casesSample_kept (ids : List Nat) : (s.casesSample z lines r ids).Kept s := by
  unfold State.casesSample
  split
  · exact .refl s
  · exact .foldl (fun s id => s.caseSample_kept z lines r _ id) s ids

theorem State.managerSample_kept (ds : List Detection) (first : Nat) (ids : List Nat) :
    (s.managerSample z lines r ds first ids).Kept s :=
  (State.Kept.foldl State.detectEvent_kept _ _).trans
    ((State.casesSample_kept z lines r _ ids).trans (.foldl State.detectEvent_kept s _))

end

/-! ### The trace -/

/-- A notice that finds room joins the trace queue; one that does not is dropped, with the gap flag set
(R184). -/
theorem Lk.trace_eq (l : Lk) (n : TraceNotice) :
    l.trace n
      = if l.traces.length < 16 then { l with traces := l.traces ++ [n] } else { l with traceGap := true } :=
  rfl

theorem Lk.trace_zone (l : Lk) (n : TraceNotice) : (l.trace n).traceZone = l.traceZone := by
  rw [Lk.trace_eq]
  split <;> rfl

/-- Events queued before a trace notice make no difference to it. -/
theorem Lk.OnlyEvents.trace {l k : Lk} (h : l.OnlyEvents k) (n : TraceNotice) :
    (l.trace n).OnlyEvents (k.trace n) := by
  obtain ⟨more, flag, rfl⟩ := h
  simp only [Lk.trace_eq]
  split
  · exact ⟨more, flag, rfl⟩
  · exact ⟨more, flag, rfl⟩

theorem State.traceSample_of_selected {s : State} {z : Zone} (h : s.lk.traceZone = some z)
    (r : Quad Reading) : s.traceSample z r = s.setLk (s.lk.trace { zone := z, readings := r }) := if_pos h

theorem State.traceSample_of_not_selected {s : State} {z : Zone} (h : s.lk.traceZone ≠ some z)
    (r : Quad Reading) : s.traceSample z r = s := if_neg h

theorem State.Kept.traceSample {t s : State} (h : t.Kept s) (z : Zone) (r : Quad Reading) :
    (t.traceSample z r).Kept (s.traceSample z r) := by
  obtain ⟨zone, -⟩ := h.lk.queues
  by_cases selected : s.lk.traceZone = some z
  · rw [State.traceSample_of_selected selected, State.traceSample_of_selected (zone.trans selected)]
    exact ⟨h.outside, h.smp, h.records, h.lk.trace _⟩
  · rw [State.traceSample_of_not_selected selected,
      State.traceSample_of_not_selected (by rwa [zone])]
    exact h

/-! ### One zone sample -/

/-- The sampler after the conversion of a zone (R27). -/
def State.converted (codes : Quad Nat) (z : Zone) (s : State) : State :=
  s.setSmp { s.smp with channels := s.smp.channels.set z (sampleChannels (s.smp.channels.get z) codes).1 }

/-- The readings that a zone sample carries (R27). -/
def State.sampled (s : State) (codes : Quad Nat) (z : Zone) : Quad Reading :=
  readingsOf (sampleChannels (s.smp.channels.get z) codes).1

/-- Beyond the conversion and the trace, a zone sample keeps what its consumers keep (R29). -/
theorem State.zoneSample_kept (codes : Quad Nat) (order : ZoneOrder) (z : Zone) (s : State) :
    (s.zoneSample codes order z).Kept ((s.converted codes z).traceSample z (s.sampled codes z)) := by
  unfold State.zoneSample
  extract_lets conv r lines ids smp s1 s2 f s3
  have accrued : f.1.Kept (s.converted codes z) :=
    (State.detectorSample_kept z lines r s2 conv.2).trans (State.accrued_kept z lines r s1)
  have traced : s3.Kept ((s.converted codes z).traceSample z (s.sampled codes z)) :=
    accrued.traceSample z r
  split
  · exact (State.managerSample_kept z lines r _ f.2 _ ids).trans
      ((s3.guardSample_kept z r).trans traced)
  · exact (State.guardSample_kept z r _).trans
      ((State.managerSample_kept z lines r s3 f.2 _ ids).trans traced)

theorem State.traceSample_smp (z : Zone) (r : Quad Reading) (s : State) :
    (s.traceSample z r).smp = s.smp := by
  unfold State.traceSample
  split <;> rfl

theorem State.traceSample_sameOutside (z : Zone) (r : Quad Reading) (s : State) :
    (s.traceSample z r).SameOutside s := by
  unfold State.traceSample
  split
  · exact .refl s
  · exact .refl s

theorem State.zoneSample_sameOutside (codes : Quad Nat) (order : ZoneOrder) (z : Zone) (s : State) :
    (s.zoneSample codes order z).SameOutside s :=
  (s.zoneSample_kept codes order z).outside.trans (State.traceSample_sameOutside z _ _)

theorem State.zoneSample_smp (codes : Quad Nat) (order : ZoneOrder) (z : Zone) (s : State) :
    (s.zoneSample codes order z).smp = (s.converted codes z).smp := by
  rw [(s.zoneSample_kept codes order z).smp, State.traceSample_smp]

theorem State.zoneSample_channels (codes : Quad Nat) (order : ZoneOrder) (z w : Zone) (s : State) :
    (s.zoneSample codes order z).smp.channels.get w
      = if w = z then (sampleChannels (s.smp.channels.get z) codes).1 else s.smp.channels.get w := by
  rw [State.zoneSample_smp]
  exact Four.get_set ..

/-! ### What a zone sample does -/

section
variable {z : Zone} {s : State} (lines : Lines) (r : Quad Reading)

theorem State.managerSample_of_unconfigured (h : (s.pmc.zones.get z).slot.record = none) (first : Nat)
    (ids : List Nat) : s.managerSample z lines r [] first ids = s := by
  simp [State.managerSample, State.casesSample, h]

/-- The detections, and among them the sample at the cases: the record it is judged on stands through
the detections of the sample (R102, R134). -/
theorem State.managerSample_of_record {rec : ZoneRecord}
    (h : (s.pmc.zones.get z).slot.record = some rec) (ds : List Detection) (first : Nat)
    (ids : List Nat) :
    s.managerSample z lines r ds first ids
      = (ds.drop first).foldl State.detectEvent
          (ids.foldl (State.caseSample z rec lines r) ((ds.take first).foldl State.detectEvent s)) := by
  have stands := ((State.Kept.foldl State.detectEvent_kept s (ds.take first)).records z).trans h
  simp only [State.managerSample, State.casesSample, stands]

theorem State.detectorSample_of_unconfigured (h : (s.pmc.zones.get z).slot.record = none)
    (runs : List Quantity) : s.detectorSample z lines r runs = (s, []) := by
  simp only [State.detectorSample, h]

theorem State.detectorSample_of_record {rec : ZoneRecord}
    (h : (s.pmc.zones.get z).slot.record = some rec) (runs : List Quantity) :
    s.detectorSample z lines r runs
      = (s.setFd { s.fd with
            tanks := s.fd.tanks.set z
              ((s.fd.tanks.get z).sample lines z rec s.pmc.limits.leakWindow r).1 },
          ((s.fd.tanks.get z).sample lines z rec s.pmc.limits.leakWindow r).2
            ++ runs.map (Detection.sensor z)) := by
  simp only [State.detectorSample, h]

end

/-- The state after contact, dose and dwell of a zone sample (R68, R85). -/
def State.accrued (codes : Quad Nat) (z : Zone) (s : State) : State :=
  ((s.converted codes z).contactSample z s.lg (s.sampled codes z)).finalSample z s.lg (s.sampled codes z)

theorem State.accrued_pmc (codes : Quad Nat) (z : Zone) (s : State) : (s.accrued codes z).pmc = s.pmc := by
  simp [State.accrued, State.converted]

/-- The sample of an UNCONFIGURED zone: the trace and the guards (R29, R100). -/
theorem State.zoneSample_of_unconfigured {s : State} {z : Zone}
    (h : (s.pmc.zones.get z).slot.record = none) (codes : Quad Nat) (order : ZoneOrder) :
    s.zoneSample codes order z
      = ((s.accrued codes z).traceSample z (s.sampled codes z)).guardSample z (s.sampled codes z) := by
  have accrued : ((s.accrued codes z).pmc.zones.get z).slot.record = none := by
    rw [State.accrued_pmc, h]
  have detected := State.detectorSample_of_unconfigured s.lg (s.sampled codes z) accrued
    (sampleChannels (s.smp.channels.get z) codes).2
  have managed : ∀ t : State, t.pmc = (s.accrued codes z).pmc → ∀ first ids,
      t.managerSample z s.lg (s.sampled codes z) [] first ids = t := fun t same first ids =>
    State.managerSample_of_unconfigured s.lg _ (by rw [same, accrued]) first ids
  simp only [State.accrued, State.converted, State.sampled] at detected managed ⊢
  simp only [State.zoneSample, detected]
  split
  · rw [managed _ (by simp)]
  · rw [managed _ (by simp)]

/-- What the detectors of a configured tank make of a sample (R102). -/
def State.detected (codes : Quad Nat) (z : Zone) (rec : ZoneRecord) (s : State) : Tank × List Detection :=
  ((s.accrued codes z).fd.tanks.get z).sample s.lg z rec s.pmc.limits.leakWindow (s.sampled codes z)

/-- The detections of a sample in the order in which they are handed over, the SENSOR ones last (R102). -/
def State.found (codes : Quad Nat) (z : Zone) (rec : ZoneRecord) (s : State) : List Detection :=
  (s.detected codes z rec).2
    ++ (sampleChannels (s.smp.channels.get z) codes).2.map (Detection.sensor z)

/-- The state in which the detections of a sample are handed over (R29). -/
def State.surveyed (codes : Quad Nat) (z : Zone) (rec : ZoneRecord) (s : State) : State :=
  State.traceSample z (s.sampled codes z)
    ((s.accrued codes z).setFd
      { (s.accrued codes z).fd with
        tanks := (s.accrued codes z).fd.tanks.set z (s.detected codes z rec).1 })

/-- The detections of the sample that `s` has raised, and among them the sample itself at the cases
that stood in the table (R102, R134). -/
def State.managed (codes : Quad Nat) (z : Zone) (rec : ZoneRecord) (first : Nat) (s x : State) : State :=
  ((s.found codes z rec).drop first).foldl State.detectEvent
    ((s.cm.table.map (·.id)).foldl (State.caseSample z rec s.lg (s.sampled codes z))
      (((s.found codes z rec).take first).foldl State.detectEvent x))

/-- The sample of a configured zone: the consumers in their order (R29). -/
theorem State.zoneSample_of_record {s : State} {z : Zone} {rec : ZoneRecord}
    (h : (s.pmc.zones.get z).slot.record = some rec) (codes : Quad Nat) (order : ZoneOrder) :
    s.zoneSample codes order z
      = if order.guardsFirst then
          s.managed codes z rec order.detectionsFirst
            ((s.surveyed codes z rec).guardSample z (s.sampled codes z))
        else
          (s.managed codes z rec order.detectionsFirst (s.surveyed codes z rec)).guardSample z
            (s.sampled codes z) := by
  have accrued : ((s.accrued codes z).pmc.zones.get z).slot.record = some rec := by
    rw [State.accrued_pmc, h]
  have surveyed : (s.surveyed codes z rec).pmc = s.pmc := by
    simp [State.surveyed, State.accrued_pmc]
  have detected : (s.accrued codes z).detectorSample z s.lg (s.sampled codes z)
        (sampleChannels (s.smp.channels.get z) codes).2
      = ((s.accrued codes z).setFd
          { (s.accrued codes z).fd with
            tanks := (s.accrued codes z).fd.tanks.set z (s.detected codes z rec).1 },
          s.found codes z rec) := by
    rw [State.detectorSample_of_record s.lg _ accrued, State.accrued_pmc]
    rfl
  have managed : ∀ t : State, t.pmc = s.pmc →
      t.managerSample z s.lg (s.sampled codes z) (s.found codes z rec) order.detectionsFirst
          (s.cm.table.map (·.id))
        = s.managed codes z rec order.detectionsFirst t := fun t same =>
    State.managerSample_of_record s.lg _ (by rw [same, h]) _ _ _
  rw [← managed _ surveyed, ← managed _ (by simpa using surveyed), State.surveyed]
  unfold State.zoneSample
  extract_lets conv r lines ids smp s1 s2 f s3
  have f_eq : f = _ := detected
  simp only [s3, f_eq]
  rfl

/-! ### The inputs -/

theorem State.panEvent_kept (before : Smp) (s : State) : (s.panEvent before).Kept s :=
  (State.Kept.refl s).ite (s.detectEvent_kept .leakPan)

theorem State.eyeEvent_kept (before : Smp) (s : State) : (s.eyeEvent before).Kept s :=
  (State.Kept.refl s).ite ((State.commit_kept _).trans s.entryEvent_kept)

/-- The state of a round after its inputs: the debounced inputs, and their events in the order the
round gives (R36 to R39). -/
def State.inputsTaken (input : RoundInput) (s : State) : State :=
  let q := s.setSmp (s.smp.debounced input)
  if input.eyeFirst then (q.eyeEvent s.smp).panEvent s.smp else (q.panEvent s.smp).eyeEvent s.smp

theorem State.inputsTaken_kept (input : RoundInput) (s : State) :
    (s.inputsTaken input).Kept (s.setSmp (s.smp.debounced input)) := by
  simp only [State.inputsTaken]
  split
  · exact (State.panEvent_kept _ _).trans (State.eyeEvent_kept _ _)
  · exact (State.eyeEvent_kept _ _).trans (State.panEvent_kept _ _)

/-! ### The zones in order -/

/-- The zone samples of a round for some zones, in order (R27). -/
def State.sampleZones (input : RoundInput) (zs : List Zone) (s : State) : State :=
  zs.foldl (fun a z => a.zoneSample (input.codes.get z) (input.order.get z) z) s

theorem State.sampleRound_eq (input : RoundInput) (s : State) :
    s.sampleRound input = (s.inputsTaken input).sampleZones input Four.indices := rfl

theorem State.sampleZones_cons (input : RoundInput) (z : Zone) (zs : List Zone) (s : State) :
    s.sampleZones input (z :: zs)
      = (s.zoneSample (input.codes.get z) (input.order.get z) z).sampleZones input zs := rfl

theorem State.sampleZones_sameOutside (input : RoundInput) (zs : List Zone) (s : State) :
    (s.sampleZones input zs).SameOutside s := by
  induction zs generalizing s with
  | nil => exact .refl s
  | cons z zs ih =>
    rw [State.sampleZones_cons]
    exact (ih _).trans (s.zoneSample_sameOutside _ _ z)

/-- Of the sampler the zone samples change the channels alone (R27). -/
theorem State.sampleZones_smp (input : RoundInput) (zs : List Zone) (s : State) :
    (s.sampleZones input zs).smp = { s.smp with channels := (s.sampleZones input zs).smp.channels } := by
  induction zs generalizing s with
  | nil => rfl
  | cons z zs ih =>
    rw [State.sampleZones_cons, ih, State.zoneSample_smp]
    rfl

/-- A zone that is sampled once has its channels converted once, and one that is not keeps them (R27). -/
theorem State.sampleZones_channels (input : RoundInput) {zs : List Zone} (once : zs.Nodup) (s : State)
    (w : Zone) :
    (s.sampleZones input zs).smp.channels.get w
      = if w ∈ zs then (sampleChannels (s.smp.channels.get w) (input.codes.get w)).1
        else s.smp.channels.get w := by
  induction zs generalizing s with
  | nil => rfl
  | cons z zs ih =>
    obtain ⟨absent, once⟩ := List.nodup_cons.mp once
    rw [State.sampleZones_cons, ih once, State.zoneSample_channels]
    by_cases e : w = z
    · subst e; simp [absent]
    · simp [e]

/-- The link after the trace of some zones: of the selected one alone (R184). -/
def State.traceOf (input : RoundInput) (zs : List Zone) (s : State) : Lk :=
  match s.lk.traceZone with
  | none => s.lk
  | some z =>
    if z ∈ zs then s.lk.trace { zone := z, readings := s.sampled (input.codes.get z) z } else s.lk

theorem State.traceOf_of_mem {input : RoundInput} {zs : List Zone} {s : State} {z : Zone}
    (selected : s.lk.traceZone = some z) (h : z ∈ zs) :
    s.traceOf input zs
      = s.lk.trace { zone := z, readings := s.sampled (input.codes.get z) z } := by
  simp [State.traceOf, selected, h]

theorem State.traceOf_of_not_mem {input : RoundInput} {zs : List Zone} {s : State}
    (h : ∀ z ∈ zs, s.lk.traceZone ≠ some z) : s.traceOf input zs = s.lk := by
  unfold State.traceOf
  split
  · rfl
  next z selected => exact if_neg fun mem => h z mem selected

/-- The trace of the zones behind the first is that of the state before it, but for events. -/
theorem State.traceOf_cons (input : RoundInput) {z : Zone} {zs : List Zone} (absent : z ∉ zs) (s : State) :
    ((s.zoneSample (input.codes.get z) (input.order.get z) z).traceOf input zs).OnlyEvents
      (s.traceOf input (z :: zs)) := by
  have sampled := (s.zoneSample_kept (input.codes.get z) (input.order.get z) z).lk
  by_cases first : s.lk.traceZone = some z
  · rw [State.traceSample_of_selected (s := s.converted _ z) first] at sampled
    rw [State.traceOf_of_mem first (List.mem_cons_self ..), State.traceOf_of_not_mem]
    · exact sampled
    · intro w mem selected
      rw [sampled.queues.1, State.setLk_lk, Lk.trace_zone] at selected
      exact absent (Option.some.inj (first.symm.trans selected) ▸ mem)
  · rw [State.traceSample_of_not_selected (s := s.converted _ z) first] at sampled
    have zone := sampled.queues.1
    by_cases later : ∃ w ∈ zs, s.lk.traceZone = some w
    · obtain ⟨w, mem, selected⟩ := later
      have other : w ≠ z := fun e => absent (e ▸ mem)
      rw [State.traceOf_of_mem selected (List.mem_cons_of_mem z mem),
        State.traceOf_of_mem (zone.trans selected) mem]
      simp only [State.sampled, State.zoneSample_channels, if_neg other]
      exact sampled.trace _
    · have none_later : ∀ w ∈ zs, s.lk.traceZone ≠ some w := fun w mem selected =>
        later ⟨w, mem, selected⟩
      rw [State.traceOf_of_not_mem fun w mem => zone.trans_ne (none_later w mem),
        State.traceOf_of_not_mem (s := s) (by simpa [first] using none_later)]
      exact sampled

theorem State.sampleZones_lk (input : RoundInput) {zs : List Zone} (once : zs.Nodup) (s : State) :
    (s.sampleZones input zs).lk.OnlyEvents (s.traceOf input zs) := by
  induction zs generalizing s with
  | nil => exact State.traceOf_of_not_mem (zs := []) (by simp) ▸ .refl s.lk
  | cons z zs ih =>
    obtain ⟨absent, once⟩ := List.nodup_cons.mp once
    exact (ih once _).trans (State.traceOf_cons input absent s)

/-! ### The round -/

section
variable {s : State} {input : RoundInput}

theorem exec_sampleRound (codes : input.codesInRange = true) (live : s.live = true) :
    exec (.sampleRound input) s
      = .next (if s.pmc.mode = .starting then s else s.sampleRound input) := by
  simp only [exec, execSampleRound, codes, live]
  by_cases h : s.pmc.mode = .starting <;> simp [h]

theorem State.inputsTaken_smp : (s.inputsTaken input).smp = s.smp.debounced input :=
  (s.inputsTaken_kept input).smp

theorem State.sampleRound_sameOutside : (s.sampleRound input).SameOutside s :=
  (State.sampleZones_sameOutside input Four.indices _).trans (s.inputsTaken_kept input).outside

theorem indices_nodup : Four.indices.Nodup := by decide

theorem mem_indices (z : Zone) : z ∈ Four.indices := by
  fin_cases z <;> decide

/-- A round converts every channel of every zone (R27). -/
theorem State.sampleRound_channels (z : Zone) :
    (s.sampleRound input).smp.channels.get z
      = (sampleChannels (s.smp.channels.get z) (input.codes.get z)).1 := by
  rw [State.sampleRound_eq, State.sampleZones_channels input indices_nodup, if_pos (mem_indices z),
    State.inputsTaken_smp]
  rfl

/-- The sampler after a round: the debounced inputs and the converted channels (R27, R37). -/
theorem State.sampleRound_smp :
    (s.sampleRound input).smp
      = { s.smp.debounced input with
          channels := Four.ofFn fun z =>
            (sampleChannels (s.smp.channels.get z) (input.codes.get z)).1 } := by
  have channels : (s.sampleRound input).smp.channels
      = Four.ofFn fun z => (sampleChannels (s.smp.channels.get z) (input.codes.get z)).1 := by
    simp only [← State.sampleRound_channels, Four.ofFn_get]
  rw [← channels, State.sampleRound_eq, State.sampleZones_smp, State.inputsTaken_smp]

/-- The link after a round: one notice of the zone that trace selects, and events (R184). -/
theorem State.sampleRound_lk :
    (s.sampleRound input).lk.OnlyEvents ((s.inputsTaken input).traceOf input Four.indices) :=
  State.sampleZones_lk input indices_nodup _

/-- With trace off a round leaves the trace queue and its gap flag (R184). -/
theorem State.sampleRound_untraced (off : s.lk.traceZone = none) :
    (s.sampleRound input).lk.traceZone = s.lk.traceZone
      ∧ (s.sampleRound input).lk.traces = s.lk.traces
      ∧ (s.sampleRound input).lk.traceGap = s.lk.traceGap := by
  have before := (s.inputsTaken_kept input).lk
  have after := s.sampleRound_lk (input := input)
  have untraced : (s.inputsTaken input).lk.traceZone = none := before.queues.1.trans off
  rw [State.traceOf_of_not_mem fun z _ => by simp [untraced]] at after
  obtain ⟨zone, traces, gap, -⟩ := (after.trans before).queues
  exact ⟨zone, traces, gap⟩

/-- With a zone selected a round makes one trace notice, with the readings of the zone's sample (R184). -/
theorem State.sampleRound_traced {z : Zone} (selected : s.lk.traceZone = some z) :
    let notice : TraceNotice :=
      { zone := z, readings := readingsOf ((s.sampleRound input).smp.channels.get z) }
    (s.sampleRound input).lk.OnlyEvents (s.lk.trace notice) := by
  have before := (s.inputsTaken_kept input).lk
  have after := s.sampleRound_lk (input := input)
  rw [State.traceOf_of_mem (before.queues.1.trans selected) (mem_indices z)] at after
  rw [State.sampleRound_channels]
  have readings : (s.inputsTaken input).sampled (input.codes.get z) z
      = readingsOf (sampleChannels (s.smp.channels.get z) (input.codes.get z)).1 := by
    rw [State.sampled, State.inputsTaken_smp]
    rfl
  rw [readings] at after
  exact after.trans (before.trace _)

end

/-- The trace queue and its gap flag after a round, by the room that the queue has (R184). -/
theorem State.sampleRound_traces {s : State} {input : RoundInput} {z : Zone}
    (selected : s.lk.traceZone = some z) :
    (s.sampleRound input).lk.traceZone = s.lk.traceZone
      ∧ (s.lk.traces.length < 16 →
          (s.sampleRound input).lk.traceGap = s.lk.traceGap
            ∧ (s.sampleRound input).lk.traces
                = s.lk.traces ++
                    [{ zone := z, readings := readingsOf ((s.sampleRound input).smp.channels.get z) }])
      ∧ (16 ≤ s.lk.traces.length →
          (s.sampleRound input).lk.traces = s.lk.traces ∧ (s.sampleRound input).lk.traceGap = true) := by
  obtain ⟨zone, traces, gap, -⟩ := (State.sampleRound_traced (input := input) selected).queues
  rw [Lk.trace_eq] at traces gap
  refine ⟨by rw [zone, Lk.trace_zone], fun room => ?_, fun full => ?_⟩
  · rw [if_pos room] at traces gap
    exact ⟨gap, traces⟩
  · rw [if_neg (by omega)] at traces gap
    exact ⟨traces, gap⟩

/-- The state with the debounced inputs, and their events in the order the round gives, test by test
(R36 to R39). -/
theorem State.inputsTaken_eq (input : RoundInput) (s : State) :
    let q := s.setSmp (s.smp.debounced input)
    let pan := fun a : State =>
      if s.smp.panWet = false ∧ q.smp.panWet = true then (a.detect .leakPan).commit else a
    let eye := fun a : State =>
      if s.smp.eyeBlocked = false ∧ q.smp.eyeBlocked = true then a.entryEvent.commit else a
    s.inputsTaken input = if input.eyeFirst then pan (eye q) else eye (pan q) := by
  intro q pan eye
  have panned : ∀ a : State, a.smp = q.smp → a.panEvent s.smp = pan a := fun a same => by
    simp [pan, State.panEvent, State.detectEvent, same]
  have eyed : ∀ a : State, a.smp = q.smp → a.eyeEvent s.smp = eye a := fun a same => by
    simp [eye, State.eyeEvent, same]
  have after_eye : (q.eyeEvent s.smp).smp = q.smp := (State.eyeEvent_kept s.smp q).smp
  have after_pan : (q.panEvent s.smp).smp = q.smp := (State.panEvent_kept s.smp q).smp
  rw [← eyed q rfl, ← panned q rfl, ← panned _ after_eye, ← eyed _ after_pan]
  rfl

/-- The trace of a sample, by the room that the trace queue has (R184). -/
theorem State.traceSample_eq (z : Zone) (r : Quad Reading) (s : State) :
    s.traceSample z r
      = if s.lk.traceZone = some z then
          if s.lk.traces.length < 16 then
            { s with lk := { s.lk with traces := s.lk.traces ++ [{ zone := z, readings := r }] } }
          else { s with lk := { s.lk with traceGap := true } }
        else s := by
  unfold State.traceSample
  split
  · rw [Lk.trace_eq]
    split <;> rfl
  · rfl

theorem SlotState.record_of_unconfigured {slot : SlotState} (h : slot = .unconfigured) :
    slot.record = none := by
  rw [h]
  rfl

/-- Settles O6: the frame of the round, its inputs and zones in order, and the consumers of one zone
sample. -/
theorem roundSamplesEveryInput : Obligations.RoundSamplesEveryInput := by
  unfold Obligations.RoundSamplesEveryInput
  intro s input codes live
  rw [exec_sampleRound codes live]
  refine ⟨fun starting => by rw [if_pos starting], fun real => ?_, fun real => ?_,
    fun a codes order z => ?_⟩
  · refine ⟨_, by rw [if_neg real], State.sampleRound_smp, by simp, State.sampleRound_sameOutside, ?_⟩
    cases selected : s.lk.traceZone with
    | none =>
      obtain ⟨zone, traces, gap⟩ := State.sampleRound_untraced (input := input) selected
      exact ⟨zone.trans selected, fun _ => ⟨traces, gap⟩, nofun⟩
    | some z =>
      obtain ⟨zone, room, full⟩ := State.sampleRound_traces (input := input) selected
      refine ⟨zone.trans selected, nofun, fun z' same => ?_⟩
      obtain rfl := Option.some.inj same
      exact ⟨room, full⟩
  · simp only [if_neg real, State.sampleRound_eq, State.inputsTaken_eq]
    rfl
  · refine ⟨fun q => by cases q <;> rfl, fun unconfigured => ?_, fun rec record => ?_⟩
    · rw [State.zoneSample_of_unconfigured (SlotState.record_of_unconfigured unconfigured),
        State.traceSample_eq]
      rfl
    · rw [State.zoneSample_of_record record, State.surveyed, State.traceSample_eq]
      rfl

end Sys2Proof.Machine
end

section
/-! PROOF. Every command completes and leaves the queue of waiting commands as it was (R30, R44, R199). -/

namespace Sys2Proof.Machine

/-! ### Requests -/

/-- A request leaves the supply, the free values and the waiting commands as its owner does (R180). -/
theorem takeRequest_sameOutside {owner : List Byte → State → Answered}
    (ho : ∀ p s, (owner p s).1.SameOutside s) (kind length : Nat) (inStarting : Bool) (s : State) :
    (takeRequest kind length inStarting owner s).SameOutside s := by
  unfold takeRequest
  split
  · exact .refl s
  next r _ =>
    split
    · refine (State.commit_kept _).outside.trans ?_
      change ((s.dropRequest.handle length inStarting owner r.payload).1).SameOutside s.dropRequest
      unfold State.handle
      split
      · exact .refl _
      · split
        · exact .refl _
        · exact ho r.payload s.dropRequest
    · exact .refl s

theorem State.changeMode_sameOutside (s : State) (m : Mode) (cause : HaltCause) :
    (s.changeMode m cause).SameOutside s := by
  simp [State.SameOutside]

theorem State.flushMode_sameOutside (s : State) (reason : FlushReason) (m : Mode) (cause : HaltCause) :
    ((s.flush reason).changeMode m cause).SameOutside s := by
  simp [State.SameOutside]

theorem State.enterRun_sameOutside (s : State) : s.enterRun.SameOutside s := by
  simp only [State.enterRun]
  split <;> simp [State.SameOutside]

theorem modeTable_sameOutside (target : Mode) (force : Bool) (s : State) :
    (modeTable target force s).1.SameOutside s := by
  simp only [modeTable, modePrepareFromStandby, modeRunFromPrepare, modeStandby, ok, refuse]
  repeat' split
  all_goals simp only [State.SameOutside.refl, State.changeMode_sameOutside, State.flushMode_sameOutside,
    State.enterRun_sameOutside]

theorem modeRequest_sameOutside (p : List Byte) (s : State) : (modeRequest p s).1.SameOutside s := by
  unfold modeRequest
  split
  · exact .refl s
  · exact .refl s
  · split
    · exact .refl s
    · exact modeTable_sameOutside _ _ s

theorem zoneLoadRequest_sameOutside (p : List Byte) (s : State) :
    (zoneLoadRequest p s).1.SameOutside s := by
  unfold zoneLoadRequest
  repeat' split
  all_goals exact .refl s

theorem chanLoadRequest_sameOutside (p : List Byte) (s : State) :
    (chanLoadRequest p s).1.SameOutside s := by
  unfold chanLoadRequest
  repeat' split
  any_goals exact .refl s
  unfold State.writeCalibration State.guardLoaded
  split <;> exact .refl s

theorem limitsLoadRequest_sameOutside (p : List Byte) (s : State) :
    (limitsLoadRequest p s).1.SameOutside s := by
  unfold limitsLoadRequest
  split <;> exact .refl s

theorem zoneOnRequest_sameOutside (p : List Byte) (s : State) : (zoneOnRequest p s).1.SameOutside s := by
  simp only [zoneOnRequest]
  repeat' split
  all_goals exact .refl s

theorem zoneOffRequest_sameOutside (p : List Byte) (s : State) : (zoneOffRequest p s).1.SameOutside s := by
  unfold zoneOffRequest
  repeat' split
  any_goals exact .refl s
  exact (s.takeOff_kept _).outside

theorem haltClearRequest_sameOutside (p : List Byte) (s : State) :
    (haltClearRequest p s).1.SameOutside s := by
  unfold haltClearRequest
  split
  · exact s.flushMode_sameOutside _ _ _
  · exact .refl s

theorem caseClearRequest_sameOutside (p : List Byte) (s : State) :
    (caseClearRequest p s).1.SameOutside s := by
  unfold caseClearRequest
  repeat' split
  any_goals exact .refl s
  all_goals exact (s.resolveCase_kept _).outside

theorem caseRetryRequest_sameOutside (p : List Byte) (s : State) :
    (caseRetryRequest p s).1.SameOutside s := by
  unfold caseRetryRequest
  repeat' split
  any_goals exact .refl s
  simp [ok, State.SameOutside]

theorem zoneReadRequest_sameOutside (p : List Byte) (s : State) :
    (zoneReadRequest p s).1.SameOutside s := by
  unfold zoneReadRequest
  split <;> exact .refl s

theorem linesReadRequest_sameOutside (p : List Byte) (s : State) :
    (linesReadRequest p s).1.SameOutside s := by
  unfold linesReadRequest
  split <;> exact .refl s

theorem racksReadRequest_sameOutside (p : List Byte) (s : State) :
    (racksReadRequest p s).1.SameOutside s := by
  unfold racksReadRequest
  split <;> exact .refl s

theorem caseReadRequest_sameOutside (p : List Byte) (s : State) : (caseReadRequest p s).1.SameOutside s := by
  unfold caseReadRequest
  repeat' split
  all_goals exact .refl s

theorem traceRequest_sameOutside (p : List Byte) (s : State) : (traceRequest p s).1.SameOutside s := by
  unfold traceRequest
  repeat' split
  all_goals exact .refl s

/-! ### Events -/

theorem State.pulseDetectors_sameOutside (s : State) : s.pulseDetectors.SameOutside s := by
  simp only [State.pulseDetectors]
  repeat' split
  any_goals exact .refl s
  exact (State.resolveCase_kept _ _).outside

theorem State.pulse_sameOutside (trackerFirst : Bool) (s : State) : (s.pulse trackerFirst).SameOutside s := by
  have exits : ∀ q : State, q.testExits.SameOutside q := fun q => by simp [State.SameOutside]
  simp only [State.pulse]
  split
  · exact (State.commit_kept _).outside.trans ((State.pulseDetectors_sameOutside _).trans (exits _))
  · exact (State.commit_kept _).outside.trans ((exits _).trans (State.pulseDetectors_sameOutside _))

@[simp] theorem State.startingEnd_pending (s : State) : s.startingEnd.pending = s.pending := by
  simp only [State.startingEnd, State.commit_pending]
  split <;> simp [State.restore]

@[simp] theorem State.verifyComplete_pending (s : State) : s.verifyComplete.pending = s.pending := by
  unfold State.verifyComplete State.writeVerified State.writeFailed
  simp only []
  repeat' split
  all_goals simp

@[simp] theorem State.dwellExpiry_pending (s : State) : s.dwellExpiry.pending = s.pending := by
  unfold State.dwellExpiry
  split <;> simp

@[simp] theorem State.silenceExpiry_pending (s : State) : s.silenceExpiry.pending = s.pending := by
  unfold State.silenceExpiry
  split <;> simp

@[simp] theorem State.localiseExpiry_pending (s : State) : s.localiseExpiry.pending = s.pending := by
  unfold State.localiseExpiry
  split <;> simp

@[simp] theorem State.drainExpiry_pending (s : State) : s.drainExpiry.pending = s.pending := by
  unfold State.drainExpiry
  split <;> simp

@[simp] theorem State.leakVerifyExpiry_pending (s : State) : s.leakVerifyExpiry.pending = s.pending := by
  unfold State.leakVerifyExpiry
  split <;> simp [State.startLeakWatch]

@[simp] theorem State.purgeExpiry_pending (z : Zone) (s : State) :
    (s.purgeExpiry z).pending = s.pending := by
  unfold State.purgeExpiry
  split <;> simp

@[simp] theorem State.refillExpiry_pending (z : Zone) (s : State) :
    (s.refillExpiry z).pending = s.pending := by
  unfold State.refillExpiry
  split <;> simp

/-! ### Commands -/

theorem pending_branch {t u s : State} (b : Prop) [Decidable b] (ht : t.pending = s.pending)
    (hu : u.pending = s.pending) : (if b then t else u).pending = s.pending := by
  split
  · exact ht
  · exact hu

/-- An event that keeps the queue where its condition holds keeps it. -/
theorem pending_ite {t s : State} (b : Prop) [Decidable b] (h : t.pending = s.pending) :
    (if b then t else s).pending = s.pending :=
  pending_branch b h rfl

/-- A command completes and leaves the queue of waiting commands as it was. -/
def CompletesIn (c : Instr) (s : State) : Prop :=
  ∃ t, exec c s = .next t ∧ t.pending = s.pending

theorem request_completes {owner : List Byte → State → Answered}
    (ho : ∀ p s, (owner p s).1.SameOutside s) (kind length : Nat) (inStarting : Bool) {c : Instr}
    {s : State} (h : exec c s = .next (takeRequest kind length inStarting owner s)) :
    CompletesIn c s :=
  ⟨_, h, (takeRequest_sameOutside ho kind length inStarting s).2.2⟩

theorem unknownKind_completes (s : State) : CompletesIn .unknownKind s := by
  refine ⟨_, rfl, ?_⟩
  repeat' split
  all_goals rfl

/-- A line number below 22 names a line (R44). -/
theorem LineId.ofNumber_eq_none {line : Nat} : LineId.ofNumber line = none ↔ 22 ≤ line := by
  rw [LineId.ofNumber, List.getElem?_eq_none_iff]
  rfl

theorem requestInputChange_completes (line : Nat) (on : Bool) (s : State) :
    if line < 22 then CompletesIn (.requestInputChange line on) s
    else exec (.requestInputChange line on) s = .refused .noSuchInput := by
  simp only [CompletesIn, exec, execRequestInputChange]
  split
  next h =>
    cases e : LineId.ofNumber line with
    | none => exact absurd (LineId.ofNumber_eq_none.mp e) (by omega)
    | some id => exact ⟨_, rfl, pending_branch _ rfl rfl⟩
  next h => rw [LineId.ofNumber_eq_none.mpr (by omega)]

theorem sampleRound_completes (input : RoundInput) (s : State) :
    if input.codesInRange then CompletesIn (.sampleRound input) s
    else exec (.sampleRound input) s = .refused .noSuchInput := by
  simp only [CompletesIn, exec, execSampleRound]
  split
  next h => exact ⟨_, by rw [h]; rfl, pending_ite _ State.sampleRound_sameOutside.2.2⟩
  next h => simp [h]

/-- Settles O2: command by command; the two that can be ill-formed apart. -/
theorem commandsComplete : Obligations.CommandsComplete := by
  unfold Obligations.CommandsComplete
  intro c s
  change if c.wellFormed = true then CompletesIn c s else exec c s = .refused .noSuchInput
  cases c with
  | requestInputChange line on => simpa [Instr.wellFormed] using requestInputChange_completes line on s
  | sampleRound input => exact sampleRound_completes input s
  | powerReset strap => exact ⟨_, rfl, pending_branch _ rfl rfl⟩
  | pinReset strap => exact ⟨_, rfl, pending_branch _ rfl rfl⟩
  | performRestart strap => exact ⟨_, rfl, pending_ite _ rfl⟩
  | startingEnd => exact ⟨_, rfl, pending_ite _ (by simp)⟩
  | linkReset => exact ⟨_, rfl, pending_ite _ rfl⟩
  | rxByte data ending => exact ⟨_, rfl, pending_ite _ rfl⟩
  | frameGapTimeout => exact ⟨_, rfl, pending_ite _ rfl⟩
  | unknownKind => exact unknownKind_completes s
  | ident => exact request_completes (fun _ s => .refl s) _ _ _ rfl
  | status => exact request_completes (fun _ s => .refl s) _ _ _ rfl
  | mode => exact request_completes modeRequest_sameOutside _ _ _ rfl
  | zoneLoad => exact request_completes zoneLoadRequest_sameOutside _ _ _ rfl
  | chanLoad => exact request_completes chanLoadRequest_sameOutside _ _ _ rfl
  | limitsLoad => exact request_completes limitsLoadRequest_sameOutside _ _ _ rfl
  | zoneOn => exact request_completes zoneOnRequest_sameOutside _ _ _ rfl
  | zoneOff => exact request_completes zoneOffRequest_sameOutside _ _ _ rfl
  | zoneRead => exact request_completes zoneReadRequest_sameOutside _ _ _ rfl
  | linesRead => exact request_completes linesReadRequest_sameOutside _ _ _ rfl
  | racksRead => exact request_completes racksReadRequest_sameOutside _ _ _ rfl
  | caseRead => exact request_completes caseReadRequest_sameOutside _ _ _ rfl
  | caseClear => exact request_completes caseClearRequest_sameOutside _ _ _ rfl
  | caseRetry => exact request_completes caseRetryRequest_sameOutside _ _ _ rfl
  | haltClear => exact request_completes haltClearRequest_sameOutside _ _ _ rfl
  | trace => exact request_completes traceRequest_sameOutside _ _ _ rfl
  | restart => exact request_completes (fun _ s => .refl s) _ _ _ rfl
  | holdChange active => exact ⟨_, rfl, rfl⟩
  | transmitStart => exact ⟨_, rfl, pending_ite _ rfl⟩
  | replySent => exact ⟨_, rfl, pending_ite _ rfl⟩
  | eventNoticeSent => exact ⟨_, rfl, pending_ite _ (by simp)⟩
  | outcomeNoticeSent => exact ⟨_, rfl, pending_ite _ (by simp)⟩
  | traceNoticeSent => exact ⟨_, rfl, pending_ite _ rfl⟩
  | encoderPulse spaced trackerFirst =>
    exact ⟨_, rfl, pending_ite _ (s.pulse_sameOutside trackerFirst).2.2⟩
  | eraseComplete => exact ⟨_, rfl, pending_ite _ rfl⟩
  | programComplete damage => exact ⟨_, rfl, pending_ite _ rfl⟩
  | verifyComplete => exact ⟨_, rfl, pending_ite _ (by simp)⟩
  | dwellExpiry => exact ⟨_, rfl, pending_ite _ (by simp)⟩
  | leakWindowExpiry tank => exact ⟨_, rfl, pending_ite _ rfl⟩
  | encoderSilenceExpiry => exact ⟨_, rfl, pending_ite _ (by simp)⟩
  | localiseExpiry => exact ⟨_, rfl, pending_ite _ (by simp)⟩
  | drainTimeoutExpiry => exact ⟨_, rfl, pending_ite _ (by simp)⟩
  | leakVerifyExpiry => exact ⟨_, rfl, pending_ite _ (by simp)⟩
  | leakWatchExpiry => exact ⟨_, rfl, pending_ite _ rfl⟩
  | purgeExpiry zone => exact ⟨_, rfl, pending_ite _ (by simp)⟩
  | refillExpiry zone => exact ⟨_, rfl, pending_ite _ (by simp)⟩
  | powerLost => exact ⟨_, rfl, rfl⟩
  | resetPinAsserted => exact ⟨_, rfl, rfl⟩
  | breakEnd => exact ⟨_, rfl, pending_ite _ rfl⟩

end Sys2Proof.Machine
end

section
/-! PROOF. What the evaluation of suspension makes of the case table, and how a case ends (R57, R124,
R125, R128, R131, R132). -/

namespace Sys2Proof.Machine

/-! ### One record of the table -/

theorem replaceCase_ids (table : List Case) (c : Case) :
    (replaceCase table c).map (·.id) = table.map (·.id) := by
  simp only [replaceCase, List.map_map]
  refine List.map_congr_left fun o _ => ?_
  simp only [Function.comp]
  split
  next h => exact h.symm
  · rfl

theorem mem_replaceCase {table : List Case} {c o : Case} :
    o ∈ replaceCase table c ↔ (o = c ∧ ∃ p ∈ table, p.id = c.id) ∨ (o ∈ table ∧ o.id ≠ c.id) := by
  simp only [replaceCase, List.mem_map]
  constructor
  · rintro ⟨p, mem, rfl⟩
    split
    next h => exact .inl ⟨rfl, p, mem, h⟩
    next h => exact .inr ⟨mem, h⟩
  · rintro (⟨rfl, p, mem, h⟩ | ⟨mem, h⟩)
    · exact ⟨p, mem, if_pos h⟩
    · exact ⟨o, mem, if_neg h⟩

/-- A record replaced twice is the second (R118). -/
theorem replaceCase_replaceCase (table : List Case) {c d : Case} (h : d.id = c.id) :
    replaceCase (replaceCase table c) d = replaceCase table d := by
  simp only [replaceCase, List.map_map]
  refine List.map_congr_left fun o _ => ?_
  simp only [Function.comp, h]
  by_cases e : o.id = c.id <;> simp [e]

/-- A table comes of another by a change of the record with an id, or its removal: the ids stay in
their order, the other records stay. -/
structure ChangesOnly (id : Nat) (t s : List Case) : Prop where
  ids : (t.map (·.id)).Sublist (s.map (·.id))
  others : ∀ o : Case, o.id ≠ id → (o ∈ t ↔ o ∈ s)

theorem ChangesOnly.refl (id : Nat) (s : List Case) : ChangesOnly id s s := ⟨.refl _, fun _ _ => .rfl⟩

theorem ChangesOnly.trans {id : Nat} {u t s : List Case} (hu : ChangesOnly id u t)
    (ht : ChangesOnly id t s) : ChangesOnly id u s :=
  ⟨hu.ids.trans ht.ids, fun o ho => (hu.others o ho).trans (ht.others o ho)⟩

theorem replaceCase_changesOnly (table : List Case) (c : Case) :
    ChangesOnly c.id (replaceCase table c) table where
  ids := by rw [replaceCase_ids]
  others o ho := by
    rw [mem_replaceCase]
    constructor
    · rintro (⟨rfl, -⟩ | ⟨mem, -⟩)
      · exact absurd rfl ho
      · exact mem
    · exact fun mem => .inr ⟨mem, ho⟩

theorem removeCase_changesOnly (table : List Case) (id : Nat) :
    ChangesOnly id (table.filter fun o => o.id != id) table where
  ids := List.filter_sublist.map _
  others o ho := by simp [List.mem_filter, ho]

/-- The table after a case has been announced: a RESOLVED case whose notice is queued leaves, any other
has its flag cleared; with no room for the notice the flag is set (R131, R132). -/
theorem State.announceCase_table (s : State) (c : Case) :
    (s.announceCase c).cm.table
      = if s.lk.eventRoom then
          if c.isResolved then s.cm.table.filter fun o => o.id != c.id
          else replaceCase s.cm.table { c with announce := false }
        else replaceCase s.cm.table { c with announce := true } := by
  unfold State.announceCase State.serveCase
  simp only
  repeat' split
  all_goals rfl

theorem filter_replaceCase (table : List Case) (c : Case) :
    (replaceCase table c).filter (fun o => o.id != c.id) = table.filter fun o => o.id != c.id := by
  induction table with
  | nil => rfl
  | cons o table ih =>
    simp only [replaceCase, List.map_cons] at ih ⊢
    by_cases h : o.id = c.id <;> simp [h, ih]

/-- The table after a case has taken a new record, with its claims, and has been announced. -/
theorem State.put_announce_table (s : State) (sets : List (Owner × ClaimSet)) (c : Case) :
    (((s.putCase c).applySets sets).announceCase c).cm.table
      = if s.lk.eventRoom then
          if c.isResolved then s.cm.table.filter fun o => o.id != c.id
          else replaceCase s.cm.table { c with announce := false }
        else replaceCase s.cm.table { c with announce := true } := by
  have put : ((s.putCase c).applySets sets).cm.table = replaceCase s.cm.table c := rfl
  rw [State.announceCase_table, put, filter_replaceCase,
    replaceCase_replaceCase s.cm.table (c := c) (d := { c with announce := false }) rfl,
    replaceCase_replaceCase s.cm.table (c := c) (d := { c with announce := true }) rfl]
  rfl

theorem State.put_announce_changesOnly (s : State) (sets : List (Owner × ClaimSet)) (c : Case) :
    ChangesOnly c.id (((s.putCase c).applySets sets).announceCase c).cm.table s.cm.table := by
  rw [State.put_announce_table]
  repeat' split
  · exact removeCase_changesOnly _ _
  · exact replaceCase_changesOnly _ { c with announce := false }
  · exact replaceCase_changesOnly _ { c with announce := true }

/-! ### One case under suspension -/

theorem findCase_eq_some {table : List Case} {id : Nat} {c : Case} (h : findCase table id = some c) :
    c ∈ table ∧ c.id = id :=
  ⟨List.mem_of_find?_eq_some h, by simpa using List.find?_some h⟩

/-- Where each id stands once, a record of the table is the one with its id (R118). -/
theorem eq_of_mem_of_id {table : List Case} (once : (table.map (·.id)).Nodup) {c o : Case}
    (hc : c ∈ table) (ho : o ∈ table) (h : o.id = c.id) : o = c :=
  List.inj_on_of_nodup_map once ho hc h

theorem findCase_of_mem {table : List Case} (once : (table.map (·.id)).Nodup) {c : Case}
    (h : c ∈ table) : findCase table c.id = some c := by
  cases e : findCase table c.id with
  | none => exact absurd h fun mem => by simpa using List.find?_eq_none.mp e c mem
  | some o =>
    obtain ⟨mem, id⟩ := findCase_eq_some e
    rw [eq_of_mem_of_id once h mem id]

/-- Suspension evaluated for one id: nothing, where the flag stands as it is to stand; else the case's
flag and claims change, and it is announced (R124, R125). -/
theorem State.suspendOrResume_cases (s : State) (id : Nat) :
    s.suspendOrResume id = s
      ∨ ∃ c d, findCase s.cm.table id = some c ∧ c.heldBack s.pmc.mode s.cm.table ≠ c.suspended
          ∧ d = { c with suspended := c.heldBack s.pmc.mode s.cm.table }
          ∧ s.suspendOrResume id
              = ((s.putCase d).applySets [(.ofCase id, d.posted)]).announceCase d := by
  unfold State.suspendOrResume
  split
  · exact .inl rfl
  next c found =>
    by_cases h : c.heldBack s.pmc.mode s.cm.table = c.suspended
    · exact .inl (by simp [h])
    · exact .inr ⟨c, _, found, h, rfl, by simp [h]⟩

theorem State.suspendOrResume_changesOnly (s : State) (id : Nat) :
    ChangesOnly id (s.suspendOrResume id).cm.table s.cm.table := by
  obtain h | ⟨c, d, found, -, hd, h⟩ := s.suspendOrResume_cases id
  · rw [h]
    exact .refl id _
  · obtain rfl : d.id = id := by rw [hd]; exact (findCase_eq_some found).2
    rw [h]
    exact s.put_announce_changesOnly _ d

/-- No case with the id is to have its flag changed: each that stands in the table is RESOLVED and not
suspended. -/
def State.Finished (s : State) (id : Nat) : Prop :=
  ∀ o ∈ s.cm.table, o.id = id → o.isResolved = true ∧ o.suspended = false

/-- A RESOLVED case that is not suspended stays as it is (R124). -/
theorem State.suspendOrResume_of_finished {s : State} {id : Nat} (h : s.Finished id) :
    s.suspendOrResume id = s := by
  obtain same | ⟨c, d, found, changes, -⟩ := s.suspendOrResume_cases id
  · exact same
  · obtain ⟨mem, own⟩ := findCase_eq_some found
    obtain ⟨resolved, free⟩ := h c mem own
    exact absurd (by simp [Case.heldBack, resolved, free]) changes

/-- A case that is not RESOLVED keeps its record but for the two flags (R124, R131). -/
theorem State.suspendOrResume_keeps {s : State} (once : (s.cm.table.map (·.id)).Nodup) (id : Nat)
    {o : Case} (ho : o ∈ s.cm.table) (stands : o.isResolved = false) :
    ∃ o' ∈ (s.suspendOrResume id).cm.table, o'.bare = o.bare := by
  by_cases own : o.id = id
  · subst own
    obtain same | ⟨c, d, found, -, hd, h⟩ := s.suspendOrResume_cases o.id
    · exact ⟨o, by rwa [same], rfl⟩
    · obtain rfl : o = c := Option.some.inj ((findCase_of_mem once ho).symm.trans found)
      have replaced : ∀ b, { d with announce := b } ∈ replaceCase s.cm.table { d with announce := b } :=
        fun b => mem_replaceCase.mpr (.inl ⟨rfl, o, ho, by simp [hd]⟩)
      have bare : ∀ b, Case.bare { d with announce := b } = o.bare := fun b => by simp [hd, Case.bare]
      have d_stands : d.isResolved = false := by rw [hd]; exact stands
      rw [h, State.put_announce_table, d_stands]
      split
      · exact ⟨_, replaced false, bare false⟩
      · exact ⟨_, replaced true, bare true⟩
  · exact ⟨o, ((s.suspendOrResume_changesOnly id).others o own).mpr ho, rfl⟩

/-- Suspension evaluated for another id leaves the claims of a case. -/
theorem State.suspendOrResume_claims {s : State} {id n : Nat} (h : n ≠ id) (l : LineId) :
    (s.suspendOrResume id).lg.claimOf (.ofCase n) l = s.lg.claimOf (.ofCase n) l := by
  obtain same | ⟨c, d, -, -, -, same⟩ := s.suspendOrResume_cases id
  · rw [same]
  · rw [same]
    simp [h]

/-! ### Suspension over the table -/

/-- The records and the claims of one case are the same in two states. -/
def State.SameCase (t s : State) (n : Nat) : Prop :=
  (∀ o : Case, o.id = n → (o ∈ t.cm.table ↔ o ∈ s.cm.table))
    ∧ ∀ l, t.lg.claimOf (.ofCase n) l = s.lg.claimOf (.ofCase n) l

theorem State.SameCase.refl (s : State) (n : Nat) : s.SameCase s n := ⟨fun _ _ => .rfl, fun _ => rfl⟩

theorem State.SameCase.trans {u t s : State} {n : Nat} (hu : u.SameCase t n) (ht : t.SameCase s n) :
    u.SameCase s n :=
  ⟨fun o ho => (hu.1 o ho).trans (ht.1 o ho), fun l => (hu.2 l).trans (ht.2 l)⟩

theorem State.SameCase.finished {t s : State} {n : Nat} (h : t.SameCase s n) (hs : s.Finished n) :
    t.Finished n := fun o mem own => hs o ((h.1 o own).mp mem) own

theorem State.suspendOrResume_sameCase {s : State} {n : Nat} (h : s.Finished n) (id : Nat) :
    (s.suspendOrResume id).SameCase s n := by
  by_cases own : n = id
  · subst own
    rw [State.suspendOrResume_of_finished h]
    exact .refl s n
  · exact ⟨fun o ho => (s.suspendOrResume_changesOnly id).others o (ho.trans_ne own),
      State.suspendOrResume_claims own⟩

theorem foldl_suspendOrResume_sameCase (ids : List Nat) {s : State} {n : Nat} (h : s.Finished n) :
    (ids.foldl State.suspendOrResume s).SameCase s n := by
  induction ids generalizing s with
  | nil => exact .refl s n
  | cons id ids ih =>
    have first := State.suspendOrResume_sameCase h id
    exact (ih (first.finished h)).trans first

theorem foldl_suspendOrResume_keeps (ids : List Nat) {s : State} (once : (s.cm.table.map (·.id)).Nodup)
    {o : Case} (ho : o ∈ s.cm.table) (stands : o.isResolved = false) :
    ∃ o' ∈ (ids.foldl State.suspendOrResume s).cm.table, o'.bare = o.bare := by
  induction ids generalizing s o with
  | nil => exact ⟨o, ho, rfl⟩
  | cons id ids ih =>
    obtain ⟨p, hp, same⟩ := State.suspendOrResume_keeps once id ho stands
    have state : p.state = o.state := by simpa [Case.bare] using congrArg Case.state same
    have p_stands : p.isResolved = false := by rwa [Case.isResolved, state]
    obtain ⟨o', ho', same'⟩ := ih (once.sublist (s.suspendOrResume_changesOnly id).ids) hp p_stands
    exact ⟨o', ho', same'.trans same⟩

/-- What every step of an evaluation of suspension keeps, the evaluation keeps. -/
theorem State.evaluateSuspension_induct {P : State → Prop} (put : ∀ s c, P s → P (s.putCase c))
    (sets : ∀ s cs, P s → P (State.applySets cs s)) (announce : ∀ s c, P s → P (s.announceCase c))
    {s : State} (h : P s) : P s.evaluateSuspension := by
  unfold State.evaluateSuspension
  generalize s.cm.table.map (·.id) = ids
  induction ids generalizing s with
  | nil => exact h
  | cons id ids ih =>
    refine ih ?_
    obtain same | ⟨c, d, -, -, -, same⟩ := s.suspendOrResume_cases id
    · rwa [same]
    · rw [same]
      exact announce _ _ (sets _ _ (put _ _ h))

/-! ### The end of a case -/

theorem Case.resolve_posted (c : Case) : c.resolve.posted = [] := by
  cases h : c.proc <;> simp [Case.posted, Case.resolve, Case.wanted, h]

theorem Case.resolve_marks (c : Case) : c.resolve.marks = [] := by
  cases h : c.proc <;> simp [Case.marks, Case.resolve, h]

theorem Case.resolve_leakHandling (c : Case) : c.resolve.leakHandling = false := by
  simp [Case.leakHandling, Case.resolve, CaseState.suspends]

/-- A case that has no BLOCK on a pump links no rack (R127). -/
theorem State.linkGainedPumps_of_posted_nil {new : Case} (h : new.posted = []) (old : Option Case)
    (s : State) : s.linkGainedPumps old new = s := by
  simp [State.linkGainedPumps, Four.indices, Case.blocksPump, h]

/-- A case becomes RESOLVED: its claims leave the lines and it is announced (R57, R131). -/
theorem State.alterCase_resolve {c : Case} (h : c.isResolved = false) (s : State) :
    s.alterCase c c.resolve
      = (((s.putCase c.resolve).applySets [(.ofCase c.id, [])]).announceCase c.resolve).trigger := by
  have entered : (c.state != c.resolve.state) = true := by simpa [Case.isResolved, Case.resolve] using h
  have not_manual : c.resolve.state ≠ .manual := by simp [Case.resolve]
  simp [State.alterCase, entered, not_manual, Case.resolve_posted, Case.resolve_leakHandling,
    Case.gainedMarks, Case.resolve_marks, State.linkGainedPumps_of_posted_nil (Case.resolve_posted c)]
  rfl

/-- The state in which a case has gone RESOLVED, before suspension is evaluated. -/
def State.caseResolved (s : State) (c : Case) : State :=
  ((((s.removeMarkers c.id).putCase c.resolve).applySets [(.ofCase c.id, [])]).announceCase
    c.resolve).trigger

theorem State.resolveCase_eq {c : Case} (h : c.isResolved = false) (s : State) :
    s.resolveCase c = (s.caseResolved c).evaluateSuspension := by
  have entered : (c.state != c.resolve.state) = true := by simpa [Case.isResolved, Case.resolve] using h
  simp only [State.resolveCase, State.changeCase, State.settleAfter, entered, if_true,
    State.alterCase_resolve h]
  rfl

section
variable {s : State} {c : Case}

theorem State.caseResolved_table :
    (s.caseResolved c).cm.table
      = if s.lk.eventRoom then s.cm.table.filter fun o => o.id != c.id
        else replaceCase s.cm.table { c.resolve with announce := true } := by
  rw [State.caseResolved, State.trigger_cm, State.put_announce_table]
  rfl

theorem State.caseResolved_changesOnly : ChangesOnly c.id (s.caseResolved c).cm.table s.cm.table :=
  State.put_announce_changesOnly (s.removeMarkers c.id) _ c.resolve

/-- The RESOLVED case, with its notice waiting, or nothing of it. -/
theorem State.caseResolved_record {o : Case} (h : o ∈ (s.caseResolved c).cm.table) (own : o.id = c.id) :
    o = { c.resolve with announce := true } := by
  rw [State.caseResolved_table] at h
  split at h
  · simp [List.mem_filter, own] at h
  · obtain ⟨same, -⟩ | ⟨-, other⟩ := mem_replaceCase.mp h
    · exact same
    · exact absurd own other

theorem State.caseResolved_finished : (s.caseResolved c).Finished c.id := fun o ho own => by
  rw [State.caseResolved_record ho own]
  exact ⟨rfl, rfl⟩

theorem State.caseResolved_claims (l : LineId) : (s.caseResolved c).lg.claimOf (.ofCase c.id) l = none := by
  simp [State.caseResolved]

theorem State.resolveCase_sameCase (h : c.isResolved = false) :
    (s.resolveCase c).SameCase (s.caseResolved c) c.id := by
  rw [State.resolveCase_eq h]
  exact foldl_suspendOrResume_sameCase _ State.caseResolved_finished

@[simp] theorem State.resolveCase_pmc (h : c.isResolved = false) :
    (s.resolveCase c).pmc = (s.removeMarkers c.id).pmc := by
  simp [State.resolveCase_eq h, State.caseResolved]

/-- A case that goes RESOLVED ends (R57, R128, R132). -/
theorem State.resolveCase_ended (hc : c ∈ s.cm.table) (h : c.isResolved = false) :
    (s.resolveCase c).CaseEnded s c.id := by
  obtain ⟨records, claims⟩ := State.resolveCase_sameCase (s := s) h
  refine ⟨fun l => by rw [claims, State.caseResolved_claims], fun z => ?_, fun room o ho own => ?_,
    fun full => ?_⟩
  · simp [State.resolveCase_pmc h, State.removeMarkers]
  · have room : s.lk.eventRoom = true := by simpa [Lk.eventRoom] using room
    have left := (records o own).mp ho
    simp [State.caseResolved_table, room, List.mem_filter, own] at left
  · have full : s.lk.eventRoom = false := by simpa [Lk.eventRoom] using full
    refine ⟨_, (records { c.resolve with announce := true } rfl).mpr ?_, rfl, rfl, rfl⟩
    rw [State.caseResolved_table, full]
    exact mem_replaceCase.mpr (.inl ⟨rfl, c, hc, rfl⟩)

/-- The other cases stay when one goes RESOLVED (R124, R128). -/
theorem State.resolveCase_keepsOthers (once : (s.cm.table.map (·.id)).Nodup) (h : c.isResolved = false) :
    (s.resolveCase c).KeepsOtherCases s c.id := fun o ho other stands => by
  have changes := State.caseResolved_changesOnly (s := s) (c := c)
  rw [State.resolveCase_eq h]
  exact foldl_suspendOrResume_keeps _ (once.sublist changes.ids) ((changes.others o other).mpr ho) stands

end

end Sys2Proof.Machine
end

section
/-! PROOF. A travel event (R40, R69, R72 to R74, R112, R113): the exit test and the drain, the encoder
silence timer, and the end of the TRAVEL case. -/

namespace Sys2Proof.Machine

/-! ### The exit test -/

section
variable (travel : Word32) (required : Four Nat) (l : Limits)

/-- Past no EXITED record, the exit test takes the records at or beyond exit_position up to the first that
is short of it (R69). -/
theorem exitScan_inside {q : List Rack} (inside : ∀ r ∈ q, r.exited = false) :
    ∃ leaving staying, q = leaving ++ staying
      ∧ (∀ r ∈ leaving, l.exitPosition ≤ r.position travel)
      ∧ (∀ r, staying.head? = some r → r.position travel < l.exitPosition)
      ∧ exitScan travel required l q
          = leaving.map (fun r => r.exit travel required l.doseRequired) ++ staying := by
  induction q with
  | nil => exact ⟨[], [], rfl, by simp, by simp, rfl⟩
  | cons r rs ih =>
    have r_inside : r.exited = false := inside r (List.mem_cons_self ..)
    by_cases reached : l.exitPosition ≤ r.position travel
    · obtain ⟨leaving, staying, rfl, all, short, scan⟩ := ih fun x hx =>
        inside x (List.mem_cons_of_mem r hx)
      refine ⟨r :: leaving, staying, rfl, by simpa [reached] using all, short, ?_⟩
      simp [exitScan, r_inside, reached, scan]
    · refine ⟨[], r :: rs, rfl, by simp, ?_, by simp [exitScan, r_inside, reached]⟩
      rintro x h
      obtain rfl := Option.some.inj h
      exact Nat.lt_of_not_le reached

/-- The exit test on a queue with its EXITED records first: they wait, those behind that have reached
exit_position leave, the rest stays (R62, R69). -/
theorem exitScan_split {q : List Rack}
    (shaped : q.Pairwise fun a b => b.exited = true → a.exited = true) :
    ∃ waiting leaving staying, q = waiting ++ leaving ++ staying
      ∧ (∀ r ∈ waiting, r.exited = true)
      ∧ (∀ r ∈ leaving, r.exited = false ∧ l.exitPosition ≤ r.position travel)
      ∧ (∀ r ∈ staying, r.exited = false)
      ∧ (∀ r, staying.head? = some r → r.position travel < l.exitPosition)
      ∧ exitScan travel required l q
          = waiting ++ leaving.map (fun r => r.exit travel required l.doseRequired) ++ staying := by
  induction q with
  | nil => exact ⟨[], [], [], rfl, by simp, by simp, by simp, by simp, rfl⟩
  | cons r rs ih =>
    obtain ⟨behind, shaped⟩ := List.pairwise_cons.mp shaped
    by_cases exited : r.exited = true
    · obtain ⟨waiting, leaving, staying, split, wait, leave, stay, short, scan⟩ := ih shaped
      exact ⟨r :: waiting, leaving, staying, by simp [split], by simpa [exited] using wait, leave, stay,
        short, by simp [exitScan, exited, scan]⟩
    · have inside : ∀ x ∈ r :: rs, x.exited = false := by
        simpa [exited] using fun x hx => by simpa using mt (behind x hx) exited
      obtain ⟨leaving, staying, split, reached, short, scan⟩ := exitScan_inside travel required l inside
      rw [split] at inside ⊢
      exact ⟨[], leaving, staying, rfl, by simp,
        fun x hx => ⟨inside x (List.mem_append_left _ hx), reached x hx⟩,
        fun x hx => inside x (List.mem_append_right _ hx), short, by rw [← split]; exact scan⟩

end

/-! ### The drain -/

/-- A record that can be drained: EXITED with its outcome (R73). -/
def Rack.Ready (r : Rack) : Prop := r.exited = true ∧ r.outcome.isSome = true

/-- The drain takes the ready records at the head of the queue, as far as there is room, and stops at the
first that is not EXITED (R73). -/
theorem drainScan_ready (room : Nat) {ready staying : List Rack} (hr : ∀ r ∈ ready, r.Ready)
    (hs : ∀ r ∈ staying, r.exited = false) :
    drainScan room (ready ++ staying)
      = (ready.drop room ++ staying, (ready.take room).filterMap fun r => r.outcome.map r.notice) := by
  induction room generalizing ready with
  | zero => simp [drainScan]
  | succ room ih =>
    cases ready with
    | nil =>
      cases staying with
      | nil => rfl
      | cons r rs => simp [drainScan, hs r (List.mem_cons_self ..)]
    | cons r rs =>
      obtain ⟨exited, some_outcome⟩ := hr r (List.mem_cons_self ..)
      obtain ⟨o, ho⟩ := Option.isSome_iff_exists.mp some_outcome
      simp [drainScan, exited, ho, ih fun x hx => hr x (List.mem_cons_of_mem r hx)]

/-- The drain gives one notice for each record it takes (R72). -/
theorem drainScan_length (room : Nat) (q : List Rack) :
    (drainScan room q).2.length + (drainScan room q).1.length = q.length := by
  simpa [noticeTags, tagsOf] using congrArg List.length (drainScan_tags room q)

theorem exitScan_tags (travel : Word32) (required : Four Nat) (l : Limits) (q : List Rack) :
    tagsOf (exitScan travel required l q) = tagsOf q := by
  induction q with
  | nil => rfl
  | cons r rs ih =>
    simp only [tagsOf] at ih
    simp only [exitScan]
    repeat' split
    · simp [tagsOf, ih]
    · simp [tagsOf, ih, Rack.exit]
    · rfl

/-- What a travel event makes of the queue: the transit queue it leaves, and the notices (R69, R73). -/
def State.exits (s : State) : List Rack × List OutcomeNotice :=
  drainScan (queuePlaces - s.lk.outcomes.length)
    (exitScan s.smp.travel s.contactRequired s.pmc.limits s.rt.queue)

theorem State.testExits_rt (s : State) : s.testExits.rt = { s.rt with queue := s.exits.1 } := by
  simp [State.testExits, State.drainRacks_rt, State.drained, State.exits]

theorem State.testExits_lk (s : State) :
    s.testExits.lk = { s.lk with outcomes := s.lk.outcomes ++ s.exits.2 } := by
  simp [State.testExits, State.drainRacks_lk, State.drained, State.exits]

theorem State.drainRacks_lg (s : State) :
    s.drainRacks.lg = s.lg.applySets [(.outcomeStall, stallClaims s.drainRacks.lk.outcomes)] := by
  simp only [State.drainRacks]
  split <;> rfl

theorem State.testExits_lg (s : State) :
    s.testExits.lg = s.lg.applySets [(.outcomeStall, stallClaims s.testExits.lk.outcomes)] :=
  State.drainRacks_lg _

theorem State.testExits_fd (s : State) :
    s.testExits.fd = s.fd.drivesChanged s.lg s.testExits.lg s.pmc.limits := by
  simp only [State.testExits, State.drainRacks]
  split <;> rfl

/-- The stall claim stands on the CONVEYOR exactly with 16 notices (R74). -/
theorem stallClaims_conveyor {outcomes : List OutcomeNotice} (h : outcomes.length ≤ 16) :
    (stallClaims outcomes).on .conveyor = some .block ↔ outcomes.length = 16 := by
  unfold stallClaims queuePlaces
  split
  next full => simp [Nat.le_antisymm h full]
  next room => simp; omega

theorem stallClaims_of_room {outcomes : List OutcomeNotice} (h : outcomes.length < 16) :
    stallClaims outcomes = [] := if_neg (Nat.not_le.mpr h)

/-! ### The detectors at a pulse -/

/-- The Fault Detectors with a running silence timer restarted (R112). -/
def State.silenceRestarted (s : State) : State :=
  s.setFd { s.fd with silence := silenceAfterPulse s.pmc.limits s.fd.silence }

/-- At a pulse the Fault Detectors restart the timer, and with the CONVEYOR drive on the TRAVEL case
goes RESOLVED (R112, R113); in STARTING they take no event. -/
theorem State.pulseDetectors_eq (s : State) :
    s.pulseDetectors
      = if s.pmc.mode = .starting then s
        else if s.lg.drive .conveyor then
          match s.cm.table.find? (Case.takes .travel) with
          | some c => s.silenceRestarted.resolveCase c
          | none => s.silenceRestarted
        else s.silenceRestarted := by
  rfl

theorem State.pulseDetectors_cases (s : State) :
    (s.pmc.mode = .starting ∧ s.pulseDetectors = s)
      ∨ s.pulseDetectors = s.silenceRestarted
      ∨ ∃ c, c.isResolved = false ∧ s.pulseDetectors = s.silenceRestarted.resolveCase c := by
  rw [State.pulseDetectors_eq]
  split
  next starting => exact .inl ⟨starting, rfl⟩
  · split
    · split
      next c found =>
        have takes := List.find?_some found
        refine .inr (.inr ⟨c, ?_, rfl⟩)
        simp only [Case.takes, Bool.and_eq_true, Bool.not_eq_true'] at takes
        exact takes.1
      · exact .inr (.inl rfl)
    · exact .inr (.inl rfl)

/-- With the CONVEYOR drive off a pulse touches no case (R113). -/
theorem State.pulseDetectors_cm (s : State) (h : s.pmc.mode = .starting ∨ s.lg.drive .conveyor = false) :
    s.pulseDetectors.cm = s.cm := by
  rw [State.pulseDetectors_eq]
  obtain starting | off := h
  · rw [if_pos starting]
  · rw [off]
    split <;> rfl

/-- What the Fault Detectors leave at a pulse: all but the silence timer, and the TRAVEL case with its
claims, marks and notices. -/
structure State.EndsTravel (t s : State) : Prop where
  kept : t.Kept s
  rt : t.rt = s.rt
  mode : t.pmc.mode = s.pmc.mode
  limits : t.pmc.limits = s.pmc.limits
  claims : ∀ o id, (∀ n, o ≠ .ofCase n) → t.lg.claimOf o id = s.lg.claimOf o id

theorem State.EndsTravel.of_silence (s : State) : s.silenceRestarted.EndsTravel s :=
  ⟨s.setFd_kept _, rfl, rfl, rfl, fun _ _ _ => rfl⟩

theorem State.EndsTravel.trans {u t s : State} (hu : u.EndsTravel t) (ht : t.EndsTravel s) :
    u.EndsTravel s :=
  ⟨hu.kept.trans ht.kept, hu.rt.trans ht.rt, hu.mode.trans ht.mode, hu.limits.trans ht.limits,
    fun o id ho => (hu.claims o id ho).trans (ht.claims o id ho)⟩

theorem State.resolveCase_endsTravel {c : Case} (h : c.isResolved = false) (s : State) :
    (s.resolveCase c).EndsTravel s where
  kept := s.resolveCase_kept c
  rt := by simp [State.resolveCase_eq h, State.caseResolved]
  mode := by rw [State.resolveCase_pmc h]; rfl
  limits := by simp
  claims o id ho := by
    rw [State.resolveCase_eq h, (State.evaluateSuspension_onlyCases _).claims o id ho]
    simp [State.caseResolved, ho]

theorem State.pulseDetectors_endsTravel (s : State) : s.pulseDetectors.EndsTravel s := by
  obtain ⟨-, same⟩ | same | ⟨c, stands, same⟩ := s.pulseDetectors_cases
  · rw [same]
    exact ⟨.refl s, rfl, rfl, rfl, fun _ _ _ => rfl⟩
  · rw [same]
    exact .of_silence s
  · rw [same]
    exact (State.resolveCase_endsTravel stands _).trans (.of_silence s)

/-! ### The silence timer -/

/-- While the CONVEYOR drive is on the silence timer runs, with a time left of which `p` holds, as it
does of the full time (R112). -/
def State.SilenceRuns (p : Nat → Prop) (s : State) : Prop :=
  p (seconds s.pmc.limits.encoderSilence)
    ∧ (s.lg.drive .conveyor = true → ∃ ms, s.fd.silence = some ms ∧ p ms)

/-- A drive that goes on starts the timer in full; one that stays on leaves it (R112). -/
theorem silenceAfterDrive_runs {before now : Lines} {l : Limits} {timer : Option Nat} {p : Nat → Prop}
    (full : p (seconds l.encoderSilence))
    (runs : before.drive .conveyor = true → ∃ ms, timer = some ms ∧ p ms)
    (on : now.drive .conveyor = true) : ∃ ms, silenceAfterDrive before now l timer = some ms ∧ p ms := by
  unfold silenceAfterDrive
  split
  next same => exact runs (same.trans on)
  · exact ⟨_, rfl, full⟩

section
variable {p : Nat → Prop} {s : State}

theorem State.applySets_silenceRuns (h : s.SilenceRuns p) (sets : List (Owner × ClaimSet)) :
    (s.applySets sets).SilenceRuns p :=
  ⟨h.1, silenceAfterDrive_runs h.1 h.2⟩

theorem State.testExits_silenceRuns (h : s.SilenceRuns p) : s.testExits.SilenceRuns p := by
  unfold State.SilenceRuns
  rw [State.testExits_fd, State.testExits_pmc]
  exact ⟨h.1, silenceAfterDrive_runs h.1 h.2⟩

theorem State.announceCase_silenceRuns (h : s.SilenceRuns p) (c : Case) :
    (s.announceCase c).SilenceRuns p := by
  simpa [State.SilenceRuns] using h

/-- The end of a case leaves the silence timer running while the drive is on (R112). -/
theorem State.resolveCase_silenceRuns {c : Case} (stands : c.isResolved = false) (h : s.SilenceRuns p) :
    (s.resolveCase c).SilenceRuns p := by
  have posted : (((s.removeMarkers c.id).putCase c.resolve).applySets [(.ofCase c.id, [])]).SilenceRuns p :=
    State.applySets_silenceRuns (s := (s.removeMarkers c.id).putCase c.resolve) h _
  have resolved : (s.caseResolved c).SilenceRuns p := State.announceCase_silenceRuns posted c.resolve
  rw [State.resolveCase_eq stands]
  exact State.evaluateSuspension_induct (P := State.SilenceRuns p) (fun _ _ ht => ht)
    (fun _ cs ht => State.applySets_silenceRuns ht cs) (fun _ c ht => State.announceCase_silenceRuns ht c)
    resolved

/-- A pulse with the drive on has restarted the running silence timer (R112). -/
theorem State.pulseDetectors_silence (real : s.pmc.mode ≠ .starting) (h : s.SilenceRuns fun _ => True) :
    s.pulseDetectors.SilenceRuns fun ms => ms = seconds s.pmc.limits.encoderSilence := by
  have restarted : s.silenceRestarted.SilenceRuns fun ms => ms = seconds s.pmc.limits.encoderSilence := by
    refine ⟨rfl, fun on => ?_⟩
    obtain ⟨ms, runs, -⟩ := h.2 on
    exact ⟨_, by simp [State.silenceRestarted, runs, silenceAfterPulse], rfl⟩
  obtain ⟨starting, -⟩ | same | ⟨c, stands, same⟩ := s.pulseDetectors_cases
  · exact absurd starting real
  · rwa [same]
  · rw [same]
    exact State.resolveCase_silenceRuns stands restarted

end

end Sys2Proof.Machine
end

section
/-! PROOF. ENCODER_PULSE as an event (R40, R69, R72 to R74, R112, R113, R157): the racks, the stall claim,
the silence timer and the TRAVEL case after it, in either order of its consumers. -/

namespace Sys2Proof.Machine

/-! ### The racks of a travel event -/

/-- The OUTCOME notice of a record, its position taken at a travel (R72). -/
def Rack.noticeAt (travel : Word32) (r : Rack) (o : Outcome) : OutcomeNotice :=
  { tag := r.tag, outcome := o, mask := r.mask, contact := r.contact, dose := r.dose,
    exitPosition := r.position travel, links := r.links, linksMore := r.linksMore }

/-- A record that has exited stands at the position stored at its exit (R63, R72). -/
theorem Rack.notice_eq_noticeAt {r : Rack} (h : r.exitPosition.isSome = true) (travel : Word32)
    (o : Outcome) : r.notice o = r.noticeAt travel o := by
  obtain ⟨p, hp⟩ := Option.isSome_iff_exists.mp h
  simp [Rack.notice, Rack.noticeAt, Rack.position, hp]

/-- A record as an exit at the present travel leaves it, on the profile in force (R69, R70). -/
def State.exitOf (s : State) (r : Rack) : Rack :=
  r.exit s.smp.travel s.contactRequired s.pmc.limits.doseRequired

/-- How a travel event divides the transit queue: records that have exited before, those that exit now, and
those that stay inside (R62, R69). -/
structure State.ExitSplit (s : State) (waiting leaving staying : List Rack) : Prop where
  queue : s.rt.queue = waiting ++ leaving ++ staying
  exited : ∀ r ∈ waiting, r.exited = true
  reached : ∀ r ∈ leaving, r.exited = false ∧ s.pmc.limits.exitPosition ≤ r.position s.smp.travel
  inside : ∀ r ∈ staying, r.exited = false
  short : ∀ r, staying.head? = some r → r.position s.smp.travel < s.pmc.limits.exitPosition
  ready : ∀ r ∈ waiting ++ leaving.map s.exitOf, r.Ready ∧ r.exitPosition.isSome = true
  scan : exitScan s.smp.travel s.contactRequired s.pmc.limits s.rt.queue
    = waiting ++ leaving.map s.exitOf ++ staying

theorem State.exists_exitSplit {s : State} (shaped : s.rt.Shaped) :
    ∃ waiting leaving staying, s.ExitSplit waiting leaving staying := by
  obtain ⟨ordered, decided⟩ := shaped
  obtain ⟨waiting, leaving, staying, queue, wait, leave, stay, short, scan⟩ :=
    exitScan_split s.smp.travel s.contactRequired s.pmc.limits ordered
  refine ⟨waiting, leaving, staying, queue, wait, leave, stay, short, fun r hr => ?_, scan⟩
  obtain hr | hr := List.mem_append.mp hr
  · obtain ⟨outcome, position⟩ := decided r (by simp [queue, hr]) (wait r hr)
    exact ⟨⟨wait r hr, outcome⟩, position⟩
  · obtain ⟨x, -, rfl⟩ := List.mem_map.mp hr
    exact ⟨⟨rfl, rfl⟩, rfl⟩

section
variable {s : State} {waiting leaving staying : List Rack}

/-- How many records the drain takes: those that are ready, as far as the outcome queue has room (R73). -/
def State.drains (s : State) (ready : List Rack) : Nat := min (16 - s.lk.outcomes.length) ready.length

/-- The transit queue that a travel event leaves, and its notices (R69, R72, R73). -/
theorem State.ExitSplit.exits (h : s.ExitSplit waiting leaving staying) :
    s.exits
      = ((waiting ++ leaving.map s.exitOf).drop (s.drains (waiting ++ leaving)) ++ staying,
          ((waiting ++ leaving.map s.exitOf).take (s.drains (waiting ++ leaving))).filterMap fun r =>
            r.outcome.map (r.noticeAt s.smp.travel)) := by
  have drains : s.drains (waiting ++ leaving)
      = min (16 - s.lk.outcomes.length) (waiting ++ leaving.map s.exitOf).length := by
    simp [State.drains]
  rw [State.exits, h.scan, drainScan_ready _ (fun r hr => (h.ready r hr).1) h.inside, drains,
    ← List.take_eq_take_min, ← List.drop_eq_drop_min]
  refine Prod.ext rfl (List.filterMap_congr fun r hr => ?_)
  have position := (h.ready r (List.mem_of_mem_take hr)).2
  rw [funext (Rack.notice_eq_noticeAt position s.smp.travel)]

/-- The drain takes as many records as it gives notices. -/
theorem State.ExitSplit.notices (h : s.ExitSplit waiting leaving staying) :
    s.exits.2.length = s.drains (waiting ++ leaving) := by
  have total := drainScan_length (queuePlaces - s.lk.outcomes.length)
    (exitScan s.smp.travel s.contactRequired s.pmc.limits s.rt.queue)
  have left : s.exits.1.length
      = waiting.length + leaving.length - s.drains (waiting ++ leaving) + staying.length := by
    simp [h.exits]
  have taken : s.drains (waiting ++ leaving) ≤ waiting.length + leaving.length := by
    simp [State.drains]
  rw [← State.exits, h.scan] at total
  simp only [List.length_append, List.length_map] at total
  omega

theorem State.ExitSplit.room (h : s.ExitSplit waiting leaving staying) (room : s.lk.outcomes.length ≤ 16) :
    s.lk.outcomes.length + s.exits.2.length ≤ 16 := by
  rw [h.notices, State.drains]
  omega

/-- An EXITED record is left at the head only behind 16 notices (R73). -/
theorem State.ExitSplit.full (h : s.ExitSplit waiting leaving staying) {r : Rack}
    (head : s.exits.1.head? = some r) (exited : r.exited = true) (room : s.lk.outcomes.length ≤ 16) :
    s.lk.outcomes.length + s.exits.2.length = 16 := by
  rw [h.notices]
  by_cases all : waiting.length + leaving.length ≤ 16 - s.lk.outcomes.length
  · have drained : s.drains (waiting ++ leaving) = (waiting ++ leaving.map s.exitOf).length := by
      simp [State.drains, all]
    rw [h.exits, drained, List.drop_length, List.nil_append] at head
    have inside := h.inside r (List.mem_of_head? head)
    rw [exited] at inside
    cases inside
  · simp only [State.drains, List.length_append]
    omega

/-- The first record inside after a travel event is short of exit_position (R69). -/
theorem State.ExitSplit.first_inside (h : s.ExitSplit waiting leaving staying) {r : Rack}
    (first : (s.exits.1.find? fun r => !r.exited) = some r) :
    r.position s.smp.travel < s.pmc.limits.exitPosition := by
  have drained : ((waiting ++ leaving.map s.exitOf).drop (s.drains (waiting ++ leaving))).find?
      (fun r => !r.exited) = none := by
    refine List.find?_eq_none.mpr fun x hx => ?_
    simp [(h.ready x (List.mem_of_mem_drop hx)).1.1]
  rw [h.exits, List.find?_append, drained, Option.none_or] at first
  refine h.short r ?_
  cases e : staying with
  | nil => simp [e] at first
  | cons x xs =>
    have inside : x.exited = false := h.inside x (by simp [e])
    simpa [e, inside] using first

end

/-- A travel event loses and reorders no rack (R73). -/
theorem State.exits_tags (s : State) :
    noticeTags s.exits.2 ++ tagsOf s.exits.1 = tagsOf s.rt.queue := by
  rw [State.exits, drainScan_tags, exitScan_tags]

/-! ### The two orders -/

/-- The travel moved on by one pulse (R40). -/
def State.moved (s : State) : State :=
  s.setSmp { s.smp with travel := s.smp.travel + BitVec.ofNat 32 s.pmc.limits.mmPerPulse }

@[simp] theorem State.moved_pmc (s : State) : s.moved.pmc = s.pmc := rfl
@[simp] theorem State.moved_lg (s : State) : s.moved.lg = s.lg := rfl
@[simp] theorem State.moved_rt (s : State) : s.moved.rt = s.rt := rfl
@[simp] theorem State.moved_fd (s : State) : s.moved.fd = s.fd := rfl
@[simp] theorem State.moved_cm (s : State) : s.moved.cm = s.cm := rfl
@[simp] theorem State.moved_lk (s : State) : s.moved.lk = s.lk := rfl

theorem State.pulse_eq (trackerFirst : Bool) (s : State) :
    s.pulse trackerFirst
      = if trackerFirst then s.moved.testExits.pulseDetectors.commit
        else s.moved.pulseDetectors.testExits.commit := rfl

/-- What a travel event has made in a state where the travel has moved on already, whichever consumer came
first. -/
structure State.Travelled (t s : State) : Prop where
  smp : t.smp = s.smp
  rt : t.rt = { s.rt with queue := s.exits.1 }
  outcomes : t.lk.outcomes = s.lk.outcomes ++ s.exits.2
  mode : t.pmc.mode = s.pmc.mode
  limits : t.pmc.limits = s.pmc.limits
  outside : t.SameOutside s
  stall : ∀ id, t.lg.claimOf .outcomeStall id = (stallClaims t.lk.outcomes).on id

theorem State.testExits_travelled (s : State) : s.testExits.Travelled s where
  smp := by simp
  rt := s.testExits_rt
  outcomes := by rw [State.testExits_lk]
  mode := by simp
  limits := by simp
  outside := by simp [State.SameOutside]
  stall id := by rw [State.testExits_lg, Lines.claimOf_applySets_one, if_pos rfl]

theorem State.Travelled.commit {t s : State} (h : t.Travelled s) : t.commit.Travelled s where
  smp := by rw [State.commit_smp, h.smp]
  rt := by rw [State.commit_rt, h.rt]
  outcomes := by rw [State.commit_lk, h.outcomes]
  mode := by rw [State.commit_pmc, h.mode]
  limits := by rw [State.commit_pmc, h.limits]
  outside := t.commit_kept.outside.trans h.outside
  stall id := by rw [State.commit_lg, State.commit_lk, h.stall]

/-- The detectors behind the tracker change nothing of what it has made. -/
theorem State.EndsTravel.travelled {u t s : State} (hu : u.EndsTravel t) (ht : t.Travelled s) :
    u.Travelled s := by
  obtain ⟨-, -, -, outcomes⟩ := hu.kept.lk.queues
  exact ⟨hu.kept.smp.trans ht.smp, hu.rt.trans ht.rt, outcomes.trans ht.outcomes, hu.mode.trans ht.mode,
    hu.limits.trans ht.limits, hu.kept.outside.trans ht.outside, fun id => by
      rw [hu.claims _ _ (by simp), ht.stall, outcomes]⟩

/-- The exit test takes nothing that the detectors change. -/
theorem State.EndsTravel.exits {t s : State} (h : t.EndsTravel s) : t.exits = s.exits := by
  obtain ⟨-, -, -, outcomes⟩ := h.kept.lk.queues
  have required : t.contactRequired = s.contactRequired := by
    simp only [State.contactRequired, h.kept.records]
  rw [State.exits, State.exits, outcomes, h.kept.smp, required, h.limits, h.rt]

theorem State.Travelled.of_endsTravel {u t s : State} (hu : u.Travelled t) (ht : t.EndsTravel s) :
    u.Travelled s := by
  obtain ⟨-, -, -, outcomes⟩ := ht.kept.lk.queues
  exact ⟨hu.smp.trans ht.kept.smp, by rw [hu.rt, ht.exits, ht.rt], by rw [hu.outcomes, ht.exits, outcomes],
    hu.mode.trans ht.mode, hu.limits.trans ht.limits, hu.outside.trans ht.kept.outside, hu.stall⟩

theorem State.pulse_travelled (trackerFirst : Bool) (s : State) :
    (s.pulse trackerFirst).Travelled s.moved := by
  rw [State.pulse_eq]
  split
  · exact ((State.pulseDetectors_endsTravel _).travelled s.moved.testExits_travelled).commit
  · exact (s.moved.pulseDetectors.testExits_travelled.of_endsTravel
      (State.pulseDetectors_endsTravel _)).commit

/-! ### The silence timer and the TRAVEL case -/

/-- A pulse with the silence timer running restarts it, where the CONVEYOR drive is on at the end (R112). -/
theorem State.pulse_silence {s : State} (trackerFirst : Bool) (real : s.pmc.mode ≠ .starting) {ms : Nat}
    (runs : s.fd.silence = some ms) (on : (s.pulse trackerFirst).lg.drive .conveyor = true) :
    (s.pulse trackerFirst).fd.silence = some (seconds s.pmc.limits.encoderSilence) := by
  have running : s.moved.SilenceRuns fun _ => True := ⟨trivial, fun _ => ⟨ms, runs, trivial⟩⟩
  have restarted : (s.pulse trackerFirst).SilenceRuns fun ms =>
      ms = seconds s.pmc.limits.encoderSilence := by
    rw [State.pulse_eq]
    split
    · have first := State.testExits_silenceRuns running
      have both := State.pulseDetectors_silence (by simpa using real) first
      simpa [State.SilenceRuns] using both
    · have first := State.pulseDetectors_silence (s := s.moved) real running
      simpa [State.SilenceRuns] using State.testExits_silenceRuns first
  obtain ⟨left, timer, rfl⟩ := restarted.2 on
  exact timer

theorem State.pulse_cm {s : State} {trackerFirst : Bool}
    (h : s.pmc.mode = .starting ∨ (trackerFirst = false ∧ s.lg.drive .conveyor = false)) :
    (s.pulse trackerFirst).cm = s.cm := by
  rw [State.pulse_eq]
  split
  next first =>
    have starting : s.pmc.mode = .starting := h.resolve_right fun ⟨second, _⟩ => by simp [first] at second
    rw [State.commit_cm, State.pulseDetectors_cm _ (.inl (by simpa using starting)), State.testExits_cm,
      State.moved_cm]
  · rw [State.commit_cm, State.testExits_cm, State.pulseDetectors_cm s.moved (h.imp id And.right),
      State.moved_cm]

theorem eq_of_mem_of_length_le_one {α : Type} {l : List α} (h : l.length ≤ 1) {a b : α} (ha : a ∈ l)
    (hb : b ∈ l) : a = b := by
  cases l with
  | nil => cases ha
  | cons x xs =>
    obtain rfl : xs = [] := by simpa using h
    rw [List.mem_singleton.mp ha, List.mem_singleton.mp hb]

/-- In a sound table the case of a key is the one that is found by it (R120). -/
theorem State.TableSound.find_takes {s : State} (sound : s.TableSound) {k : Key} {c : Case}
    (hc : c ∈ s.cm.table) (takes : c.takes k = true) : s.cm.table.find? (Case.takes k) = some c := by
  obtain ⟨-, -, single⟩ := sound
  obtain ⟨d, found⟩ := Option.isSome_iff_exists.mp (List.find?_isSome.mpr ⟨c, hc, takes⟩)
  have one := single k
  rw [List.countP_eq_length_filter] at one
  have hc' := List.mem_filter.mpr ⟨hc, takes⟩
  have hd' := List.mem_filter.mpr ⟨List.mem_of_find?_eq_some found, List.find?_some found⟩
  rw [found, eq_of_mem_of_length_le_one one hd' hc']

theorem State.CaseEnded.congr {t t' s s' : State} {id : Nat} (h : t.CaseEnded s id)
    (claims : ∀ l, t'.lg.claimOf (.ofCase id) l = t.lg.claimOf (.ofCase id) l)
    (zones : t'.pmc.zones = t.pmc.zones) (table : t'.cm.table = t.cm.table)
    (events : s'.lk.events = s.lk.events) : t'.CaseEnded s' id := by
  obtain ⟨free, unmarked, left, waits⟩ := h
  rw [State.CaseEnded, zones, table, events]
  exact ⟨fun l => by rw [claims, free], unmarked, left, waits⟩

/-- The exit test stalls or frees the CONVEYOR alone: no claim of a case changes. -/
theorem State.testExits_claimOf_case (s : State) (n : Nat) (l : LineId) :
    s.testExits.lg.claimOf (.ofCase n) l = s.lg.claimOf (.ofCase n) l := by
  rw [State.testExits_lg, Lines.claimOf_applySets_one, if_neg (by simp)]

/-- Where the claims stand and the outcome queue keeps room, a travel event leaves the CONVEYOR drive (R74). -/
theorem State.testExits_drive {s : State} (stands : s.ClaimsStand) (room : s.testExits.lk.outcomes.length < 16) :
    s.testExits.lg.drive .conveyor = s.lg.drive .conveyor := by
  have before : s.lk.outcomes.length < 16 := by
    rw [State.testExits_lk, List.length_append] at room
    omega
  rw [State.testExits_lg, Lines.drive, Lines.drive, Lines.applySets_get_of_stands]
  rw [stands .outcomeStall .conveyor, State.ownerWants, stallClaims_of_room before, stallClaims_of_room room]

section
variable {s : State} {c : Case}

/-- A pulse with the CONVEYOR drive on ends the TRAVEL case, and no other (R113, R157). -/
theorem State.pulseDetectors_ended (sound : s.TableSound) (hc : c ∈ s.cm.table) (travel : c.proc = .travel)
    (stands : c.isResolved = false) (real : s.pmc.mode ≠ .starting) (on : s.lg.drive .conveyor = true) :
    s.pulseDetectors.CaseEnded s c.id ∧ s.pulseDetectors.KeepsOtherCases s c.id := by
  have takes : c.takes .travel = true := by simp [Case.takes, stands, travel, Proc.key]
  have once := sound.2.1
  have resolves : s.pulseDetectors = s.silenceRestarted.resolveCase c := by
    rw [State.pulseDetectors_eq, if_neg real, if_pos on, sound.find_takes hc takes]
  rw [resolves]
  exact ⟨State.resolveCase_ended (s := s.silenceRestarted) hc stands,
    State.resolveCase_keepsOthers (s := s.silenceRestarted) once stands⟩

/-- The TRAVEL case after a whole pulse: with the tracker first, as long as the outcome queue has not
filled (R74, R113, R157). -/
theorem State.pulse_ended {trackerFirst : Bool} (sound : s.TableSound) (claims : s.ClaimsStand)
    (hc : c ∈ s.cm.table) (travel : c.proc = .travel) (stands : c.isResolved = false)
    (real : s.pmc.mode ≠ .starting) (on : s.lg.drive .conveyor = true)
    (room : trackerFirst = false ∨ (s.pulse trackerFirst).lk.outcomes.length < 16) :
    (s.pulse trackerFirst).CaseEnded s c.id ∧ (s.pulse trackerFirst).KeepsOtherCases s c.id := by
  cases trackerFirst with
  | false =>
    obtain ⟨ended, keeps⟩ := State.pulseDetectors_ended (s := s.moved) sound hc travel stands real on
    rw [State.pulse_eq]
    refine ⟨ended.congr (fun l => ?_) (by simp) (by simp) rfl, fun o => ?_⟩
    · simp [State.testExits_claimOf_case]
    · simpa using keeps o
  | true =>
    have filled : s.moved.testExits.lk.outcomes.length < 16 := by
      have same := (s.pulse_travelled true).outcomes
      rw [State.testExits_travelled s.moved |>.outcomes, ← same]
      exact room.resolve_left (by simp)
    have still_on : s.moved.testExits.lg.drive .conveyor = true := by
      rw [State.testExits_drive (s := s.moved) claims filled]
      exact on
    obtain ⟨ended, keeps⟩ := State.pulseDetectors_ended (s := s.moved.testExits) (c := c)
      (by simpa [State.TableSound] using sound) (by simpa using hc) travel stands (by simpa using real) still_on
    rw [State.pulse_eq]
    refine ⟨ended.congr (fun l => ?_) (by simp) (by simp) ?_, fun o => ?_⟩
    · simp
    · simp [State.testExits_lk]
    · simpa using keeps o

end

/-! ### The event -/

theorem exec_encoderPulse_spaced {s : State} (live : s.live = true) (trackerFirst : Bool) :
    exec (.encoderPulse true trackerFirst) s = .next (s.pulse trackerFirst) := by
  simp [exec, execEncoderPulse, live]

/-- An edge that comes too soon is not counted (R199). -/
theorem exec_encoderPulse_unspaced (s : State) (trackerFirst : Bool) :
    exec (.encoderPulse false trackerFirst) s = .next s := by
  simp [exec, execEncoderPulse]

/-- Settles O29: the racks by the split of the exit test, the same in both orders; then the timer and the
TRAVEL case. -/
theorem pulseMovesRacks : Obligations.PulseMovesRacks := by
  unfold Obligations.PulseMovesRacks
  intro s trackerFirst live
  refine ⟨exec_encoderPulse_unspaced s trackerFirst, fun room shaped => ?_⟩
  intro travel required out
  obtain ⟨smp, rt, outcomes, mode, limits, outside, stall⟩ := s.pulse_travelled trackerFirst
  obtain ⟨waiting, leaving, staying, split⟩ := State.exists_exitSplit (s := s.moved) shaped
  have bounded : (s.pulse trackerFirst).lk.outcomes.length ≤ 16 := by
    rw [outcomes, List.length_append]
    exact split.room room
  refine ⟨_, exec_encoderPulse_spaced live trackerFirst, smp, ?_,
    ⟨waiting, leaving, staying, split.queue, split.exited, split.reached, split.inside, split.short,
      _, rfl, ?_, ?_⟩, fun r head exited => ?_, fun r first => ?_, ?_, bounded, mode, limits, by rw [rt]; rfl,
    by rw [rt]; rfl, outside, fun ms real runs _ on => s.pulse_silence trackerFirst real runs on,
    State.pulse_cm, fun c hc sound _ claims real travel stands on room =>
      State.pulse_ended sound claims hc travel stands real on room⟩
  · rw [outcomes, rt]
    have tags := s.moved.exits_tags
    simp only [noticeTags, List.map_append, List.append_assoc] at tags ⊢
    rw [tags]
    rfl
  · rw [rt, split.exits]
    rfl
  · rw [outcomes, split.exits]
    rfl
  · rw [outcomes, List.length_append]
    rw [rt] at head
    exact split.full head exited room
  · rw [rt] at first
    rw [smp]
    exact split.first_inside first
  · rw [stall]
    exact stallClaims_conveyor bounded

end Sys2Proof.Machine
end

section
/-! PROOF. What every operation upholds (R46 to R48, R118, R120): resolved drives, at most one claim of
an owner on a line, a sound case table, and the claims that the state calls for. -/

namespace Sys2Proof.Machine

/-! ### Claims as they are to stand -/

/-- No owner has two claims on a line (R46). -/
def Lines.Once (ls : Lines) : Prop := ∀ o id, (ls.claimsOf o id).length ≤ 1

/-- An owner's claims are those that the state calls for. -/
def State.Stands (s : State) (o : Owner) : Prop := ∀ id, s.lg.claimOf o id = (s.ownerWants o).on id

theorem Lines.claimOf_eq_head? (ls : Lines) (o : Owner) (id : LineId) :
    ls.claimOf o id = (ls.claimsOf o id).head? := by
  rw [Lines.claimOf, Lines.claimsOf, List.head?_map, List.head?_filter]

theorem toList_head?_of_length_le_one {α : Type} {l : List α} (h : l.length ≤ 1) :
    l.head?.toList = l := by
  match l, h with
  | [], _ => rfl
  | [_], _ => rfl

theorem State.claimsStand_iff (s : State) : s.ClaimsStand ↔ s.lg.Once ∧ ∀ o, s.Stands o := by
  constructor
  · exact fun h => ⟨fun o id => by rw [h o id]; cases ClaimSet.on _ id <;> simp, fun o id => h.claimOf o id⟩
  · rintro ⟨once, stands⟩ o id
    rw [← stands o id, Lines.claimOf_eq_head?, toList_head?_of_length_le_one (once o id)]

/-- A set of one owner on a line leaves no owner two claims there (R46, R47). -/
theorem setClaim_once {o : Owner} (want : Option ClaimKind) {cs : List Claim}
    (h : ∀ o', ((cs.filter fun c => c.owner = o').map (·.kind)).length ≤ 1) (o' : Owner) :
    (((setClaim o want cs).filter fun c => c.owner = o').map (·.kind)).length ≤ 1 := by
  rw [kinds_setClaim o o' want cs (h o)]
  split
  · cases want <;> simp
  · exact h o'

theorem Lines.Once.claimSet {ls : Lines} (h : ls.Once) (o : Owner) (cs : ClaimSet) :
    (ls.claimSet o cs).Once := fun o' id => by
  rw [Lines.claimsOf, Lines.claimSet_get]
  exact setClaim_once _ (fun o => h o id) o'

theorem Lines.Once.applySets {ls : Lines} (h : ls.Once) (sets : List (Owner × ClaimSet)) :
    (ls.applySets sets).Once := by
  have joined : (sets.foldl (fun a o => a.claimSet o.1 o.2) ls).Once := by
    induction sets generalizing ls with
    | nil => exact h
    | cons a sets ih => exact ih (h.claimSet a.1 a.2)
  intro o id
  rw [Lines.claimsOf, Lines.applySets, Lines.get_resolveChanged_claims]
  exact joined o id

/-- The claims after the sets that some owners make at one event (R47). -/
theorem Lines.claimOf_applySets_owners (ls : Lines) (owners : List Owner) (w : Owner → ClaimSet)
    (o : Owner) (id : LineId) :
    (ls.applySets (owners.map fun a => (a, w a))).claimOf o id
      = if o ∈ owners then (w o).on id else ls.claimOf o id := by
  rw [Lines.applySets, Lines.claimOf_resolveChanged]
  induction owners generalizing ls with
  | nil => simp
  | cons a owners ih =>
    rw [List.map_cons, List.foldl_cons, ih, Lines.claimOf_claimSet]
    by_cases e : o = a <;> simp [e]

/-! ### The case table -/

/-- R118, R120 of a table. -/
def SoundTable (table : List Case) : Prop :=
  table.length ≤ casePlaces ∧ (table.map (·.id)).Nodup ∧ ∀ k : Key, table.countP (Case.takes k) ≤ 1

theorem State.tableSound_iff (s : State) : s.TableSound ↔ SoundTable s.cm.table := Iff.rfl

/-- A record carries a case on: the id and the key stay, and what is RESOLVED stays so (R118 to R120). -/
structure Case.Continues (new old : Case) : Prop where
  id : new.id = old.id
  key : new.proc.key = old.proc.key
  resolved : old.isResolved = true → new.isResolved = true

theorem Case.Continues.refl (c : Case) : c.Continues c := ⟨rfl, rfl, fun h => h⟩

theorem Case.Continues.takes {new old : Case} (h : new.Continues old) {k : Key}
    (ht : new.takes k = true) : old.takes k = true := by
  cases e : old.isResolved
  · simpa [Case.takes, e, h.key] using (Bool.and_eq_true_iff.mp ht).2
  · simp [Case.takes, h.resolved e] at ht

theorem SoundTable.sublist {t table : List Case} (h : SoundTable table) (sub : t.Sublist table) :
    SoundTable t := by
  obtain ⟨places, ids, keys⟩ := h
  exact ⟨sub.length_le.trans places, ids.sublist (sub.map _), fun k => (sub.countP_le).trans (keys k)⟩

theorem SoundTable.replace {table : List Case} (h : SoundTable table) {old new : Case}
    (mem : old ∈ table) (hn : new.Continues old) : SoundTable (replaceCase table new) := by
  obtain ⟨places, ids, keys⟩ := h
  refine ⟨by simpa [replaceCase] using places, by rwa [replaceCase_ids], fun k => ?_⟩
  refine le_trans ?_ (keys k)
  rw [replaceCase, List.countP_map]
  refine List.countP_mono_left fun o ho ht => ?_
  simp only [Function.comp] at ht
  split at ht
  next own => rw [eq_of_mem_of_id ids mem ho (own.trans hn.id)]; exact hn.takes ht
  · exact ht

theorem SoundTable.map {table : List Case} (h : SoundTable table) {f : Case → Case}
    (id : ∀ c, (f c).id = c.id) (takes : ∀ c k, (f c).takes k = c.takes k) : SoundTable (table.map f) := by
  obtain ⟨places, ids, keys⟩ := h
  have same_ids : (table.map f).map (·.id) = table.map (·.id) := by
    simp [Function.comp_def, id]
  exact ⟨by simpa using places, by rwa [same_ids],
    fun k => by simpa [List.countP_map, Function.comp_def, takes] using keys k⟩

theorem findCase_map (table : List Case) {f : Case → Case} (id : ∀ c, (f c).id = c.id) (n : Nat) :
    findCase (table.map f) n = (findCase table n).map f := by
  simp [findCase, List.find?_map, id]

theorem findCase_replaceCase (table : List Case) (c : Case) (n : Nat) :
    findCase (replaceCase table c) n
      = if n = c.id then (findCase table n).map fun _ => c else findCase table n := by
  induction table with
  | nil => simp [findCase, replaceCase]
  | cons o table ih =>
    simp only [findCase, replaceCase, List.map_cons, List.find?_cons] at ih ⊢
    by_cases own : o.id = c.id
    · by_cases e : n = c.id <;> simp_all [eq_comm]
    · by_cases e : o.id = n
      · have : n ≠ c.id := fun h => own (e.trans h)
        simp [e, this]
      · simp [own, e, ih]

theorem findCase_filter (table : List Case) (m n : Nat) :
    findCase (table.filter fun o => o.id != m) n = if n = m then none else findCase table n := by
  simp only [findCase, List.find?_filter]
  split
  next h => subst h; simp [List.find?_eq_none]
  next h =>
    congr 1
    funext o
    by_cases e : o.id = n <;> simp [e, h]

/-! ### What an operation upholds -/

/-- The laws of the lines and of the case table pass from `s` to `t`, but for the claims of the owners
`ex`, which have yet to be set anew. -/
structure State.UpholdsBut (ex : List Owner) (t s : State) : Prop where
  drives : s.DrivesResolved → t.DrivesResolved
  once : s.lg.Once → t.lg.Once
  table : s.TableSound → t.TableSound
  stands : s.TableSound → ∀ o, o ∉ ex → s.Stands o → t.Stands o

/-- The laws of the lines and of the case table pass from `s` to `t`. -/
abbrev State.Upholds (t s : State) : Prop := State.UpholdsBut [] t s

theorem State.Upholds.refl (s : State) : s.Upholds s := ⟨id, id, id, fun _ _ _ => id⟩

theorem State.UpholdsBut.trans {ex : List Owner} {u t s : State} (ht : t.UpholdsBut ex s)
    (hu : u.UpholdsBut ex t) : u.UpholdsBut ex s :=
  ⟨hu.drives ∘ ht.drives, hu.once ∘ ht.once, hu.table ∘ ht.table,
    fun sound o out h => hu.stands (ht.table sound) o out (ht.stands sound o out h)⟩

theorem State.UpholdsBut.mono {ex ex' : List Owner} {t s : State} (h : t.UpholdsBut ex s)
    (sub : ∀ o ∈ ex, o ∈ ex' := by simp) : t.UpholdsBut ex' s :=
  ⟨h.drives, h.once, h.table, fun sound o out => h.stands sound o fun mem => out (sub o mem)⟩

theorem State.UpholdsBut.then {ex : List Owner} {u t s : State} (ht : t.UpholdsBut ex s)
    (hu : u.Upholds t) : u.UpholdsBut ex s := ht.trans hu.mono

/-- An operation behind a test. -/
theorem State.UpholdsBut.thenIf {ex : List Owner} {u t s : State} (ht : t.UpholdsBut ex s) {b : Prop}
    [Decidable b] (hu : u.Upholds t) : (if b then u else t).UpholdsBut ex s := by
  split
  · exact ht.then hu
  · exact ht

theorem State.Upholds.foldl {α : Type} {f : State → α → State} (hf : ∀ s a, (f s a).Upholds s)
    (s : State) (as : List α) : (as.foldl f s).Upholds s := by
  induction as generalizing s with
  | nil => exact .refl s
  | cons a as ih => exact (hf s a).then (ih (f s a))

/-- The owners of `ex` that make their sets need no exception any more (R47). -/
theorem State.UpholdsBut.set {ex : List Owner} {t s : State} (h : t.UpholdsBut ex s)
    (owners : List Owner) {sets : List (Owner × ClaimSet)}
    (hs : sets = owners.map fun o => (o, t.ownerWants o)) (rest : List Owner := [])
    (hex : ∀ o ∈ ex, o ∈ owners ∨ o ∈ rest := by simp) :
    (t.applySets sets).UpholdsBut rest s where
  drives hd id := Lines.applySets_resolved t.lg sets id (h.drives hd id)
  once ho := (h.once ho).applySets sets
  table := h.table
  stands sound o out stood id := by
    have wants : (t.applySets sets).ownerWants o = t.ownerWants o := rfl
    rw [wants, State.applySets_lg, hs, Lines.claimOf_applySets_owners]
    split
    · rfl
    next other =>
      exact h.stands sound o (fun mem => (hex o mem).elim other out) stood id

/-- The table and the claims need looking at in a state with a sound table only. -/
theorem State.UpholdsBut.of_sound {ex : List Owner} {t s : State}
    (drives : s.DrivesResolved → t.DrivesResolved) (once : s.lg.Once → t.lg.Once)
    (h : s.TableSound → t.UpholdsBut ex s) : t.UpholdsBut ex s :=
  ⟨drives, once, fun sound => (h sound).table sound, fun sound => (h sound).stands sound⟩

/-- What a set does to the claims of an owner that is excepted does not count yet. -/
theorem State.UpholdsBut.setExcepted {o : Owner} {t s : State} (h : t.UpholdsBut [o] s) (cs : ClaimSet) :
    (t.applySets [(o, cs)]).UpholdsBut [o] s where
  drives hd id := Lines.applySets_resolved t.lg _ id (h.drives hd id)
  once ho := (h.once ho).applySets _
  table := h.table
  stands sound a out stood id := by
    have other : a ≠ o := by simpa using out
    have wants : (t.applySets [(o, cs)]).ownerWants a = t.ownerWants a := rfl
    rw [wants, State.applySets_lg, Lines.claimOf_applySets_one, if_neg other, h.stands sound a out stood id]

/-- The excepted owner stands after all. -/
theorem State.UpholdsBut.complete {o : Owner} {t s : State} (h : t.UpholdsBut [o] s)
    (own : s.TableSound → s.Stands o → t.Stands o) : t.Upholds s where
  drives := h.drives
  once := h.once
  table := h.table
  stands sound a _ stood := by
    by_cases e : a = o
    · subst e
      exact own sound stood
    · exact h.stands sound a (by simpa using e) stood

/-- Only what decides the claims of `ex` has changed, and the table in a sound way. -/
theorem State.UpholdsBut.of_wants {ex : List Owner} {t s : State} (lg : t.lg = s.lg)
    (table : s.TableSound → t.TableSound) (wants : ∀ o, o ∉ ex → t.ownerWants o = s.ownerWants o) :
    t.UpholdsBut ex s where
  drives h := by rwa [State.DrivesResolved, lg]
  once h := by rwa [lg]
  table := table
  stands _ o out h id := by rw [lg, wants o out, h id]

/-- Nothing has changed that a line or a claim depends on. -/
theorem State.Upholds.of_same {t s : State} (lg : t.lg = s.lg) (pmc : t.pmc = s.pmc)
    (channels : t.smp.channels = s.smp.channels) (du : t.du = s.du) (table : t.cm.table = s.cm.table)
    (outcomes : t.lk.outcomes = s.lk.outcomes) : t.Upholds s :=
  .of_wants lg (by simp only [State.tableSound_iff, table, imp_self])
    fun o _ => by cases o <;> simp only [State.ownerWants, pmc, channels, du, table, outcomes]

end Sys2Proof.Machine
end

section
/-! PROOF. The operations that reach across blocks uphold the laws of the lines and of the case table
(R46 to R48, R52 to R58, R74, R92, R118, R120, R124). -/

namespace Sys2Proof.Machine

/-! ### Block updates -/

theorem State.setRt_upholds (s : State) (b : Rt) : (s.setRt b).Upholds s := .of_same rfl rfl rfl rfl rfl rfl
theorem State.setFd_upholds (s : State) (b : Fd) : (s.setFd b).Upholds s := .of_same rfl rfl rfl rfl rfl rfl
theorem State.setCk_upholds (s : State) (b : Ck) : (s.setCk b).Upholds s := .of_same rfl rfl rfl rfl rfl rfl

theorem State.setLk_upholds (s : State) {l : Lk} (h : l.outcomes = s.lk.outcomes) : (s.setLk l).Upholds s :=
  .of_same rfl rfl rfl rfl rfl h

theorem State.trigger_upholds (s : State) : s.trigger.Upholds s := s.setCk_upholds _

theorem State.commit_upholds (s : State) : s.commit.Upholds s :=
  .of_same (by simp) (by simp) (by simp) (by simp) (by simp) (by simp)

theorem State.announceMode_upholds (s : State) : s.announceMode.Upholds s :=
  .of_same (by simp) (by simp) (by simp) (by simp) (by simp) s.announceMode_kept.lk.queues.2.2.2

theorem State.announceRestore_upholds (s : State) : s.announceRestore.Upholds s := by
  unfold State.announceRestore
  split
  · exact s.setLk_upholds rfl
  · exact s.setLk_upholds rfl

theorem State.announceCheckpoint_upholds (s : State) : s.announceCheckpoint.Upholds s := by
  unfold State.announceCheckpoint
  split
  · exact s.setLk_upholds rfl
  · exact s.setLk_upholds rfl

/-! ### The record of a case -/

theorem State.ownerWants_ofCase (s : State) (n : Nat) :
    s.ownerWants (.ofCase n) = ((findCase s.cm.table n).map Case.posted).getD [] := by
  simp only [State.ownerWants]
  cases findCase s.cm.table n <;> rfl

/-- A record put in place of one of the table is found there. -/
theorem findCase_putCase {table : List Case} {old new : Case} (mem : old ∈ table) (id : new.id = old.id) :
    findCase (replaceCase table new) new.id = some new := by
  have found : (findCase table new.id).isSome := by
    rw [findCase, List.find?_isSome]
    exact ⟨old, mem, by simp [id]⟩
  rw [findCase_replaceCase, if_pos rfl, Option.map_eq_some_iff]
  exact ⟨_, Option.some_get found |>.symm, rfl⟩

theorem State.putCase_upholdsBut (s : State) {old new : Case} (mem : old ∈ s.cm.table)
    (h : new.Continues old) : (s.putCase new).UpholdsBut [.ofCase new.id] s :=
  .of_wants rfl (fun sound => SoundTable.replace sound mem h) fun o out => by
    cases o with
    | ofCase n =>
      have other : n ≠ new.id := by simpa using out
      rw [State.ownerWants_ofCase, State.ownerWants_ofCase]
      simp [State.putCase, findCase_replaceCase, other]
    | _ => rfl

/-- A case takes a record that carries it on, with the claims of that record (R57, R134). -/
theorem State.putCase_set_upholds (s : State) {old new : Case} (mem : old ∈ s.cm.table)
    (h : new.Continues old) :
    ((s.putCase new).applySets [(.ofCase new.id, new.posted)]).Upholds s :=
  (s.putCase_upholdsBut mem h).set [.ofCase new.id] (by
    rw [List.map_singleton, State.ownerWants_ofCase]
    simp [State.putCase, findCase_putCase mem h.id])

/-- A RESOLVED case claims nothing (R57). -/
theorem Case.posted_of_resolved {c : Case} (h : c.isResolved = true) : c.posted = [] := by
  have state : c.state = .resolved := by simpa [Case.isResolved] using h
  cases e : c.proc <;> simp [Case.posted, Case.wanted, ClaimSet.ofKind, e, state]

/-- What an announcement leaves of the claims that the state calls for: those of the announced record, also
where it leaves the table, RESOLVED. -/
theorem State.announceCase_wants_own (s : State) {old c : Case} (mem : old ∈ s.cm.table) (id : c.id = old.id) :
    (s.announceCase c).ownerWants (.ofCase c.id) = c.posted := by
  rw [State.ownerWants_ofCase, State.announceCase_table]
  repeat' split
  next resolved => simp [findCase_filter, Case.posted_of_resolved resolved]
  · rw [findCase_putCase (new := { c with announce := false }) mem id]
    rfl
  · rw [findCase_putCase (new := { c with announce := true }) mem id]
    rfl

theorem State.announceCase_wants_other (s : State) {c : Case} {o : Owner} (h : o ≠ .ofCase c.id) :
    (s.announceCase c).ownerWants o = s.ownerWants o := by
  cases o with
  | ofCase n =>
    have other : n ≠ c.id := by simpa using h
    rw [State.ownerWants_ofCase, State.ownerWants_ofCase, State.announceCase_table]
    repeat' split
    · simp [findCase_filter, other]
    · simp [findCase_replaceCase, other]
    · simp [findCase_replaceCase, other]
  | outcomeStall =>
    exact congrArg stallClaims (s.announceCase_kept c).lk.queues.2.2.2
  | _ => simp [State.ownerWants]

theorem State.announceCase_upholdsBut (s : State) {old c : Case} (mem : old ∈ s.cm.table)
    (h : c.Continues old) : (s.announceCase c).UpholdsBut [.ofCase c.id] s :=
  .of_wants (by simp) (fun sound => by
    rw [State.tableSound_iff, State.announceCase_table]
    repeat' split
    · exact SoundTable.sublist sound List.filter_sublist
    · exact SoundTable.replace sound mem ⟨h.id, h.key, h.resolved⟩
    · exact SoundTable.replace sound mem ⟨h.id, h.key, h.resolved⟩)
    fun o out => s.announceCase_wants_other (by simpa using out)

theorem State.announceCase_upholds (s : State) {c : Case} (mem : c ∈ s.cm.table) :
    (s.announceCase c).Upholds s :=
  (s.announceCase_upholdsBut mem (.refl c)).complete fun sound stood id => by
    have own : s.ownerWants (.ofCase c.id) = c.posted := by
      rw [State.ownerWants_ofCase, findCase_of_mem sound.2.1 mem]
      rfl
    rw [State.announceCase_lg, State.announceCase_wants_own s mem rfl, ← own, stood id]

theorem State.fillFreed_upholds (s : State) : s.fillFreed.Upholds s := by
  unfold State.fillFreed
  repeat' split
  · exact s.announceRestore_upholds
  · exact s.announceMode_upholds
  · exact s.announceCheckpoint_upholds
  next c found => exact s.announceCase_upholds (List.mem_of_find?_eq_some found)
  · exact .refl s

/-! ### Suspension -/

theorem State.suspendOrResume_upholds (s : State) (id : Nat) : (s.suspendOrResume id).Upholds s := by
  obtain same | ⟨c, d, found, -, rfl, same⟩ := s.suspendOrResume_cases id
  · rw [same]
    exact .refl s
  · obtain ⟨mem, rfl⟩ := findCase_eq_some found
    rw [same]
    generalize hd : { c with suspended := c.heldBack s.pmc.mode s.cm.table } = d
    have carries : d.Continues c := by subst hd; exact ⟨rfl, rfl, fun h => h⟩
    have put := s.putCase_set_upholds mem carries
    rw [← carries.id]
    exact put.then
      (State.announceCase_upholds _ (mem_replaceCase.mpr (.inl ⟨rfl, c, mem, carries.id.symm⟩)))

theorem State.evaluateSuspension_upholds (s : State) : s.evaluateSuspension.Upholds s :=
  .foldl State.suspendOrResume_upholds s _

/-! ### Zones and dwell -/

theorem State.setDu_upholdsBut (s : State) (d : Dwell) : (s.setDu d).UpholdsBut [.dwell] s :=
  .of_wants rfl (fun h => h) fun o out => by
    cases o with
    | dwell => simp at out
    | _ => rfl

theorem State.endDwell_upholds (s : State) : s.endDwell.Upholds s :=
  (s.setDu_upholdsBut .inactive).set [.dwell] rfl

theorem State.dwellZoneLeaves_upholds (z : Zone) (s : State) : (s.dwellZoneLeaves z).Upholds s := by
  unfold State.dwellZoneLeaves
  split
  · exact (State.Upholds.refl s).thenIf s.endDwell_upholds
  · exact .refl s

/-- The level guard of a zone depends on the record of its slot alone (R54). -/
theorem levelGuardClaims_of_record {a b : SlotState} (h : a.record = b.record) (z : Zone) (level : Reading) :
    levelGuardClaims z a level = levelGuardClaims z b level := by
  have below : levelBelowSafe a = levelBelowSafe b := by
    funext v
    rw [levelBelowSafe, levelBelowSafe, h]
  rw [levelGuardClaims, levelGuardClaims, below]

/-- New zone slots: the claims of the zones whose slots change have yet to be set (R52, R54). -/
theorem State.setZones_upholdsBut (s : State) (zones : Four ZoneSlot) (ex : List Owner)
    (off : ∀ z, Owner.zoneOff z ∉ ex → (zones.get z).slot.isOnline = (s.pmc.zones.get z).slot.isOnline)
    (level : ∀ z, Owner.levelGuard z ∉ ex → (zones.get z).slot.record = (s.pmc.zones.get z).slot.record) :
    (s.setPmc { s.pmc with zones := zones }).UpholdsBut ex s :=
  .of_wants rfl (fun h => h) fun o out => by
    cases o with
    | zoneOff z => simp only [State.ownerWants, zoneOffClaims, State.setPmc_pmc, off z out]
    | levelGuard z => exact levelGuardClaims_of_record (level z out) z _
    | _ => rfl

/-- A slot that keeps its record: ZONE_OFF is evaluated anew (R52). -/
theorem State.setSlot_upholds (s : State) (z : Zone) {zs : ZoneSlot}
    (record : zs.slot.record = (s.pmc.zones.get z).slot.record) : (s.setSlot z zs).Upholds s :=
  (s.setZones_upholdsBut (s.pmc.zones.set z zs) [.zoneOff z]
    (fun w out => by
      have other : w ≠ z := by simpa using out
      rw [Four.get_set_other _ _ other])
    (fun w _ => record_set s.pmc.zones record w)).set [.zoneOff z] (by simp [State.ownerWants])

theorem State.takeOff_upholds (z : Zone) (s : State) : (s.takeOff z).Upholds s :=
  (s.setSlot_upholds z (SlotState.takenOff_record _)).then (State.dwellZoneLeaves_upholds z _)

/-- Markers alone decide no claim (R3). -/
theorem State.setMarkers_upholds (s : State) (zones : Four ZoneSlot)
    (slots : ∀ z, (zones.get z).slot = (s.pmc.zones.get z).slot) :
    (s.setPmc { s.pmc with zones := zones }).Upholds s :=
  s.setZones_upholdsBut zones [] (fun z _ => by rw [slots]) (fun z _ => by rw [slots])

theorem State.addMarker_upholds (id : Nat) (s : State) (z : Zone) : (s.addMarker id z).Upholds s := by
  unfold State.addMarker
  extract_lets zs pmc q
  split
  · exact .refl s
  · have marked : q.Upholds s := s.setMarkers_upholds _ fun w => by
      rw [Four.get_set]
      split
      next e => rw [e]
      · rfl
    exact marked.thenIf (State.takeOff_upholds z q)

theorem State.removeMarkers_upholds (id : Nat) (s : State) : (s.removeMarkers id).Upholds s :=
  s.setMarkers_upholds _ fun z => by rw [Four.get_ofFn]

/-! ### Changes of a case -/

theorem State.linkGainedPumps_upholds (old : Option Case) (new : Case) (s : State) :
    (s.linkGainedPumps old new).Upholds s :=
  .foldl (fun s _ => (State.Upholds.refl s).thenIf (s.setRt_upholds _)) s _

theorem State.alterCase_upholds (s : State) (flagged : Case) {old new : Case} (mem : old ∈ s.cm.table)
    (h : new.Continues old) : (s.alterCase flagged new).Upholds s := by
  unfold State.alterCase
  extract_lets entered s1 s2 s3 s4 s5 s6
  have h1 : s1.Upholds s := s.putCase_set_upholds mem h
  have h2 : s2.Upholds s := h1.then (State.linkGainedPumps_upholds _ new s1)
  have h3 : s3.Upholds s := h2.thenIf (s2.setRt_upholds _)
  have h4 : s4.Upholds s := h3.then (.foldl (State.addMarker_upholds new.id) s3 _)
  have h5 : s5.Upholds s := h4.thenIf (s4.setRt_upholds _)
  have cm : s5.cm = s1.cm := by
    simp only [s5, s4, s3, s2, apply_ite State.cm, State.setRt_cm, State.addMarkers_cm,
      State.linkGainedPumps_cm, ite_self]
  have stays : new ∈ s5.cm.table := by
    rw [cm]
    exact mem_replaceCase.mpr (.inl ⟨rfl, old, mem, h.id.symm⟩)
  have h6 : s6.Upholds s := h5.thenIf (s5.announceCase_upholds stays)
  exact h6.thenIf s6.trigger_upholds

theorem State.settleAfter_upholds (old new : Case) (s : State) : (s.settleAfter old new).Upholds s :=
  (State.Upholds.refl s).thenIf s.evaluateSuspension_upholds

theorem State.changeCase_upholds (s : State) (flagged : Case) {old new : Case} (mem : old ∈ s.cm.table)
    (h : new.Continues old) : (s.changeCase flagged new).Upholds s :=
  (s.alterCase_upholds flagged mem h).then (State.settleAfter_upholds flagged new _)

theorem Case.resolve_continues (c : Case) : c.resolve.Continues c := ⟨rfl, rfl, fun _ => rfl⟩

theorem State.resolveCase_upholds (s : State) {c : Case} (mem : c ∈ s.cm.table) :
    (s.resolveCase c).Upholds s :=
  (State.removeMarkers_upholds c.id s).then (State.changeCase_upholds _ c mem c.resolve_continues)

theorem State.advanceCase_upholds (s : State) {old new : Case} (mem : old ∈ s.cm.table)
    (h : new.Continues old) : (s.advanceCase old new).Upholds s := by
  unfold State.advanceCase
  split
  · exact (State.removeMarkers_upholds old.id s).then (State.alterCase_upholds _ old mem h)
  · exact s.alterCase_upholds old mem h

/-! ### Mode changes -/

theorem State.enterMode_upholds (m : Mode) (cause : HaltCause) (s : State) : (s.enterMode m cause).Upholds s := by
  unfold State.enterMode
  extract_lets leavesRun pmc q1 q2 q3
  have h1 : q1.UpholdsBut [.mode] s :=
    .of_wants rfl (fun h => h) fun o out => by
      cases o with
      | mode => simp at out
      | _ => rfl
  have h3 : q3.Upholds s := by
    by_cases run : leavesRun
    · have h2 : q2.UpholdsBut [.dwell, .mode] s := by
        simp only [q2, run, if_true]
        exact h1.mono.trans (q1.setDu_upholdsBut .inactive).mono
      have inactive : q2.du = .inactive := by simp [q2, run]
      have mode : q2.pmc.mode = m := by simp [q2, q1, run]
      exact h2.set [.dwell, .mode] (by simp [run, State.ownerWants, inactive, mode, dwellClaims])
    · have same : q2 = q1 := by simp [q2, run]
      have set : q3 = q1.applySets [(.mode, modeClaims m)] := by simp [q3, same, run]
      rw [set]
      exact h1.set [.mode] rfl
  exact (h3.then q3.announceMode_upholds).then (State.trigger_upholds _)

theorem State.changeMode_upholds (m : Mode) (cause : HaltCause) (s : State) :
    (s.changeMode m cause).Upholds s :=
  (State.enterMode_upholds m cause s).then (State.evaluateSuspension_upholds _)

theorem State.automaticHalt_upholds (cause : HaltCause) (s : State) : (s.automaticHalt cause).Upholds s := by
  unfold State.automaticHalt
  split
  · exact .refl s
  · exact .refl s
  · exact State.changeMode_upholds .halt cause s

theorem State.enterHalt_upholds (cause : HaltCause) (s : State) : (s.enterHalt cause).Upholds s := by
  unfold State.enterHalt
  split
  · exact .refl s
  · exact .refl s
  · exact State.enterMode_upholds .halt cause s

/-! ### The outcome queue -/

/-- A link with another outcome queue: the OUTCOME_STALL claim has yet to be set (R74). -/
theorem State.setLk_upholdsBut (s : State) (l : Lk) : (s.setLk l).UpholdsBut [.outcomeStall] s :=
  .of_wants rfl (fun h => h) fun o out => by
    cases o with
    | outcomeStall => simp at out
    | _ => rfl

/-- A drain makes the OUTCOME_STALL claim follow the outcome queue (R74), also where it lagged before. -/
theorem State.UpholdsBut.drainRacks {t s : State} (h : t.UpholdsBut [.outcomeStall] s) :
    t.drainRacks.Upholds s := by
  unfold State.drainRacks
  extract_lets d rt lk q1 q2
  have h1 : q1.UpholdsBut [.outcomeStall] s :=
    (h.then (t.setRt_upholds _)).trans (State.setLk_upholdsBut _ _)
  have h2 : q2.UpholdsBut [.outcomeStall] s := by
    simp only [q2]
    split
    · exact h1
    · exact h1.then q1.trigger_upholds
  exact h2.set [.outcomeStall] rfl

theorem State.drainRacks_upholds (s : State) : s.drainRacks.Upholds s :=
  (State.Upholds.refl s).mono.drainRacks

theorem State.testExits_upholds (s : State) : s.testExits.Upholds s :=
  (s.setRt_upholds _).then (State.drainRacks_upholds _)

theorem State.flush_upholds (reason : FlushReason) (s : State) : (s.flush reason).Upholds s :=
  (s.setRt_upholds _).then (State.drainRacks_upholds _)

theorem State.entryEvent_upholds (s : State) : s.entryEvent.Upholds s :=
  .of_same (by simp) (by simp) (by simp) (by simp) (by simp) (by simp)

end Sys2Proof.Machine
end

section
/-! PROOF. A detection upholds the laws of the lines and of the case table: delivered to the case of its
key, it carries the record on (R123); opening a case, it takes an id and a key that no case has (R120, R121). -/

namespace Sys2Proof.Machine

/-! ### The id of a new case -/

/-- The `k`-th id that is tried for a new case (R121). -/
def triedId (id k : Nat) : Nat := caseIdAfter^[k] id

theorem triedId_succ (id k : Nat) : triedId id (k + 1) = triedId (caseIdAfter id) k := rfl

/-- Once the ids have gone round to 1 they count up. -/
theorem triedId_eq (id : Nat) {k : Nat} (h : k ≤ 8) :
    triedId id k
      = if 255 ≤ id then (if k = 0 then id else k) else if id + k ≤ 255 then id + k else id + k - 255 := by
  induction k generalizing id with
  | zero => simp [triedId]; omega
  | succ k ih =>
    rw [triedId_succ, ih _ (by omega), caseIdAfter]
    grind

/-- The first nine ids tried are different ones. -/
theorem triedId_injOn (id : Nat) {i j : Nat} (hi : i ≤ 8) (hj : j ≤ 8) (h : triedId id i = triedId id j) :
    i = j := by
  rw [triedId_eq id hi, triedId_eq id hj] at h
  grind

/-- An id that a search settles on though a case has it: all those tried were taken. -/
theorem freeCaseId_taken {table : List Case} {fuel id : Nat}
    (h : freeCaseId table fuel id ∈ table.map (·.id)) {k : Nat} (hk : k ≤ fuel) :
    triedId id k ∈ table.map (·.id) := by
  induction fuel generalizing id k with
  | zero =>
    obtain rfl : k = 0 := by omega
    exact h
  | succ fuel ih =>
    unfold freeCaseId at h
    split at h
    next taken =>
      cases k with
      | zero => simpa [triedId] using taken
      | succ k => rw [triedId_succ]; exact ih h (by omega)
    next free => exact absurd h (by simpa using free)

/-- A table with room leaves an id free among those tried (R118, R121). -/
theorem freeCaseId_fresh {table : List Case} (room : table.length < casePlaces) (id : Nat) :
    freeCaseId table 255 id ∉ table.map (·.id) := fun taken => by
  have tried : ((List.range 8).map (triedId id)).Nodup :=
    List.nodup_range.map_on fun i hi j hj => triedId_injOn id (by simp at hi; omega) (by simp at hj; omega)
  have sub : (List.range 8).map (triedId id) ⊆ table.map (·.id) := fun n hn => by
    obtain ⟨k, hk, rfl⟩ := List.mem_map.mp hn
    exact freeCaseId_taken taken (by simp at hk; omega)
  have := (tried.subperm sub).length_le
  simp [casePlaces] at this room
  omega

/-! ### The record of a new case -/

section
variable (d : Detection) (id : Nat) (uptime : Word32) (lines : Lines) (pmc : Pmc) (smp : Smp)

/-- The opening record has the id it is given and the key of its detection, and stands outside RESOLVED
(R120, R121). -/
theorem openingCase_spec :
    (openingCase d id uptime lines pmc smp).id = id
      ∧ (openingCase d id uptime lines pmc smp).proc.key = d.key
      ∧ (openingCase d id uptime lines pmc smp).isResolved = false := by
  cases d with
  | heaterOpen z k current =>
    simp only [openingCase]
    split <;> exact ⟨rfl, rfl, rfl⟩
  | _ => exact ⟨rfl, rfl, rfl⟩

end

theorem SoundTable.append {table : List Case} (h : SoundTable table) (room : table.length < casePlaces)
    {c : Case} (fresh : c.id ∉ table.map (·.id)) (key : table.find? (Case.takes c.proc.key) = none) :
    SoundTable (table ++ [c]) := by
  obtain ⟨-, ids, keys⟩ := h
  refine ⟨by simpa using room, ?_, fun k => ?_⟩
  · rw [List.map_append, List.nodup_append]
    exact ⟨ids, by simp, fun n mem m own e => fresh (by simp at own; rwa [← own, ← e])⟩
  · by_cases own : c.takes k = true
    · obtain rfl : c.proc.key = k := by simpa using (Bool.and_eq_true_iff.mp own).2
      have none : table.countP (Case.takes c.proc.key) = 0 := by
        simpa [List.countP_eq_zero] using key
      simp [List.countP_append, none, own]
    · simpa [List.countP_append, own] using keys k

/-! ### Opening a case -/

/-- Marking zones touches no claim of a case. -/
theorem State.addMarker_claimOf_case (s : State) (id n : Nat) (z : Zone) (l : LineId) :
    (s.addMarker id z).lg.claimOf (.ofCase n) l = s.lg.claimOf (.ofCase n) l := by
  simp only [State.addMarker, State.takeOff]
  repeat' split
  · rfl
  · rw [State.dwellZoneLeaves_claimOf _ _ (by simp), State.setSlot_claimOf]
    simp
  · rfl

theorem State.addMarkers_claimOf_case (s : State) (id n : Nat) (zs : List Zone) (l : LineId) :
    (zs.foldl (State.addMarker id) s).lg.claimOf (.ofCase n) l = s.lg.claimOf (.ofCase n) l := by
  induction zs generalizing s with
  | nil => rfl
  | cons z zs ih => rw [List.foldl_cons, ih, State.addMarker_claimOf_case]

/-- A case opens (R121): the table takes the new record, and it ends with the claims of that record. -/
theorem State.openCase_upholds (s : State) {d : Detection} (room : s.cm.table.length < casePlaces)
    (key : s.cm.table.find? (Case.takes d.key) = none) : (s.openCase d).Upholds s := by
  unfold State.openCase
  extract_lets id bare new cm s1 s2 s3 s4 s5 s6 s7
  obtain ⟨bare_id, bare_key, bare_stands⟩ :=
    openingCase_spec d id s.cm.uptime s.lg s.pmc s.smp
  have new_id : new.id = id := bare_id
  have new_stands : new.isResolved = false := bare_stands
  have fresh : id ∉ s.cm.table.map (·.id) := freeCaseId_fresh room _
  have sound1 : s.TableSound → s1.TableSound := fun h =>
    SoundTable.append h room (by rwa [new_id]) (by rwa [show new.proc.key = d.key from bare_key])
  have h1 : s1.UpholdsBut [.ofCase id] s := .of_wants rfl sound1 fun o out => by
    cases o with
    | ofCase n =>
      have other : id ≠ n := by simpa [eq_comm] using out
      rw [State.ownerWants_ofCase, State.ownerWants_ofCase]
      simp [s1, findCase, new_id, other]
    | _ => rfl
  have h2 : s2.UpholdsBut [.ofCase id] s := h1.then s1.evaluateSuspension_upholds
  have h3 : s3.UpholdsBut [.ofCase id] s := h2.setExcepted new.posted
  have h4 : s4.UpholdsBut [.ofCase id] s := h3.then (State.linkGainedPumps_upholds none new s3)
  have h5 : s5.UpholdsBut [.ofCase id] s := h4.thenIf (s4.setRt_upholds _)
  have h6 : s6.UpholdsBut [.ofCase id] s := h5.thenIf (s5.setRt_upholds _)
  have h7 : s7.UpholdsBut [.ofCase id] s := h6.then (.foldl (State.addMarker_upholds id) s6 _)
  have cm7 : s7.cm = s2.cm := by
    simp only [s7, s6, s5, s4, s3, apply_ite State.cm, State.setRt_cm, State.addMarkers_cm,
      State.linkGainedPumps_cm, State.applySets_cm, ite_self]
  have claims7 : ∀ l, s7.lg.claimOf (.ofCase id) l = new.posted.on l := fun l => by
    rw [State.addMarkers_claimOf_case]
    simp only [s6, s5, s4, s3, apply_ite State.lg, State.setRt_lg, State.linkGainedPumps_lg,
      ite_self, State.applySets_lg, Lines.claimOf_applySets_one, if_true]
  have kept : s.TableSound → ∃ old ∈ s7.cm.table, new.Continues old := fun sound => by
    obtain ⟨old, mem, same⟩ := foldl_suspendOrResume_keeps (s1.cm.table.map (·.id)) (sound1 sound).2.1
      (o := new) (List.mem_append_right _ (List.mem_singleton_self new)) new_stands
    have id := congrArg Case.id same
    have proc := congrArg Case.proc same
    have state := congrArg Case.state same
    simp only [Case.bare] at id proc state
    exact ⟨old, by rwa [cm7], id.symm, by rw [proc], by simp [Case.isResolved, state]⟩
  have announced : (s7.announceCase new).Upholds s := by
    refine .of_sound (fun h => ?_) (fun h => ?_) fun sound => ?_
    · rw [State.DrivesResolved, State.announceCase_lg]
      exact h7.drives h
    · rw [State.announceCase_lg]
      exact h7.once h
    · obtain ⟨old, mem, carries⟩ := kept sound
      have h8 := s7.announceCase_upholdsBut mem carries
      rw [new_id] at h8
      refine (h7.trans h8).complete fun _ _ l => ?_
      rw [State.announceCase_lg, claims7, ← new_id, State.announceCase_wants_own s7 mem carries.id]
  exact announced.then (State.trigger_upholds _)

/-! ### A delivery -/

/-- What a detection makes of the case of its key carries that case on (R123). -/
theorem Case.deliver_continues {d : Detection} {c : Case} (h : c.takes d.key = true) (l : Limits) :
    (c.deliver d l).Continues c := by
  have key : c.proc.key = d.key := by simpa using (Bool.and_eq_true_iff.mp h).2
  have stands : c.isResolved = false := by simpa using (Bool.and_eq_true_iff.mp h).1
  suffices (c.deliver d l).id = c.id ∧ (c.deliver d l).proc.key = c.proc.key from
    ⟨this.1, this.2, fun resolved => by simp [stands] at resolved⟩
  unfold Case.deliver
  split
  next e =>
    simp only
    repeat' split
    all_goals simp [e, Proc.key, Case.drainTanks, Case.goto]
  next e =>
    split
    · simp [e, Proc.key, Case.leakManual, Case.goto]
    · exact ⟨rfl, rfl⟩
  next e =>
    rw [e] at key
    split
    · simp only [Case.failAttempt, Case.purge, Case.goto]
      split
      all_goals exact ⟨rfl, by rw [e]; exact key.symm⟩
    · exact ⟨rfl, rfl⟩
  · exact ⟨rfl, rfl⟩

theorem State.deliver_upholds (s : State) {d : Detection} {c : Case} (mem : c ∈ s.cm.table)
    (h : c.takes d.key = true) : (s.deliver d c).Upholds s := by
  unfold State.deliver
  extract_lets counted
  have carries : (counted.deliver d s.pmc.limits).Continues counted :=
    Case.deliver_continues (c := counted) h _
  exact s.changeCase_upholds counted mem ⟨carries.id, carries.key, carries.resolved⟩

theorem State.detect_upholds (s : State) (d : Detection) : (s.detect d).Upholds s := by
  unfold State.detect
  split
  next c found => exact s.deliver_upholds (List.mem_of_find?_eq_some found) (List.find?_some found)
  next none =>
    split
    next room => exact s.openCase_upholds room none
    · exact State.automaticHalt_upholds _ s

theorem State.detectEvent_upholds (s : State) (d : Detection) : (s.detectEvent d).Upholds s :=
  (s.detect_upholds d).then (State.commit_upholds _)

end Sys2Proof.Machine
end

section
/-! PROOF. A round of the Input Sampler upholds the laws of the lines and of the case table: what a case
makes of a sample carries it on, and the standing guards follow the readings (R29, R53 to R55, R134). -/

namespace Sys2Proof.Machine

/-! ### What a case makes of a sample -/

/-- A record of the same id and key carries on a case outside RESOLVED. -/
theorem Case.Continues.of_standing {new old : Case} (h : old.isResolved = false)
    (same : new.id = old.id ∧ new.proc.key = old.proc.key) : new.Continues old :=
  ⟨same.1, same.2, fun resolved => by simp [h] at resolved⟩

section
variable (z : Zone) (rec : ZoneRecord) (lines : Lines) (s : State) (c : Case)

theorem Case.isolateSample_same {source : LeakSource} {leaking un : ZoneSet} {refs : Four (Option Nat)}
    (h : c.proc = .leak source leaking un refs) :
    (c.isolateSample z lines source leaking un refs).id = c.id
      ∧ (c.isolateSample z lines source leaking un refs).proc.key = c.proc.key := by
  unfold Case.isolateSample
  split <;> simp [h, Proc.key]

theorem Case.drainSample_same {source : LeakSource} {leaking un : ZoneSet} {refs : Four (Option Nat)}
    (h : c.proc = .leak source leaking un refs) :
    (c.drainSample z s source leaking un).id = c.id
      ∧ (c.drainSample z s source leaking un).proc.key = c.proc.key := by
  unfold Case.drainSample
  split <;> simp [h, Proc.key, Case.leakManual, Case.goto]

theorem Case.refillSample_same {pressure attempt goal : Nat} (h : c.proc = .filter z pressure attempt goal)
    (level : Reading) (l : Limits) :
    (c.refillSample z rec level pressure attempt l).id = c.id
      ∧ (c.refillSample z rec level pressure attempt l).proc.key = c.proc.key := by
  unfold Case.refillSample
  repeat' split
  all_goals simp [h, Proc.key, Case.filterVerify, Case.goto]

theorem Case.verifySample_same (goal n : Nat) :
    (c.verifySample goal n).id = c.id ∧ (c.verifySample goal n).proc.key = c.proc.key := by
  unfold Case.verifySample
  split <;> exact ⟨rfl, rfl⟩

theorem Case.testSample_same {k sum : Nat} {a b : Bool} (h : c.proc = .heaterOpen z k a b sum)
    (driven : Bool) (current : Reading) (n : Nat) :
    (c.testSample z rec driven current k a b sum n).id = c.id
      ∧ (c.testSample z rec driven current k a b sum n).proc.key = c.proc.key := by
  unfold Case.testSample Case.endTests
  repeat' split
  all_goals simp [h, Proc.key, Case.testElement, Case.goto, Case.resolve]

theorem Case.stuckSample_same {carried low : Nat} (h : c.proc = .heaterStuck z carried low)
    (current : Reading) (n : Nat) :
    (c.stuckSample z rec current carried low n).1.id = c.id
      ∧ (c.stuckSample z rec current carried low n).1.proc.key = c.proc.key := by
  simp only [Case.stuckSample]
  repeat' split
  all_goals simp [h, Proc.key, Case.goto]

theorem Case.hotSample_same {carried : Nat} (h : c.proc = .overtemp z carried) (temperature : Reading)
    (n : Nat) :
    (c.hotSample z rec temperature carried n).id = c.id
      ∧ (c.hotSample z rec temperature carried n).proc.key = c.proc.key := by
  unfold Case.hotSample
  repeat' split
  all_goals simp [h, Proc.key, Case.goto, Case.resolve]

theorem Case.sensorSample_same (reading : Reading) (n : Nat) :
    (c.sensorSample reading n).id = c.id ∧ (c.sensorSample reading n).proc.key = c.proc.key := by
  unfold Case.sensorSample
  repeat' split
  all_goals exact ⟨rfl, rfl⟩

/-- A case carries itself on at a sample (R134): those that take it stand outside RESOLVED. -/
theorem Case.sample_continues (r : Quad Reading) : (c.sample z rec lines r s).1.Continues c := by
  unfold Case.sample
  split
  next proc state => exact .of_standing (by simp [Case.isResolved, state]) (c.isolateSample_same z lines proc)
  next proc state => exact .of_standing (by simp [Case.isResolved, state]) (c.drainSample_same z s proc)
  next cz _ _ _ proc state =>
    split
    next own =>
      obtain rfl : cz = z := by simpa using (Bool.and_eq_true_iff.mp own).1
      exact .of_standing (by simp [Case.isResolved, state]) (c.refillSample_same cz rec proc _ _)
    · exact .refl c
  next proc state =>
    split
    · exact .of_standing (by simp [Case.isResolved, state]) (c.verifySample_same _ _)
    · exact .refl c
  next proc state =>
    split
    next own =>
      subst own
      exact .of_standing (by simp [Case.isResolved, state]) (c.testSample_same _ rec proc _ _ _)
    · exact .refl c
  next proc state =>
    split
    next own =>
      subst own
      exact .of_standing (by simp [Case.isResolved, state]) (c.stuckSample_same _ rec proc _ _)
    · exact .refl c
  next proc state =>
    split
    next own =>
      subst own
      exact .of_standing (by simp [Case.isResolved, state]) (c.hotSample_same _ rec proc _ _)
    · exact .refl c
  next proc state =>
    split
    · exact .of_standing (by simp [Case.isResolved, state]) (c.sensorSample_same _ _)
    · exact .refl c
  · exact .refl c

end

/-! ### The consumers of a zone sample -/

section
variable (z : Zone) (lines : Lines) (r : Quad Reading)

theorem State.caseSample_upholds (rec : ZoneRecord) (s : State) (id : Nat) :
    (s.caseSample z rec lines r id).Upholds s := by
  unfold State.caseSample
  split
  · exact .refl s
  next c found =>
    split
    · exact .refl s
    · extract_lets n q
      have moved : q.Upholds s :=
        s.advanceCase_upholds (findCase_eq_some found).1 (c.sample_continues z rec lines s r)
      exact ((moved.thenIf (q.enterHalt_upholds .unisolatedHeat)).then
        (State.settleAfter_upholds c n.1 _)).then (State.commit_upholds _)

theorem State.casesSample_upholds (ids : List Nat) (s : State) : (s.casesSample z lines r ids).Upholds s := by
  unfold State.casesSample
  split
  · exact .refl s
  · exact .foldl (State.caseSample_upholds z lines r _) s ids

theorem State.managerSample_upholds (ds : List Detection) (first : Nat) (ids : List Nat) (s : State) :
    (s.managerSample z lines r ds first ids).Upholds s :=
  ((State.Upholds.foldl State.detectEvent_upholds s _).then (State.casesSample_upholds z lines r ids _)).then
    (.foldl State.detectEvent_upholds _ _)

theorem State.contactSample_upholds (s : State) : (s.contactSample z lines r).Upholds s :=
  (State.Upholds.refl s).thenIf (s.setRt_upholds _)

theorem State.doseSample_upholds (s : State) : (s.doseSample z lines r).Upholds s := by
  simp only [State.doseSample]
  split
  · exact s.setRt_upholds _
  · exact .refl s

/-- An ACTIVE dwell claims the same whatever its timer and its candidates (R92). -/
theorem State.setDu_active_upholds {s : State} {dz z : Zone} {ms timer : Nat} {tags found : List Nat}
    (h : s.du = .active dz ms tags) : (s.setDu (.active z timer found)).Upholds s :=
  .of_wants rfl (fun sound => sound) fun o _ => by
    cases o with
    | dwell => simp only [State.ownerWants, State.setDu_du, h, dwellClaims]
    | _ => rfl

theorem State.dwellSample_upholds (s : State) : (s.dwellSample z).Upholds s := by
  simp only [State.dwellSample]
  split
  · split
    · exact .refl s
    · exact (s.setDu_upholdsBut _).set [.dwell] rfl
  next active =>
    repeat' split
    · exact s.endDwell_upholds
    · exact State.setDu_active_upholds active
    · exact .refl s

theorem State.finalSample_upholds (s : State) : (s.finalSample z lines r).Upholds s := by
  simp only [State.finalSample]
  split
  · exact .refl s
  · split
    · exact (s.doseSample_upholds z lines r).thenIf (State.dwellSample_upholds z _)
    · exact .refl s

theorem State.detectorSample_upholds (runs : List Quantity) (s : State) :
    (s.detectorSample z lines r runs).1.Upholds s := by
  unfold State.detectorSample
  split
  · exact .refl s
  · exact s.setFd_upholds _

theorem State.traceSample_upholds (s : State) : (s.traceSample z r).Upholds s := by
  refine (State.Upholds.refl s).thenIf (s.setLk_upholds ?_)
  rw [Lk.trace_eq]
  split <;> rfl

/-- The standing guards of a zone follow its readings (R53 to R55). -/
theorem State.UpholdsBut.guardSample {t s : State}
    (h : t.UpholdsBut [.tempGuard z, .levelGuard z] s)
    (reads : r.temp = (t.smp.channels.get z).temp.reading ∧ r.level = (t.smp.channels.get z).level.reading) :
    (t.guardSample z r).Upholds s :=
  h.set [.tempGuard z, .levelGuard z] (by simp [State.ownerWants, reads])

end

/-! ### One zone sample -/

/-- A new reading of a zone: its standing guards have yet to be set (R53, R54). -/
theorem State.converted_upholdsBut (codes : Quad Nat) (z : Zone) (s : State) :
    (s.converted codes z).UpholdsBut [.tempGuard z, .levelGuard z] s :=
  .of_wants rfl (fun sound => sound) fun o out => by
    cases o with
    | tempGuard w =>
      have other : w ≠ z := by simpa using out
      simp [State.ownerWants, State.converted, other]
    | levelGuard w =>
      have other : w ≠ z := by simpa using out
      simp [State.ownerWants, State.converted, other]
    | _ => rfl

theorem State.zoneSample_upholds (codes : Quad Nat) (order : ZoneOrder) (z : Zone) (s : State) :
    (s.zoneSample codes order z).Upholds s := by
  unfold State.zoneSample
  extract_lets conv r lines ids smp s1 s2 f s3
  have h1 : s1.UpholdsBut [.tempGuard z, .levelGuard z] s := s.converted_upholdsBut codes z
  have h2 := (h1.then (State.contactSample_upholds z lines r s1)).then (State.finalSample_upholds z lines r _)
  have h3 : s3.UpholdsBut [.tempGuard z, .levelGuard z] s :=
    (h2.then (State.detectorSample_upholds z lines r conv.2 s2)).then (State.traceSample_upholds z r f.1)
  have smp3 : s3.smp = s1.smp := by
    rw [State.traceSample_smp, (State.detectorSample_kept z lines r s2 conv.2).smp,
      (State.accrued_kept z lines r s1).smp]
  have reads : ∀ t : State, t.smp = s1.smp → r.temp = (t.smp.channels.get z).temp.reading
      ∧ r.level = (t.smp.channels.get z).level.reading := fun t same => by
    rw [same]
    simp [s1, smp, r, readingsOf]
  split
  · exact (h3.guardSample z r (reads s3 smp3)).then (State.managerSample_upholds z lines r f.2 _ ids _)
  · refine (h3.then (State.managerSample_upholds z lines r f.2 _ ids s3)).guardSample z r (reads _ ?_)
    rw [(State.managerSample_kept z lines r s3 f.2 _ ids).smp, smp3]

/-! ### The round and the travel event -/

/-- What of the sampler is not a channel decides no claim. -/
theorem State.setSmp_upholds (s : State) {m : Smp} (h : m.channels = s.smp.channels) :
    (s.setSmp m).Upholds s := .of_same rfl rfl h rfl rfl rfl

theorem State.panEvent_upholds (before : Smp) (s : State) : (s.panEvent before).Upholds s :=
  (State.Upholds.refl s).thenIf (s.detectEvent_upholds .leakPan)

theorem State.eyeEvent_upholds (before : Smp) (s : State) : (s.eyeEvent before).Upholds s :=
  (State.Upholds.refl s).thenIf (s.entryEvent_upholds.then (State.commit_upholds _))

theorem State.sampleRound_upholds (input : RoundInput) (s : State) : (s.sampleRound input).Upholds s := by
  rw [State.sampleRound_eq]
  have debounced : (s.setSmp (s.smp.debounced input)).Upholds s := s.setSmp_upholds rfl
  have inputs : (s.inputsTaken input).Upholds s := by
    simp only [State.inputsTaken]
    split
    · exact (debounced.then (State.eyeEvent_upholds _ _)).then (State.panEvent_upholds _ _)
    · exact (debounced.then (State.panEvent_upholds _ _)).then (State.eyeEvent_upholds _ _)
  exact inputs.then (.foldl (fun s z => State.zoneSample_upholds _ _ z s) _ _)

theorem State.pulseDetectors_upholds (s : State) : s.pulseDetectors.Upholds s := by
  unfold State.pulseDetectors
  extract_lets fd q
  have restarted : q.Upholds s := s.setFd_upholds _
  repeat' split
  · exact .refl s
  next c found => exact restarted.then (q.resolveCase_upholds (List.mem_of_find?_eq_some found))
  · exact restarted
  · exact restarted

theorem State.pulse_upholds (trackerFirst : Bool) (s : State) : (s.pulse trackerFirst).Upholds s := by
  unfold State.pulse
  extract_lets smp q
  have travelled : q.Upholds s := s.setSmp_upholds rfl
  split
  · exact ((travelled.then q.testExits_upholds).then (State.pulseDetectors_upholds _)).then
      (State.commit_upholds _)
  · exact ((travelled.then q.pulseDetectors_upholds).then (State.testExits_upholds _)).then
      (State.commit_upholds _)

end Sys2Proof.Machine
end

section
/-! PROOF. Every command upholds the laws of the lines and of the case table (R45 to R48, R52 to R58,
R74, R92, R118, R120). -/

namespace Sys2Proof.Machine

/-! ### Requests -/

theorem State.answer_upholds (s : State) (r : Request) (p : List Byte) : (s.answer r p).Upholds s :=
  s.setLk_upholds rfl

theorem State.dropRequest_upholds (s : State) : s.dropRequest.Upholds s := s.setLk_upholds rfl

/-- A request upholds what its owner's answer upholds (R180). -/
theorem takeRequest_upholds {owner : List Byte → State → Answered}
    (h : ∀ p s, (owner p s).1.Upholds s) (kind length : Nat) (inStarting : Bool) (s : State) :
    (takeRequest kind length inStarting owner s).Upholds s := by
  have handled : ∀ p, (s.dropRequest.handle length inStarting owner p).1.Upholds s := fun p => by
    unfold State.handle
    repeat' split
    · exact s.dropRequest_upholds
    · exact s.dropRequest_upholds
    · exact s.dropRequest_upholds.then (h p _)
  unfold takeRequest
  repeat' split
  · exact .refl s
  · exact ((handled _).then (State.answer_upholds _ _ _)).then (State.commit_upholds _)
  · exact .refl s

/-- A mode change behind a flush (R19, R21). -/
theorem State.flushMode_upholds (reason : FlushReason) (m : Mode) (cause : HaltCause) (s : State) :
    ((s.flush reason).changeMode m cause).Upholds s :=
  (State.flush_upholds reason s).then (State.changeMode_upholds m cause _)

theorem State.enterRun_upholds (s : State) : s.enterRun.Upholds s :=
  (State.changeMode_upholds .run .none s).thenIf (State.entryEvent_upholds _)

theorem modePrepareFromStandby_upholds (s : State) : (modePrepareFromStandby s).1.Upholds s := by
  unfold modePrepareFromStandby
  split
  · exact .refl s
  · exact State.changeMode_upholds .prepare .none s

theorem modeRunFromPrepare_upholds (s : State) : (modeRunFromPrepare s).1.Upholds s := by
  unfold modeRunFromPrepare
  repeat' split
  · exact .refl s
  · exact .refl s
  · exact s.enterRun_upholds

theorem modeStandby_upholds (force : Bool) (s : State) : (modeStandby force s).1.Upholds s := by
  unfold modeStandby
  repeat' split
  · exact State.flushMode_upholds .standbyFlush .standby .none s
  · exact .refl s
  · exact State.changeMode_upholds .standby .none s

theorem modeTable_upholds (target : Mode) (force : Bool) (s : State) :
    (modeTable target force s).1.Upholds s := by
  unfold modeTable
  split
  · exact .refl s
  · exact modePrepareFromStandby_upholds s
  · exact .refl s
  · exact modeStandby_upholds force s
  · exact .refl s
  · exact modeRunFromPrepare_upholds s
  · exact modeStandby_upholds force s
  · exact State.changeMode_upholds .prepare .none s
  · exact .refl s
  · exact State.changeMode_upholds .halt .requested s
  · exact State.changeMode_upholds .halt .requested s
  · exact State.changeMode_upholds .halt .requested s
  · exact .refl s

theorem modeRequest_upholds (p : List Byte) (s : State) : (modeRequest p s).1.Upholds s := by
  unfold modeRequest
  repeat' split
  · exact .refl s
  · exact .refl s
  · exact .refl s
  · exact modeTable_upholds _ _ s

/-- A new record of a zone that is not ONLINE, with its guards (R7, R55). -/
theorem State.zoneLoaded_upholds (z : Zone) (rec : ZoneRecord) (s : State) :
    (s.zoneLoaded z rec).Upholds s := by
  have slot : (s.setPmc { s.pmc with zones := s.pmc.zones.set z { s.pmc.zones.get z with
      slot := .offline rec } }).UpholdsBut [.zoneOff z, .levelGuard z] s :=
    s.setZones_upholdsBut _ _
      (fun w out => by
        have other : w ≠ z := by simpa using out
        rw [Four.get_set_other _ _ other])
      (fun w out => by
        have other : w ≠ z := by simpa using out
        rw [Four.get_set_other _ _ other])
  have off : (s.setSlot z { s.pmc.zones.get z with slot := .offline rec }).UpholdsBut [.levelGuard z] s :=
    slot.set [.zoneOff z] (by simp [State.ownerWants]) (rest := [.levelGuard z]) (by simp)
  exact off.set [.levelGuard z] (by simp [State.ownerWants])

theorem zoneLoadRequest_upholds (p : List Byte) (s : State) : (zoneLoadRequest p s).1.Upholds s := by
  simp only [zoneLoadRequest]
  repeat' split
  · exact .refl s
  · exact .refl s
  · exact .refl s
  next z _ _ _ => exact s.zoneLoaded_upholds z _

theorem Case.chanLoaded_same (z : Zone) (q : Quantity) (c : Case) :
    (c.chanLoaded z q).id = c.id ∧ (∀ k, (c.chanLoaded z q).takes k = c.takes k)
      ∧ (c.chanLoaded z q).posted = c.posted := by
  unfold Case.chanLoaded
  split
  · exact ⟨rfl, fun _ => rfl, rfl⟩
  · exact ⟨rfl, fun _ => rfl, rfl⟩

/-- Records changed all over the table in what decides no claim. -/
theorem State.ownerWants_mapTable {t s : State} {f : Case → Case} (table : t.cm.table = s.cm.table.map f)
    (id : ∀ c, (f c).id = c.id) (posted : ∀ c, (f c).posted = c.posted) (n : Nat) :
    t.ownerWants (.ofCase n) = s.ownerWants (.ofCase n) := by
  rw [State.ownerWants_ofCase, State.ownerWants_ofCase, table, findCase_map _ id, Option.map_map]
  congr 2
  funext c
  exact posted c

/-- A calibration written: the guard of its channel has yet to be set (R26, R55). -/
theorem State.calibrated_upholdsBut (z : Zone) (q : Quantity) (c : Calibration) (s : State)
    {ex : List Owner} (temp : q = .temp → .tempGuard z ∈ ex) (level : q = .level → .levelGuard z ∈ ex) :
    (s.calibrated z q c).UpholdsBut ex s :=
  .of_wants rfl
    (fun sound => SoundTable.map sound (fun c => (c.chanLoaded_same z q).1)
      fun c => (c.chanLoaded_same z q).2.1)
    fun o out => by
      cases o with
      | ofCase n =>
        exact State.ownerWants_mapTable rfl (fun c => (c.chanLoaded_same z q).1)
          (fun c => (c.chanLoaded_same z q).2.2) n
      | tempGuard w =>
        simp only [State.ownerWants, State.calibrated, Four.get_set]
        split
        next own =>
          subst own
          cases q with
          | temp => exact absurd (temp rfl) out
          | _ => rfl
        · rfl
      | levelGuard w =>
        simp only [State.ownerWants, State.calibrated, Four.get_set]
        split
        next own =>
          subst own
          cases q with
          | level => exact absurd (level rfl) out
          | _ => rfl
        · rfl
      | _ => rfl

theorem State.writeCalibration_upholds (z : Zone) (q : Quantity) (c : Calibration) (s : State) :
    (s.writeCalibration z q c).Upholds s := by
  rw [State.writeCalibration_eq]
  cases q with
  | temp =>
    have loaded := s.calibrated_upholdsBut z .temp c (ex := [.tempGuard z]) (by simp) (by simp)
    exact loaded.set [.tempGuard z] (by simp [State.ownerWants, State.calibrated, Quad.set, Channel.loaded])
  | level =>
    have loaded := s.calibrated_upholdsBut z .level c (ex := [.levelGuard z]) (by simp) (by simp)
    exact loaded.set [.levelGuard z] (by simp [State.ownerWants, State.calibrated, Quad.set, Channel.loaded])
  | pressure => exact s.calibrated_upholdsBut z .pressure c (by simp) (by simp)
  | current => exact s.calibrated_upholdsBut z .current c (by simp) (by simp)

theorem chanLoadRequest_upholds (p : List Byte) (s : State) : (chanLoadRequest p s).1.Upholds s := by
  simp only [chanLoadRequest]
  repeat' split
  · exact .refl s
  · exact .refl s
  · exact .refl s
  · exact State.writeCalibration_upholds _ _ _ s

/-- The limits decide no claim. -/
theorem State.setLimits_upholds (s : State) (l : Limits) : (s.setPmc { s.pmc with limits := l }).Upholds s :=
  .of_wants rfl (fun sound => sound) fun o _ => by cases o <;> rfl

theorem limitsLoadRequest_upholds (p : List Byte) (s : State) : (limitsLoadRequest p s).1.Upholds s := by
  simp only [limitsLoadRequest]
  split
  · exact s.setLimits_upholds _
  · exact s.setLimits_upholds _
  · exact .refl s

theorem zoneOnRequest_upholds (p : List Byte) (s : State) : (zoneOnRequest p s).1.Upholds s := by
  simp only [zoneOnRequest]
  repeat' split
  · exact .refl s
  · exact .refl s
  · exact .refl s
  · exact .refl s
  · exact .refl s
  · exact .refl s
  next offline _ _ _ => exact s.setSlot_upholds _ (by simp [offline, SlotState.record])

theorem zoneOffRequest_upholds (p : List Byte) (s : State) : (zoneOffRequest p s).1.Upholds s := by
  simp only [zoneOffRequest]
  repeat' split
  · exact .refl s
  · exact .refl s
  · exact .refl s
  · exact State.takeOff_upholds _ s

theorem haltClearRequest_upholds (p : List Byte) (s : State) : (haltClearRequest p s).1.Upholds s := by
  unfold haltClearRequest
  split
  · exact State.flushMode_upholds _ _ _ s
  · exact .refl s

/-- A case found by its id, for the id 0 none (R133). -/
theorem mem_of_findRequested {table : List Case} {n : Nat} {c : Case}
    (h : (if n = 0 then none else findCase table n) = some c) : c ∈ table := by
  split at h
  · cases h
  · exact (findCase_eq_some h).1

theorem caseClearRequest_upholds (p : List Byte) (s : State) : (caseClearRequest p s).1.Upholds s := by
  unfold caseClearRequest
  split
  · exact .refl s
  next c found =>
    have mem := mem_of_findRequested found
    split
    · exact s.resolveCase_upholds mem
    · exact s.resolveCase_upholds mem
    · exact .refl s

theorem Case.retry_continues {s : State} {c c' : Case} (h : c.retry s = some c') : c'.Continues c := by
  unfold Case.retry at h
  split at h
  next state proc =>
    cases h
    exact .of_standing (by simp [Case.isResolved, state]) (by simp [Case.localise, Case.goto, proc, Proc.key])
  next state proc =>
    cases h
    exact .of_standing (by simp [Case.isResolved, state]) (by simp [Case.purge, Case.goto, proc, Proc.key])
  · cases h

theorem State.retryLinks_upholds (c : Case) (s : State) : (s.retryLinks c).Upholds s := by
  unfold State.retryLinks
  split
  · exact s.setRt_upholds _
  · exact .refl s

theorem caseRetryRequest_upholds (p : List Byte) (s : State) : (caseRetryRequest p s).1.Upholds s := by
  unfold caseRetryRequest
  split
  · exact .refl s
  next c found =>
    have mem := mem_of_findRequested found
    split
    · exact .refl s
    next c' retried =>
      have unmarked := State.removeMarkers_upholds c.id s
      exact (unmarked.then (State.changeCase_upholds _ c mem (Case.retry_continues retried))).then
        (State.retryLinks_upholds c' _)

theorem traceRequest_upholds (p : List Byte) (s : State) : (traceRequest p s).1.Upholds s := by
  simp only [traceRequest]
  repeat' split
  · exact s.setLk_upholds rfl
  · exact s.setLk_upholds rfl
  · exact .refl s

theorem restartRequest_upholds (p : List Byte) (s : State) : (restartRequest p s).1.Upholds s :=
  s.setLk_upholds (l := { s.lk with restart := .awaitingReply }) rfl

theorem zoneReadRequest_upholds (p : List Byte) (s : State) : (zoneReadRequest p s).1.Upholds s := by
  unfold zoneReadRequest
  split
  · exact .refl s
  · exact .refl s

theorem linesReadRequest_upholds (p : List Byte) (s : State) : (linesReadRequest p s).1.Upholds s := by
  unfold linesReadRequest
  split
  · exact .refl s
  · exact .refl s

theorem racksReadRequest_upholds (p : List Byte) (s : State) : (racksReadRequest p s).1.Upholds s := by
  unfold racksReadRequest
  split
  · exact .refl s
  · exact .refl s

theorem caseReadRequest_upholds (p : List Byte) (s : State) : (caseReadRequest p s).1.Upholds s := by
  unfold caseReadRequest
  repeat' split
  · exact .refl s
  · exact .refl s
  · exact .refl s

theorem unknownKind_upholds {s t : State} (h : execUnknownKind s = .next t) : t.Upholds s := by
  cases h
  repeat' split
  · exact .refl s
  · exact .refl s
  · exact s.dropRequest_upholds.then (State.answer_upholds _ _ _)

/-- The arbiter leaves the outcome queue (R181). -/
theorem Lk.boundary_outcomes (l : Lk) : l.boundary.outcomes = l.outcomes := by
  unfold Lk.boundary
  split <;> rfl

/-! ### Expiries -/

/-- A case whose timer expires moves on with a record that carries it on (R134). -/
theorem State.expiring_upholds {s : State} {k : Key} {state : CaseState} {step : Step} {c new : Case}
    (found : s.expiring k state step = some c) (h : new.id = c.id ∧ new.proc.key = c.proc.key) :
    (s.changeCase c new).commit.Upholds s := by
  have stands : c.isResolved = false := by
    have := List.find?_some found
    simp only [Case.takes, Bool.and_eq_true, Bool.not_eq_true'] at this
    exact this.1.1.1.1
  exact (s.changeCase_upholds c (List.mem_of_find?_eq_some found) (.of_standing stands h)).then
    (State.commit_upholds _)

theorem Case.judgeLeak_same (c : Case) (s : State) :
    (c.judgeLeak s).id = c.id ∧ (c.judgeLeak s).proc.key = c.proc.key := by
  unfold Case.judgeLeak
  split
  next h =>
    simp only
    repeat' split
    all_goals simp [h, Proc.key, Case.drainTanks, Case.leakManual, Case.leakVerify, Case.goto]
  · exact ⟨rfl, rfl⟩

theorem Case.toLeakManual_same (c : Case) :
    c.toLeakManual.id = c.id ∧ c.toLeakManual.proc.key = c.proc.key := by
  unfold Case.toLeakManual
  split
  next h => simp [h, Proc.key, Case.leakManual, Case.goto]
  · exact ⟨rfl, rfl⟩

theorem Case.toRefill_same (l : Limits) (c : Case) :
    (c.toRefill l).id = c.id ∧ (c.toRefill l).proc.key = c.proc.key := by
  unfold Case.toRefill
  split
  next h => simp [h, Proc.key, Case.refill, Case.goto]
  · exact ⟨rfl, rfl⟩

theorem Case.toFailed_same (l : Limits) (c : Case) :
    (c.toFailed l).id = c.id ∧ (c.toFailed l).proc.key = c.proc.key := by
  unfold Case.toFailed Case.failAttempt
  repeat' split
  all_goals simp [*, Proc.key, Case.purge, Case.goto]

theorem State.localiseExpiry_upholds (s : State) : s.localiseExpiry.Upholds s := by
  unfold State.localiseExpiry
  split
  next c found => exact State.expiring_upholds found (c.judgeLeak_same s)
  · exact .refl s

theorem State.drainExpiry_upholds (s : State) : s.drainExpiry.Upholds s := by
  unfold State.drainExpiry
  split
  next c found => exact State.expiring_upholds found c.toLeakManual_same
  · exact .refl s

/-- The leak watch decides no claim. -/
theorem State.setCm_upholds (s : State) {m : Cm} (h : m.table = s.cm.table) : (s.setCm m).Upholds s :=
  .of_same rfl rfl rfl rfl h rfl

theorem State.leakVerifyExpiry_upholds (s : State) : s.leakVerifyExpiry.Upholds s := by
  unfold State.leakVerifyExpiry
  split
  next c found =>
    have watched : s.startLeakWatch.Upholds s := s.setCm_upholds rfl
    exact (watched.then (State.resolveCase_upholds _ (List.mem_of_find?_eq_some found))).then
      (State.commit_upholds _)
  · exact .refl s

theorem State.purgeExpiry_upholds (z : Zone) (s : State) : (s.purgeExpiry z).Upholds s := by
  unfold State.purgeExpiry
  split
  next c found => exact State.expiring_upholds found (c.toRefill_same _)
  · exact .refl s

theorem State.refillExpiry_upholds (z : Zone) (s : State) : (s.refillExpiry z).Upholds s := by
  unfold State.refillExpiry
  split
  next c found => exact State.expiring_upholds found (c.toFailed_same _)
  · exact .refl s

theorem State.dwellExpiry_upholds (s : State) : s.dwellExpiry.Upholds s := by
  unfold State.dwellExpiry
  split
  · exact (s.setRt_upholds _).then (State.endDwell_upholds _)
  · exact .refl s

theorem State.silenceExpiry_upholds (s : State) : s.silenceExpiry.Upholds s := by
  unfold State.silenceExpiry
  split
  · exact (s.setFd_upholds _).then (State.detectEvent_upholds _ _)
  · exact .refl s

/-! ### Checkpoint writes -/

theorem State.startWrite_upholds (s : State) : s.startWrite.Upholds s :=
  .of_same (by simp) (by simp) (by simp) (by simp) (by simp) (by simp)

theorem State.verifyComplete_upholds (s : State) : s.verifyComplete.Upholds s := by
  unfold State.verifyComplete
  split
  · split
    · simp only [State.writeVerified]
      repeat' split
      · exact ((s.setCk_upholds _).then (State.setCk_upholds _ _)).then
          (State.announceCheckpoint_upholds _)
      · exact (s.setCk_upholds _).then (State.startWrite_upholds _)
      · exact s.setCk_upholds _
    · have marked : ∀ (ck : Ck) (n : Nat), State.Upholds { s.setCk ck with freeIndex := n } s :=
        fun _ _ => .of_same rfl rfl rfl rfl rfl rfl
      simp only [State.writeFailed]
      split
      · exact (marked _ _).then (State.setCk_upholds _ _)
      · exact ((marked _ _).then (State.setCk_upholds _ _)).then (State.announceCheckpoint_upholds _)
  · exact .refl s

/-! ### Time, resets and the supply -/

theorem Case.tick_same (c : Case) :
    c.tick.id = c.id ∧ (∀ k, c.tick.takes k = c.takes k) ∧ c.tick.posted = c.posted := by
  unfold Case.tick
  split
  · exact ⟨rfl, fun _ => rfl, rfl⟩
  · exact ⟨rfl, fun _ => rfl, rfl⟩

theorem State.tick_upholds (s : State) : s.tick.Upholds s := by
  unfold State.tick
  split
  · refine .of_wants rfl (fun sound => SoundTable.map sound (fun c => c.tick_same.1)
      fun c => c.tick_same.2.1) fun o _ => ?_
    cases o with
    | ofCase n =>
      exact State.ownerWants_mapTable rfl (fun c => c.tick_same.1) (fun c => c.tick_same.2.2) n
    | dwell =>
      simp only [State.ownerWants]
      cases s.du <;> rfl
    | _ => rfl
  · exact .refl s

theorem State.goDown_upholds (p : Power) (s : State) : (s.goDown p).Upholds s :=
  .of_same rfl rfl rfl rfl rfl rfl

/-- A state that meets the laws itself. -/
theorem State.Upholds.of_meets {t : State} (drives : t.DrivesResolved) (claims : t.ClaimsStand)
    (table : t.TableSound) (s : State) : t.Upholds s := by
  obtain ⟨once, stands⟩ := t.claimsStand_iff.mp claims
  exact ⟨fun _ => drives, fun _ => once, fun _ => table, fun _ o _ _ => stands o⟩

/-- After a reset every line is off, under the BLOCK of MODE (R60). -/
theorem reset_blocked (id : LineId) :
    (State.reset.lg.get id).drive = false
      ∧ (State.reset.lg.get id).claims.any (fun c => c.kind = .block) = true := by
  rw [reset_line]
  cases id <;> simp [resetOwners, Line.afterReset, blocksOf]

/-- After a reset the owners claim what they do at State.reset, whatever the requests are (R60, R171). -/
theorem State.endReset_upholds (cause : ResetCause) (strap : Baud) (s : State) :
    (s.endReset cause strap).Upholds s := by
  have line : ∀ id, (s.endReset cause strap).lg.get id = (s.lg.get id).resetWith (State.reset.lg.get id) :=
    fun id => by simp [State.endReset]
  have wants : ∀ o, (s.endReset cause strap).ownerWants o = State.reset.ownerWants o :=
    fun o => by cases o <;> rfl
  have claims : (s.endReset cause strap).ClaimsStand := fun o id => by
    rw [wants, ← reset_claimsStand o id, Lines.claimsOf, Lines.claimsOf, line]
    rfl
  refine .of_meets (fun id => ?_) claims ⟨Nat.zero_le _, List.nodup_nil, fun _ => Nat.zero_le 1⟩ s
  obtain ⟨off, blocked⟩ := reset_blocked id
  simp only [line, Line.resetWith, off, blocked, if_true]

/-- The end of STARTING (R170): the scan restores racks, counters and the next case id, then the drain and the
mode change. -/
theorem State.startingEnd_upholds (s : State) : s.startingEnd.Upholds s := by
  unfold State.startingEnd
  extract_lets q
  have restored : s.restore.Upholds s := .of_same rfl rfl rfl rfl rfl rfl
  have entered : q.Upholds s :=
    ((restored.then (State.announceRestore_upholds _)).then (State.drainRacks_upholds _)).then
      (State.changeMode_upholds .standby .none _)
  exact (entered.thenIf q.announceCheckpoint_upholds).then (State.commit_upholds _)

/-! ### Request inputs -/

/-- The claim lists stay, and each line that was resolved is (R45, R48). -/
theorem State.Upholds.of_claims {s : State} {lg : Lines} {fd : Fd}
    (claims : ∀ id, (lg.get id).claims = (s.lg.get id).claims)
    (drives : ∀ id, (s.lg.get id).Resolved → (lg.get id).Resolved) :
    State.Upholds { s with lg := lg, fd := fd } s where
  drives h id := drives id (h id)
  once h o id := by
    rw [Lines.claimsOf, claims]
    exact h o id
  table h := h
  stands _ o _ h id := by
    have wants : State.ownerWants { s with lg := lg, fd := fd } o = s.ownerWants o := by cases o <;> rfl
    rw [wants, ← h id, Lines.claimOf, Lines.claimOf, claims]

theorem State.request_upholds (id : LineId) (on : Bool) (s : State) : (s.request id on).Upholds s :=
  .of_claims (fun l => by
      rw [Lines.request, Lines.get_set]
      split
      next h => rw [h]; rfl
      · rfl)
    fun l => Lines.request_resolved s.lg id l on

theorem State.inputOnly_upholds (id : LineId) (on : Bool) (s : State) : (s.inputOnly id on).Upholds s :=
  .of_claims (fun l => by
      rw [Lines.get_set]
      split
      next h => rw [h]
      · rfl)
    fun l h => by
      rw [Lines.get_set]
      split
      next e => rw [e] at h; exact h
      · exact h

/-! ### Commands -/

/-- A command that does one thing or another (R199). -/
theorem upholds_branch {t u s : State} (b : Prop) [Decidable b] (ht : t.Upholds s) (hu : u.Upholds s) :
    (if b then t else u).Upholds s := by
  split
  · exact ht
  · exact hu

/-- A command that does something or nothing. -/
theorem upholds_ite {t s : State} (b : Prop) [Decidable b] (h : t.Upholds s) :
    (if b then t else s).Upholds s := upholds_branch b h (.refl s)

theorem exec_upholds : ∀ (c : Instr) {s t : State}, exec c s = .next t → t.Upholds s
  | .powerReset _, s, _, rfl => upholds_branch _ (s.goDown_upholds _) (s.endReset_upholds _ _)
  | .pinReset _, s, _, rfl => upholds_branch _ (s.goDown_upholds _) (s.endReset_upholds _ _)
  | .performRestart _, s, _, rfl => upholds_ite _ (s.endReset_upholds _ _)
  | .startingEnd, s, _, rfl => upholds_ite _ s.startingEnd_upholds
  | .linkReset, s, _, rfl => upholds_ite _ (s.setLk_upholds rfl)
  | .rxByte _ _, s, _, rfl => upholds_ite _ (s.setLk_upholds rfl)
  | .frameGapTimeout, s, _, rfl => upholds_ite _ (s.setLk_upholds rfl)
  | .unknownKind, _, _, h => unknownKind_upholds h
  | .ident, _, _, rfl => takeRequest_upholds (fun _ s => .refl s) ..
  | .status, _, _, rfl => takeRequest_upholds (fun _ s => .refl s) ..
  | .mode, _, _, rfl => takeRequest_upholds modeRequest_upholds ..
  | .zoneLoad, _, _, rfl => takeRequest_upholds zoneLoadRequest_upholds ..
  | .chanLoad, _, _, rfl => takeRequest_upholds chanLoadRequest_upholds ..
  | .limitsLoad, _, _, rfl => takeRequest_upholds limitsLoadRequest_upholds ..
  | .zoneOn, _, _, rfl => takeRequest_upholds zoneOnRequest_upholds ..
  | .zoneOff, _, _, rfl => takeRequest_upholds zoneOffRequest_upholds ..
  | .zoneRead, _, _, rfl => takeRequest_upholds zoneReadRequest_upholds ..
  | .linesRead, _, _, rfl => takeRequest_upholds linesReadRequest_upholds ..
  | .racksRead, _, _, rfl => takeRequest_upholds racksReadRequest_upholds ..
  | .caseRead, _, _, rfl => takeRequest_upholds caseReadRequest_upholds ..
  | .caseClear, _, _, rfl => takeRequest_upholds caseClearRequest_upholds ..
  | .caseRetry, _, _, rfl => takeRequest_upholds caseRetryRequest_upholds ..
  | .haltClear, _, _, rfl => takeRequest_upholds haltClearRequest_upholds ..
  | .trace, _, _, rfl => takeRequest_upholds traceRequest_upholds ..
  | .restart, _, _, rfl => takeRequest_upholds restartRequest_upholds ..
  | .requestInputChange line on, s, t, h => by
    simp only [exec, execRequestInputChange] at h
    split at h
    · cases h
    · cases h; exact upholds_branch _ (s.request_upholds _ on) (s.inputOnly_upholds _ on)
  | .holdChange _, s, _, rfl => s.setLk_upholds rfl
  | .transmitStart, s, _, rfl => upholds_ite _ (s.setLk_upholds s.lk.boundary_outcomes)
  | .replySent, s, _, rfl => upholds_ite _ (s.setLk_upholds rfl)
  | .eventNoticeSent, s, _, rfl =>
    have sent := s.setLk_upholds (l := { s.lk with tx := .idle, events := s.lk.events.tail }) rfl
    upholds_ite _ ((sent.then (State.fillFreed_upholds _)).then (State.commit_upholds _))
  | .outcomeNoticeSent, s, _, rfl =>
    upholds_ite _ ((s.setLk_upholdsBut _).drainRacks.then (State.commit_upholds _))
  | .traceNoticeSent, s, _, rfl => upholds_ite _ (s.setLk_upholds rfl)
  | .sampleRound input, s, t, h => by
    simp only [exec, execSampleRound] at h
    split at h
    · cases h
    · cases h; exact upholds_ite _ (s.sampleRound_upholds input)
  | .encoderPulse _ _, s, _, rfl => upholds_ite _ (s.pulse_upholds _)
  | .eraseComplete, s, _, rfl => upholds_ite _ (s.setCk_upholds _)
  | .programComplete _, s, _, rfl => upholds_ite _ (s.setCk_upholds _)
  | .verifyComplete, s, _, rfl => upholds_ite _ s.verifyComplete_upholds
  | .dwellExpiry, s, _, rfl => upholds_ite _ s.dwellExpiry_upholds
  | .leakWindowExpiry _, s, _, rfl => upholds_ite _ (s.setFd_upholds _)
  | .encoderSilenceExpiry, s, _, rfl => upholds_ite _ s.silenceExpiry_upholds
  | .localiseExpiry, s, _, rfl => upholds_ite _ s.localiseExpiry_upholds
  | .drainTimeoutExpiry, s, _, rfl => upholds_ite _ s.drainExpiry_upholds
  | .leakVerifyExpiry, s, _, rfl => upholds_ite _ s.leakVerifyExpiry_upholds
  | .leakWatchExpiry, s, _, rfl => upholds_ite _ (s.setCm_upholds rfl)
  | .purgeExpiry zone, s, _, rfl => upholds_ite _ (s.purgeExpiry_upholds zone)
  | .refillExpiry zone, s, _, rfl => upholds_ite _ (s.refillExpiry_upholds zone)
  | .powerLost, s, _, rfl => s.goDown_upholds _
  | .resetPinAsserted, s, _, rfl => s.goDown_upholds _
  | .breakEnd, s, _, rfl => upholds_ite _ (s.setLk_upholds rfl)

/-- A step upholds the laws: a millisecond, or the command at the front of the queue. -/
theorem step_upholds {s t : State} (h : step s = .next t) : t.Upholds s := by
  unfold step at h
  split at h
  · cases h
    exact s.tick_upholds
  next c rest _ =>
    have taken : State.Upholds { s with pending := rest } s := .of_same rfl rfl rfl rfl rfl rfl
    exact taken.then (exec_upholds c h)

/-- Settles O11: what a step upholds. -/
theorem drivesStayResolved : Obligations.DrivesStayResolved := by
  unfold Obligations.DrivesStayResolved
  exact fun _ _ resolved h => (step_upholds h).drives resolved

/-- Settles O12: one claim at most of an owner on a line, and that the one its state calls for. -/
theorem claimsStayStanding : Obligations.ClaimsStayStanding := by
  unfold Obligations.ClaimsStayStanding
  intro s t sound claims h
  obtain ⟨once, stands⟩ := s.claimsStand_iff.mp claims
  have upholds := step_upholds h
  exact ⟨upholds.table sound, t.claimsStand_iff.mpr
    ⟨upholds.once once, fun o => upholds.stands sound o (by simp) (stands o)⟩⟩

end Sys2Proof.Machine
end

section
/-! PROOF. The standing guards and what they keep off (R48, R51 to R55): each guard's claims on its
readings, line by line, and the drives of a tank that cannot be supervised. -/

namespace Sys2Proof.Machine

/-! ### The guards on their readings -/

/-- A held reading is judged by its value (R25). -/
theorem Reading.judged_of_held {reading : Reading} {v : Nat} (h : reading = .valid v ∨ reading = .stale v) :
    reading.judged = some v := by
  obtain rfl | rfl := h <;> rfl

theorem levelBelowSafe_of_unconfigured {slot : SlotState} (h : slot = .unconfigured) (v : Nat) :
    levelBelowSafe slot v = true := by
  rw [h]
  rfl

theorem levelBelowSafe_of_record {slot : SlotState} {rec : ZoneRecord} (h : slot.record = some rec) (v : Nat) :
    levelBelowSafe slot v = decide (v < rec.levelHeaterSafe) := by
  rw [levelBelowSafe, h]

section
variable {s : State} {z : Zone} (h : s.ClaimsStand) (id : LineId)
include h

/-- The claims of ZONE_OFF (R52). -/
theorem State.ClaimsStand.zoneOff :
    s.lg.claimOf (.zoneOff z) id
      = if (s.pmc.zones.get z).slot.isOnline = false
            ∧ id ∈ [LineId.heatA z, .heatB z, .pump z, .fill z] then some .block else none := by
  rw [h.claimOf, State.ownerWants, zoneOffClaims_on]
  simp

/-- The claims of TEMP_GUARD (R53). -/
theorem State.ClaimsStand.tempGuard :
    s.lg.claimOf (.tempGuard z) id
      = if (s.smp.channels.get z).temp.reading = .unknown ∧ id ∈ [LineId.heatA z, .heatB z] then
          some .block
        else none := by
  rw [h.claimOf, State.ownerWants, tempGuardClaims]
  by_cases unknown : (s.smp.channels.get z).temp.reading = .unknown <;> simp [unknown]

/-- The claims of LEVEL_GUARD with the level UNKNOWN (R54). -/
theorem State.ClaimsStand.levelGuard_of_unknown (unknown : (s.smp.channels.get z).level.reading = .unknown) :
    s.lg.claimOf (.levelGuard z) id
      = if id ∈ [LineId.heatA z, .heatB z, .fill z] then some .block else none := by
  rw [h.claimOf, State.ownerWants, unknown, levelGuardClaims]
  simp [Reading.judged]

/-- The claims of LEVEL_GUARD on a level (R54). -/
theorem State.ClaimsStand.levelGuard_of_level {v : Nat}
    (level : (s.smp.channels.get z).level.reading.judged = some v) :
    s.lg.claimOf (.levelGuard z) id
      = if levelBelowSafe (s.pmc.zones.get z).slot v = true ∧ id ∈ [LineId.heatA z, .heatB z] then
          some .block
        else none := by
  rw [h.claimOf, State.ownerWants, levelGuardClaims, level]
  by_cases below : levelBelowSafe (s.pmc.zones.get z).slot v = true <;> simp [below]

end

/-! ### What the guards keep off -/

section
variable {s : State} {z : Zone} (resolved : s.DrivesResolved) (claims : s.ClaimsStand)
include resolved claims

/-- A heater line is off where a guard of its zone blocks it (R48, R52 to R55). -/
theorem State.heater_off {id : LineId} (heater : id ∈ [LineId.heatA z, .heatB z])
    (unsupervised : (s.smp.channels.get z).temp.reading = .unknown
      ∨ (s.smp.channels.get z).level.reading = .unknown
      ∨ (∃ v r, ((s.smp.channels.get z).level.reading = .valid v
            ∨ (s.smp.channels.get z).level.reading = .stale v)
          ∧ (s.pmc.zones.get z).slot.record = some r ∧ v < r.levelHeaterSafe)
      ∨ (s.pmc.zones.get z).slot.isOnline = false) :
    s.lg.drive id = false := by
  have heat : id = .heatA z ∨ id = .heatB z := by simpa using heater
  obtain unknown | unknown | ⟨v, r, held, record, below⟩ | off := unsupervised
  · refine resolved.off_of_claim (o := .tempGuard z) ?_
    rw [claims.tempGuard, if_pos ⟨unknown, heater⟩]
  · refine resolved.off_of_claim (o := .levelGuard z) ?_
    rw [claims.levelGuard_of_unknown id unknown, if_pos]
    rcases heat with e | e <;> simp [e]
  · refine resolved.off_of_claim (o := .levelGuard z) ?_
    rw [claims.levelGuard_of_level id (Reading.judged_of_held held), levelBelowSafe_of_record record,
      if_pos ⟨decide_eq_true below, heater⟩]
  · have listed : id ∈ [LineId.heatA z, .heatB z, .pump z, .fill z] := by
      rcases heat with e | e <;> simp [e]
    refine resolved.off_of_claim (o := .zoneOff z) ?_
    rw [claims.zoneOff, if_pos ⟨off, listed⟩]

/-- The pump and the fill of a zone that is not ONLINE are off (R52). -/
theorem State.service_off (off : (s.pmc.zones.get z).slot.isOnline = false) :
    s.lg.drive (.pump z) = false ∧ s.lg.drive (.fill z) = false := by
  constructor
  · exact resolved.off_of_claim (o := .zoneOff z) (by rw [claims.zoneOff]; simp [off])
  · exact resolved.off_of_claim (o := .zoneOff z) (by rw [claims.zoneOff]; simp [off])

/-- The fill of a tank is off while its level is UNKNOWN (R54). -/
theorem State.fill_off (unknown : (s.smp.channels.get z).level.reading = .unknown) :
    s.lg.drive (.fill z) = false := by
  refine resolved.off_of_claim (o := .levelGuard z) ?_
  rw [claims.levelGuard_of_unknown _ unknown]
  simp

end

/-- No element is driven while both heater lines are off (R51). -/
theorem Lines.driven_of_off {ls : Lines} {z : Zone} (ha : ls.drive (.heatA z) = false)
    (hb : ls.drive (.heatB z) = false) : ls.driven z = 0 := by
  simp [Lines.driven, Lines.drivenA, Lines.drivenB, ha, hb]

/-- Settles O13: a resolved line under a standing guard is off, and each guard's claims on its reading. -/
theorem heatersSupervised : Obligations.HeatersSupervised := by
  unfold Obligations.HeatersSupervised
  intro s z resolved claims
  refine ⟨fun unsupervised => ?_, State.service_off resolved claims, State.fill_off resolved claims,
    claims.zoneOff, claims.tempGuard, fun unknown id => claims.levelGuard_of_unknown id unknown,
    fun v held => ⟨fun low id => ?_, fun r record safe id => ?_⟩⟩
  · have offA : s.lg.drive (.heatA z) = false := State.heater_off resolved claims (by simp) unsupervised
    have offB : s.lg.drive (.heatB z) = false := State.heater_off resolved claims (by simp) unsupervised
    exact ⟨offA, offB, Lines.driven_of_off offA offB⟩
  · have below : levelBelowSafe (s.pmc.zones.get z).slot v = true := by
      obtain unconfigured | ⟨r, record, low⟩ := low
      · exact levelBelowSafe_of_unconfigured unconfigured v
      · rw [levelBelowSafe_of_record record]
        exact decide_eq_true low
    rw [claims.levelGuard_of_level id (Reading.judged_of_held held)]
    simp only [below, true_and]
  · rw [claims.levelGuard_of_level id (Reading.judged_of_held held), levelBelowSafe_of_record record, if_neg]
    simp [Nat.not_lt.mpr safe]

end Sys2Proof.Machine
end

section
/-! PROOF. REQUEST_INPUT_CHANGE (R45, R48, R50, R104, R112): the line that a number names, the line a
request resolves, and what the Fault Detectors take from one drive. -/

namespace Sys2Proof.Machine

/-! ### Lines by number -/

theorem LineId.ofNumber_number (id : LineId) : LineId.ofNumber id.number = some id := by
  cases id with
  | conveyor => rfl
  | main => rfl
  | heatA z => fin_cases z <;> rfl
  | heatB z => fin_cases z <;> rfl
  | pump z => fin_cases z <;> rfl
  | fill z => fin_cases z <;> rfl
  | drain z => fin_cases z <;> rfl

theorem exec_requestInputChange (s : State) (id : LineId) (on : Bool) :
    exec (.requestInputChange id.number on) s
      = .next (if s.live then s.request id on else s.inputOnly id on) := by
  simp only [exec, execRequestInputChange, LineId.ofNumber_number]

/-! ### What the detectors take from the drives -/

section
variable {before now : Lines} {z : Zone}

/-- A drive that stays as it is does not go on. -/
theorem not_gone_on {a b : Bool} (h : b = a) : a = true ∨ b = false := by
  cases a
  · exact .inr h
  · exact .inl rfl

theorem Tank.drivesChanged_of_gone_on {id : LineId} (hid : id = .fill z ∨ id = .drain z)
    (off : before.drive id = false) (on : now.drive id = true) (t : Tank) :
    t.drivesChanged before now z = { t with level := none } := by
  rw [Tank.drivesChanged, if_pos]
  obtain rfl | rfl := hid <;> simp [off, on]

theorem Tank.drivesChanged_of_not_gone_on (fill : before.drive (.fill z) = true ∨ now.drive (.fill z) = false)
    (drain : before.drive (.drain z) = true ∨ now.drive (.drain z) = false) (t : Tank) :
    t.drivesChanged before now z = t := by
  rw [Tank.drivesChanged, if_neg]
  obtain fill | fill := fill <;> obtain drain | drain := drain <;> simp [fill, drain]

@[simp] theorem Fd.drivesChanged_tanks (l : Limits) (fd : Fd) (z : Zone) :
    (fd.drivesChanged before now l).tanks.get z = (fd.tanks.get z).drivesChanged before now z := by
  simp [Fd.drivesChanged]

end

/-! ### A request at one line -/

section
variable {s : State} {id : LineId} {on : Bool}

@[simp] theorem State.request_lg : (s.request id on).lg = s.lg.request id on := rfl

theorem State.request_fd :
    (s.request id on).fd = s.fd.drivesChanged s.lg (s.lg.request id on) s.pmc.limits := rfl

theorem Lines.request_same (ls : Lines) :
    (ls.request id on).get id = Line.resolve { ls.get id with input := on, request := on } := by
  rw [Lines.request, Lines.get_set, if_pos rfl]

theorem Lines.request_other (ls : Lines) {o : LineId} (h : o ≠ id) : (ls.request id on).get o = ls.get o := by
  rw [Lines.request, Lines.get_set, if_neg h]

theorem Lines.request_drive_other (ls : Lines) {o : LineId} (h : o ≠ id) :
    (ls.request id on).drive o = ls.drive o := by
  rw [Lines.drive, Lines.request_other ls h]
  rfl

/-- With the drive of its line as it was, a request leaves every drive, and so the detectors (R50). -/
theorem State.request_fd_of_same_drive (h : (s.request id on).lg.drive id = s.lg.drive id) :
    (s.request id on).fd = s.fd := by
  have same : ∀ o, (s.lg.request id on).drive o = s.lg.drive o := fun o => by
    by_cases e : o = id
    · rw [e]
      exact h
    · exact s.lg.request_drive_other e
  rw [State.request_fd, Fd.drivesChanged_of_quiet]
  exact ⟨fun z => by rw [same]; exact fun h => h, fun z => by rw [same]; exact fun h => h, same _⟩

/-- The tank of another line keeps its detectors (R104). -/
theorem State.request_tank_other {z : Zone} (hf : id ≠ .fill z) (hd : id ≠ .drain z) :
    (s.request id on).fd.tanks.get z = s.fd.tanks.get z := by
  rw [State.request_fd, Fd.drivesChanged_tanks, Tank.drivesChanged_of_not_gone_on]
  · exact not_gone_on (s.lg.request_drive_other hf.symm)
  · exact not_gone_on (s.lg.request_drive_other hd.symm)

/-- A FILL or DRAIN drive that does not go on keeps the detectors of its tank (R104). -/
theorem State.request_tank_of_not_gone_on {z : Zone} (hid : id = .fill z ∨ id = .drain z)
    (h : s.lg.drive id = true ∨ (s.request id on).lg.drive id = false) :
    (s.request id on).fd.tanks.get z = s.fd.tanks.get z := by
  rw [State.request_fd, Fd.drivesChanged_tanks]
  obtain rfl | rfl := hid
  · have drain := not_gone_on (s.lg.request_drive_other (on := on) (show LineId.drain z ≠ .fill z by simp))
    exact Tank.drivesChanged_of_not_gone_on h drain _
  · have fill := not_gone_on (s.lg.request_drive_other (on := on) (show LineId.fill z ≠ .drain z by simp))
    exact Tank.drivesChanged_of_not_gone_on fill h _

/-- A request at a FILL or DRAIN line and the tanks: its own by the drive, no other (R104). -/
theorem State.request_tanks {z : Zone} (hid : id = .fill z ∨ id = .drain z) :
    (s.lg.drive id = false → (s.request id on).lg.drive id = true →
        (s.request id on).fd.tanks.get z = { s.fd.tanks.get z with level := none })
      ∧ (s.lg.drive id = true ∨ (s.request id on).lg.drive id = false →
          (s.request id on).fd.tanks.get z = s.fd.tanks.get z)
      ∧ ∀ z', z' ≠ z → (s.request id on).fd.tanks.get z' = s.fd.tanks.get z' := by
  refine ⟨fun off gone => ?_, State.request_tank_of_not_gone_on hid, fun z' other => ?_⟩
  · rw [State.request_fd, Fd.drivesChanged_tanks]
    exact Tank.drivesChanged_of_gone_on hid off gone _
  · obtain rfl | rfl := hid
    · exact State.request_tank_other (by simpa using other.symm) (by simp)
    · exact State.request_tank_other (by simp) (by simpa using other.symm)

/-- The silence timer after a request (R112): it follows the CONVEYOR drive alone. -/
theorem State.request_silence :
    (s.request id on).fd.silence
      = if s.lg.drive .conveyor = (s.request id on).lg.drive .conveyor then s.fd.silence
        else if (s.request id on).lg.drive .conveyor then some (s.pmc.limits.encoderSilence * 1000)
        else none := rfl

end

/-- Settles O15: the line recorded and resolved, then the detectors by the drive; down, the pin's level; and
no line above 21. -/
theorem requestInputIsRecorded : Obligations.RequestInputIsRecorded := by
  unfold Obligations.RequestInputIsRecorded
  refine ⟨fun s id on live => ?_, fun s id on down => ?_, fun s n on high => ?_⟩
  · refine ⟨s.request id on, by rw [exec_requestInputChange, if_pos live], s.lg.request_same,
      fun o other => s.lg.request_other other, State.request_fd_of_same_drive,
      fun z => State.request_tank_other, fun z => State.request_tanks, fun other => ?_, fun own off gone => ?_,
      fun own was off => ?_, rfl, rfl, rfl, rfl, rfl, rfl, rfl, rfl, rfl, rfl⟩
    · have same : s.lg.drive .conveyor = (s.request id on).lg.drive .conveyor :=
        (s.lg.request_drive_other other.symm).symm
      rw [State.request_silence, if_pos same]
    · rw [State.request_silence, off, gone]
      rfl
    · rw [State.request_silence, was, off]
      rfl
  · refine ⟨s.inputOnly id on, by rw [exec_requestInputChange, down]; rfl, ?_, fun o other => ?_, rfl⟩
    · rw [State.inputOnly, State.setLg_lg, Lines.get_set, if_pos rfl]
    · rw [State.inputOnly, State.setLg_lg, Lines.get_set, if_neg other]
  · simp only [exec, execRequestInputChange, LineId.ofNumber_eq_none.mpr high]

end Sys2Proof.Machine
end

section
/-! PROOF. LINES_READ, RACKS_READ and CASE_READ (R59, R82, R130, R189, R194, R195): the entries that fit a
reply, and the parts of a rack entry and of a case's record by their offsets. -/

namespace Sys2Proof.Machine

/-! ### LINES_READ -/

/-- The entries that fit a room are the first of the list, and the one behind them does not fit (R59). -/
theorem fitEntries_eq_take (room : Nat) (es : List (List Byte)) :
    ∃ n, n ≤ es.length ∧ fitEntries room es = es.take n ∧ (es.take n).flatten.length ≤ room
      ∧ ∀ e, (es.drop n).head? = some e → room < (es.take n).flatten.length + e.length := by
  induction es generalizing room with
  | nil => exact ⟨0, by simp [fitEntries]⟩
  | cons e es ih =>
    by_cases fits : e.length ≤ room
    · obtain ⟨n, hn, taken, within, next⟩ := ih (room - e.length)
      refine ⟨n + 1, by simpa using hn, by simp [fitEntries, fits, taken], ?_, fun f hf => ?_⟩
      · simp only [List.take_succ_cons, List.flatten_cons, List.length_append]
        omega
      · have := next f hf
        simp only [List.take_succ_cons, List.flatten_cons, List.length_append]
        omega
    · refine ⟨0, Nat.zero_le _, by simp [fitEntries, fits], by simp, fun f hf => ?_⟩
      obtain rfl : e = f := by simpa using hf
      simpa using fits

theorem lineEntry_eq (ls : Lines) (id : LineId) :
    lineEntry ls id
      = [byte id.number, flagByte (ls.get id).request, flagByte (ls.get id).drive,
         byte (ls.get id).claims.length]
        ++ (ls.get id).claims.flatMap fun c =>
             [byte c.owner.code, byte c.owner.caseId, byte c.kind.code] := by
  rw [lineEntry, List.flatMap]
  rfl

/-- The LINES_READ reply data: whole entries from a line on, as many as fit 245 bytes (R59, R194). -/
theorem linesReadItems_eq (first : Nat) (s : State) :
    ∃ n, n ≤ 22 - first ∧
      linesReadItems first s
          = [byte first, byte n] ++ (((LineId.all.drop first).take n).map (lineEntry s.lg)).flatten
        ∧ (((LineId.all.drop first).take n).map (lineEntry s.lg)).flatten.length ≤ 245
        ∧ ∀ id, (LineId.all.drop (first + n)).head? = some id →
            245 < (((LineId.all.drop first).take n).map (lineEntry s.lg)).flatten.length
              + (lineEntry s.lg id).length := by
  obtain ⟨n, hn, taken, within, next⟩ :=
    fitEntries_eq_take lineEntryRoom ((LineId.all.drop first).map (lineEntry s.lg))
  have lines : LineId.all.length = 22 := rfl
  have places : n ≤ 22 - first := by simpa [lines] using hn
  have count : (((LineId.all.drop first).take n).map (lineEntry s.lg)).length = n := by
    simpa using hn
  rw [← List.map_take] at taken within next
  refine ⟨n, places, ?_, within, fun id hid => next _ ?_⟩
  · rw [linesReadItems, taken, count]
  · rw [← List.map_drop, List.drop_drop, List.head?_map, hid]
    rfl

/-! ### RACKS_READ -/

/-- The parts of a rack entry (R194). -/
theorem Rack.readEntry_parts (travel : Word32) (r : Rack) :
    (r.readEntry travel).length = 28
      ∧ (r.readEntry travel).take 4 = be16 r.tag ++ be16 (r.position travel)
      ∧ ((r.readEntry travel).drop 4).take 9
          = setByte r.mask :: (Four.indices.flatMap fun z => be16 (r.contact.get z))
      ∧ ((r.readEntry travel).drop 13).take 4 = be32 r.dose
      ∧ ((r.readEntry travel).drop 17).take 8
          = [r.flagsByte, byte (holdCode r.hold), byte (flushCode r.flush), byte r.links.length]
            ++ linkBytes r.links
      ∧ (r.readEntry travel).drop 25 = outcomeItems r := by
  have outcome : (outcomeItems r).length = 3 := by
    unfold outcomeItems
    split <;> rfl
  refine ⟨?_, rfl, rfl, rfl, rfl, rfl⟩
  simp [Rack.readEntry, be16, be32, linkBytes, Four.toList, outcome]

theorem Rack.flagsByte_eq (r : Rack) :
    r.flagsByte
      = byte ((if r.hold = none then 0 else 1) + (if r.dwellExpired then 2 else 0)
          + (if r.trackLost then 4 else 0) + (if r.exited then 8 else 0)
          + (if r.carried then 16 else 0) + (if r.linksMore then 32 else 0)) := by
  have flag : ∀ (n : Nat) (b : Bool), n * b.toNat = if b then n else 0 := fun n b => by cases b <;> simp
  have hold : r.hold.isSome.toNat = if r.hold = none then 0 else 1 := by cases r.hold <;> simp
  rw [Rack.flagsByte, hold, flag, flag, flag, flag, flag]

theorem byte_holdCode (h : Option HoldCause) :
    byte (holdCode h) = match h with
      | none => 0
      | some .byCase => 1
      | some .byFlush => 2 := by
  cases h with
  | none => rfl
  | some cause => cases cause <;> rfl

theorem byte_flushCode (f : Option FlushReason) :
    byte (flushCode f) = match f with
      | none => 0
      | some .standbyFlush => 1
      | some .haltFlush => 2 := by
  cases f with
  | none => rfl
  | some reason => cases reason <;> rfl

theorem outcomeItems_of_exited {r : Rack} {o : Outcome} (exited : r.exited = true) (ho : r.outcome = some o) :
    outcomeItems r = [byte o.disposition.code, o.reasons.byte, setByte o.shortZones] := by
  rw [outcomeItems, exited, ho]

theorem outcomeItems_of_inside {r : Rack} (inside : r.exited = false) : outcomeItems r = [0, 0, 0] := by
  rw [outcomeItems, inside]

/-! ### CASE_READ -/

theorem opt16_length (v : Option Nat) : (opt16 v).length = 2 := by
  cases v <;> rfl

theorem opt16_drop (v : Option Nat) {n : Nat} (h : 2 ≤ n) : (opt16 v).drop n = [] :=
  List.drop_eq_nil_of_le (by rwa [opt16_length])

theorem Proc.detail_length (p : Proc) : p.detail.length = 4 := by
  unfold Proc.detail
  split <;> rfl

/-- The parts of the CASE_READ reply data (R195). -/
theorem caseReadItems_parts (c : Case) :
    (caseReadItems c).take 6
        = [byte c.id, byte c.proc.kind.code, zoneByte c.proc.zone, c.proc.quantityByte, byte c.state.code,
           byte c.step.code]
      ∧ ((caseReadItems c).drop 6).take 2 = opt16 (c.timer.map (· / 100))
      ∧ ((caseReadItems c).drop 8).take 2 = opt16 c.counter
      ∧ ((caseReadItems c).drop 8).take 4 = opt16 c.counter ++ opt16 c.runValue
      ∧ ((caseReadItems c).drop 10).take 2 = opt16 c.runValue
      ∧ ((caseReadItems c).drop 12).take 1 = [c.proc.attemptByte]
      ∧ ((caseReadItems c).drop 13).take 3 = [byte c.recurrence, flagByte c.suspended, flagByte c.announce]
      ∧ ((caseReadItems c).drop 16).take 4 = be32 c.openedAt.toNat
      ∧ ((caseReadItems c).drop 20).take 4 = c.proc.detail
      ∧ ((caseReadItems c).drop 24).take 8 = (Four.indices.flatMap fun z => opt16 (c.reportedRefs.get z))
      ∧ (caseReadItems c).drop 32 = claimItems c.posted ++ claimItems c.held := by
  have detail_drop : c.proc.detail.drop 12 = [] := List.drop_eq_nil_of_le (by simp [Proc.detail_length])
  have refs : (c.reportedRefs.toList.map opt16).flatten
      = Four.indices.flatMap fun z => opt16 (c.reportedRefs.get z) := rfl
  have refs_length : (Four.indices.flatMap fun z => opt16 (c.reportedRefs.get z)).length = 8 := by
    simp [Four.indices, opt16_length]
  rw [caseReadItems, refs]
  simp [List.take_append, List.drop_append, be32, opt16_length, opt16_drop, Proc.detail_length, detail_drop,
    refs_length]

section
variable {c : Case}

theorem opt16_timer (ms : Nat) (h : c.timer = some ms) :
    opt16 (c.timer.map (· / 100)) = be16 (ms / 100) := by
  rw [h]
  rfl

theorem opt16_no_timer (h : c.timer = none) : opt16 (c.timer.map (· / 100)) = [0xFF, 0xFF] := by
  rw [h]
  rfl

/-- A case without a counter has no run value (R195; log entry 12). -/
theorem Case.runValue_of_no_counter (h : c.counter = none) : c.runValue = none := by
  unfold Case.runValue
  split
  next counter => simp [h] at counter
  next counter => simp [h] at counter
  · rfl

theorem opt16_runValue (n : Nat) (h : c.counter = some n) :
    opt16 c.runValue
      = match c.proc with
        | .heaterOpen _ _ _ _ sum => be16 sum
        | .heaterStuck _ _ low => be16 low
        | _ => [0xFF, 0xFF] := by
  unfold Case.runValue
  rw [h]
  cases c.proc <;> rfl

theorem Proc.attemptByte_eq (p : Proc) :
    p.attemptByte = match p with
      | .filter _ _ attempt _ => byte attempt
      | _ => 0xFF := by
  cases p <;> rfl

theorem Proc.detail_eq (p : Proc) :
    p.detail = match p with
      | .leak src leaking un _ => [if src = .pan then 1 else 2, setByte leaking, setByte un, 0]
      | .heaterOpen _ k openA openB _ =>
        [byte ((if openA then 1 else 0) + if openB then 2 else 0), byte k, 0, 0]
      | .filter _ pressure _ _ => be16 pressure ++ [0, 0]
      | .heaterStuck _ current _ => be16 current ++ [0, 0]
      | .overtemp _ temperature => be16 temperature ++ [0, 0]
      | _ => [0, 0, 0, 0] := by
  cases p with
  | leak src leaking un refs => cases src <;> rfl
  | heaterOpen z k a b sum => cases a <;> cases b <;> rfl
  | _ => rfl

theorem opt16_reportedRefs (c : Case) (z : Zone) :
    opt16 (c.reportedRefs.get z)
      = match c.proc, c.state with
        | .leak _ _ _ refs, .isolating =>
          (match refs.get z with
           | some level => be16 level
           | none => [0xFF, 0xFF])
        | _, _ => [0xFF, 0xFF] := by
  have absent : opt16 (noReferences.get z) = [0xFF, 0xFF] := by simp [noReferences, opt16]
  unfold Case.reportedRefs
  cases c.proc with
  | leak src leaking un refs =>
    cases c.state with
    | isolating => cases h : refs.get z <;> simp [h, opt16]
    | _ => exact absent
  | _ => exact absent

/-! ### The claims of a case in its record -/

/-- The claims of one kind in a set, line by line. -/
theorem ClaimSet.on_ofKind (cs : ClaimSet) (k : ClaimKind) (id : LineId) :
    (ClaimSet.ofKind cs k).on id = if (id, k) ∈ cs then some k else none := by
  split
  next mem =>
    have found : ((ClaimSet.ofKind cs k).find? fun c => c.1 = id).isSome := by
      rw [List.find?_isSome]
      exact ⟨(id, k), by simp [ClaimSet.ofKind, mem], by simp⟩
    obtain ⟨c, hc⟩ := Option.isSome_iff_exists.mp found
    have kind : c.2 = k := by simpa [ClaimSet.ofKind] using (List.mem_filter.mp (List.mem_of_find?_eq_some hc)).2
    rw [ClaimSet.on, hc, Option.map_some, kind]
  next absent =>
    rw [ClaimSet.on, Option.map_eq_none_iff, List.find?_eq_none]
    rintro ⟨l, k'⟩ mem own
    obtain ⟨mem, kind⟩ := List.mem_filter.mp mem
    simp only [decide_eq_true_eq] at own kind
    exact absent (own ▸ kind ▸ mem)

/-- A line has a held FORCE where the case, suspended, would force it (R58, R125). -/
theorem Case.held_on (c : Case) (id : LineId) :
    c.held.on id = if c.suspended = true ∧ (id, ClaimKind.force) ∈ c.wanted then some .force else none := by
  cases h : c.suspended
  · simp [Case.held, h]
  · simp [Case.held, h, ClaimSet.on_ofKind]

/-- A claim kind as a byte (R189). -/
def kindByte : ClaimKind → Byte
  | .block => 1
  | .force => 2

theorem byte_kindCode (k : ClaimKind) : byte k.code = kindByte k := by
  cases k <;> rfl

/-- The claim entries that a reply carries, in the order of the lines (R195; log entry 12). -/
def claimList (claim : LineId → Option ClaimKind) : List Byte :=
  let entries := LineId.all.filterMap fun id => (claim id).map fun k => [byte id.number, kindByte k]
  byte entries.length :: entries.flatten

theorem claimItems_eq (cs : ClaimSet) : claimItems cs = claimList cs.on := by
  simp only [claimItems, claimList, byte_kindCode]

/-- Where the claims stand, a case's posted and held claims are those on the lines and those it would force
(R57, R58, R130). -/
theorem claimItems_of_stand {s : State} (h : s.ClaimsStand) (found : findCase s.cm.table c.id = some c) :
    claimItems c.posted ++ claimItems c.held
      = claimList (fun id => s.lg.claimOf (.ofCase c.id) id)
        ++ claimList fun id =>
            if c.suspended = true ∧ (id, ClaimKind.force) ∈ c.wanted then some .force else none := by
  have posted : c.posted.on = fun id => s.lg.claimOf (.ofCase c.id) id := by
    funext id
    rw [h.claimOf, State.ownerWants_ofCase, found]
    rfl
  rw [claimItems_eq, claimItems_eq, posted, funext c.held_on]

end

/-! ### The requests -/

theorem exec_linesRead (s : State) :
    exec .linesRead s = .next (takeRequest 0x0A 1 false linesReadRequest s) := rfl

theorem exec_racksRead (s : State) :
    exec .racksRead s = .next (takeRequest 0x0B 1 false racksReadRequest s) := rfl

theorem exec_caseRead (s : State) :
    exec .caseRead s = .next (takeRequest 0x0C 1 false caseReadRequest s) := rfl

theorem byte_toNat (b : Byte) : byte b.toNat = b := by
  simp [byte]

section
variable {s : State} {r : Request} {b : Byte}

/-- A reading request changes nothing but the reply slot and the buffer (R59, R82, R130). -/
theorem read_answered {owner : List Byte → State → Answered} {kind : Nat} (ha : s.Asks r)
    (hp : r.payload = [b]) (hm : s.pmc.mode ≠ .starting) (hk : r.kind.toNat = kind) {p : List Byte}
    (ho : owner [b] s.dropRequest = (s.dropRequest, p)) :
    takeRequest kind 1 false owner s = { s with lk := s.answered r p } :=
  takeRequest_unchanged false ha hm hk (by rw [hp]; rfl) (by rw [hp, ho])

theorem linesRead_reports (ha : s.Asks r) (hp : r.payload = [b]) (hm : s.pmc.mode ≠ .starting)
    (hk : r.kind = 0x0A) :
    (21 < b.toNat → exec .linesRead s = .next { s with lk := s.answered r [0x12] })
      ∧ (b.toNat ≤ 21 →
          exec .linesRead s = .next { s with lk := s.answered r (0x00 :: linesReadItems b.toNat s) }) := by
  have kind : r.kind.toNat = 0x0A := by rw [hk]; rfl
  refine ⟨fun high => ?_, fun line => ?_⟩
  · rw [exec_linesRead, read_answered ha hp hm kind (if_pos high)]
    rfl
  · rw [exec_linesRead, read_answered ha hp hm kind (if_neg (Nat.not_lt.mpr line))]
    rfl

theorem racksRead_reports (ha : s.Asks r) (hp : r.payload = [b]) (hm : s.pmc.mode ≠ .starting)
    (hk : r.kind = 0x0B) :
    (23 < b.toNat → exec .racksRead s = .next { s with lk := s.answered r [0x12] })
      ∧ (b.toNat ≤ 23 →
          exec .racksRead s = .next { s with lk := s.answered r (0x00 :: racksReadItems b.toNat s) }) := by
  have kind : r.kind.toNat = 0x0B := by rw [hk]; rfl
  refine ⟨fun high => ?_, fun rack => ?_⟩
  · rw [exec_racksRead, read_answered ha hp hm kind (if_pos high)]
    rfl
  · rw [exec_racksRead, read_answered ha hp hm kind (if_neg (Nat.not_lt.mpr rack))]
    rfl

theorem caseRead_refused (ha : s.Asks r) (hp : r.payload = [b]) (hm : s.pmc.mode ≠ .starting)
    (hk : r.kind = 0x0C) (none : b = 0 ∨ ∀ c ∈ s.cm.table, c.id ≠ b.toNat) :
    exec .caseRead s = .next { s with lk := s.answered r [0x16] } := by
  have kind : r.kind.toNat = 0x0C := by rw [hk]; rfl
  have refused : caseReadRequest [b] s.dropRequest = (s.dropRequest, [0x16]) := by
    unfold caseReadRequest
    split
    · rfl
    next c found =>
      obtain ⟨mem, own⟩ := findCase_eq_some found
      obtain rfl | absent := none
      · rfl
      · exact absurd own (absent c mem)
  rw [exec_caseRead, read_answered ha hp hm kind refused]

theorem caseRead_reports (ha : s.Asks r) (hp : r.payload = [b]) (hm : s.pmc.mode ≠ .starting)
    (hk : r.kind = 0x0C) {c : Case} (found : findCase s.cm.table b.toNat = some c) (real : b ≠ 0) :
    exec .caseRead s = .next { s with lk := s.answered r (0x00 :: caseReadItems c) } := by
  have kind : r.kind.toNat = 0x0C := by rw [hk]; rfl
  have operand : u8 [b] 0 = b.toNat := rfl
  have nonzero : b.toNat ≠ 0 := fun h => real (BitVec.eq_of_toNat_eq h)
  have reported : caseReadRequest [b] s.dropRequest = (s.dropRequest, 0x00 :: caseReadItems c) := by
    simp only [caseReadRequest, operand, State.dropRequest_cm, found, nonzero, if_false, resOk]
  rw [exec_caseRead, read_answered ha hp hm kind reported]

end

/-- Settles O56: the refusals, the lines that fit, the racks by their parts, the case by its parts. -/
theorem listReadsReport : Obligations.ListReadsReport := by
  unfold Obligations.ListReadsReport
  intro s r b ha hp hm
  refine ⟨fun hk => ?_, fun hk => ?_, fun hk => ⟨caseRead_refused ha hp hm hk, fun c found real => ?_⟩⟩
  · obtain ⟨refused, reported⟩ := linesRead_reports ha hp hm hk
    refine ⟨refused, fun line => ?_⟩
    obtain ⟨n, hn, items, within, next⟩ := linesReadItems_eq b.toNat s
    simp only [← lineEntry_eq]
    refine ⟨n, hn, ?_, within, next⟩
    rw [reported line, items, byte_toNat]
    rfl
  · obtain ⟨refused, reported⟩ := racksRead_reports ha hp hm hk
    refine ⟨refused, fun first => ?_⟩
    refine ⟨((s.rt.queue.drop b.toNat).take 8).map (Rack.readEntry s.smp.travel), ?_, by simp,
      fun e he => ?_, fun i x hi hx => ?_⟩
    · rw [reported first, List.length_map]
      rfl
    · obtain ⟨x, -, rfl⟩ := List.mem_map.mp he
      exact (x.readEntry_parts s.smp.travel).1
    · obtain ⟨-, head, contact, dose, flags, outcome⟩ := x.readEntry_parts s.smp.travel
      refine ⟨x.readEntry s.smp.travel, by simp [hi, hx], head, contact, dose, ?_, fun inside => ?_,
        fun o exited ho => ?_⟩
      · rw [flags, Rack.flagsByte_eq, byte_holdCode, byte_flushCode]
        rfl
      · rw [outcome, outcomeItems_of_inside inside]
      · rw [outcome, outcomeItems_of_exited exited ho]
  · obtain ⟨head, timer, counter, counts, run, attempt, flags, opened, detail, refs, claims⟩ := caseReadItems_parts c
    refine ⟨caseReadItems c, caseRead_reports ha hp hm hk found real, head, fun ms h => ?_, fun h => ?_,
      fun n h => ?_, fun h => ?_, fun n h => ?_, ?_, flags, opened, ?_, ?_, fun stand => ?_⟩
    · rw [timer, opt16_timer ms h]
    · rw [timer, opt16_no_timer h]
    · rw [counter, h]
      rfl
    · rw [counts, h, Case.runValue_of_no_counter h]
      rfl
    · exact run.trans (opt16_runValue n h)
    · exact attempt.trans (congrArg (fun byte => [byte]) c.proc.attemptByte_eq)
    · exact detail.trans c.proc.detail_eq
    · exact refs.trans (congrArg (fun bytes => Four.indices.flatMap bytes) (funext (opt16_reportedRefs c)))
    · obtain ⟨-, own⟩ := findCase_eq_some found
      rw [claims, claimItems_of_stand stand (by rw [own, found])]
      rfl

end Sys2Proof.Machine
end

section
/-! PROOF. One rack record (R61 to R67, R70, R71, R77 to R79): what its outcome says, what linking, HOLD and
lost tracking make of it, which zone it is in, and what an entry event does. -/

namespace Sys2Proof.Machine

/-! ### The outcome of a rack -/

theorem zoneSetAny_iff (v : ZoneSet) : zoneSetAny v = true ↔ ∃ z : Zone, v.get z = true := by
  simp only [zoneSetAny, Bool.or_eq_true]
  constructor
  · rintro (((h | h) | h) | h)
    · exact ⟨0, h⟩
    · exact ⟨1, h⟩
    · exact ⟨2, h⟩
    · exact ⟨3, h⟩
  · rintro ⟨z, h⟩
    fin_cases z
    · exact .inl (.inl (.inl h))
    · exact .inl (.inl (.inr h))
    · exact .inl (.inr h)
    · exact .inr h

section
variable (r : Rack) (required : Four Nat) (doseRequired : Nat)

theorem Rack.shortZones_get (z : Zone) :
    (r.shortZones required).get z = true ↔ r.mask.get z = true ∧ r.contact.get z < required.get z := by
  simp [Rack.shortZones]

/-- No zone of the expected mask is short of contact (R70). -/
theorem Rack.not_short_iff :
    zoneSetAny (r.shortZones required) = false
      ↔ ∀ z : Zone, r.mask.get z = true → required.get z ≤ r.contact.get z := by
  rw [← Bool.not_eq_true, zoneSetAny_iff]
  simp only [Rack.shortZones_get, not_exists, not_and, Nat.not_lt]

/-- The disposition by the two tests of R70: HOLD before CLEAN, and REWASH where neither holds. -/
theorem Rack.judge_disposition :
    (r.judge required doseRequired).disposition
      = if r.hold.isSome ∨ r.trackLost then .hold
        else if r.dwellExpired = false ∧ r.carried = false ∧ zoneSetAny (r.shortZones required) = false
            ∧ doseRequired ≤ r.dose then .clean
        else .rewash := by
  simp [Rack.judge, and_assoc]

theorem Rack.judge_hold_iff :
    (r.judge required doseRequired).disposition = .hold ↔ r.hold.isSome = true ∨ r.trackLost = true := by
  rw [Rack.judge_disposition]
  split
  next held => simpa using held
  next free =>
    constructor
    · split <;> nofun
    · exact fun held => absurd held free

theorem Rack.judge_clean_iff :
    (r.judge required doseRequired).disposition = .clean ↔
      doseRequired ≤ r.dose ∧ (∀ z : Zone, r.mask.get z = true → required.get z ≤ r.contact.get z)
        ∧ r.hold = none ∧ r.dwellExpired = false ∧ r.trackLost = false ∧ r.carried = false := by
  rw [Rack.judge_disposition, ← Rack.not_short_iff]
  split
  next held =>
    refine ⟨nofun, fun ⟨_, _, unheld, _, tracked, _⟩ => ?_⟩
    simp [unheld, tracked] at held
  next free =>
    obtain ⟨unheld, tracked⟩ := not_or.mp free
    rw [Option.not_isSome_iff_eq_none] at unheld
    rw [Bool.not_eq_true] at tracked
    split
    next clean =>
      obtain ⟨inTime, own, contact, dose⟩ := clean
      exact ⟨fun _ => ⟨dose, contact, unheld, inTime, tracked, own⟩, fun _ => rfl⟩
    next short =>
      exact ⟨nofun, fun ⟨dose, contact, _, inTime, _, own⟩ => absurd ⟨inTime, own, contact, dose⟩ short⟩

/-- A REWASH has one of its four reasons (R70, R71). -/
theorem Rack.judge_rewash
    (h : (r.judge required doseRequired).disposition = .rewash) :
    zoneSetAny (r.shortZones required) = true ∨ r.dose < doseRequired ∨ r.dwellExpired = true
      ∨ r.carried = true := by
  rw [Rack.judge_disposition] at h
  split at h
  · cases h
  · split at h
    · cases h
    next short =>
      by_contra none
      simp only [not_or, Bool.not_eq_true, Nat.not_lt] at none
      obtain ⟨contact, dose, inTime, own⟩ := none
      exact short ⟨inTime, own, contact, dose⟩

end

/-- Settles O28: the two tests of the disposition, and the reasons one by one. -/
theorem outcomeOfARack : Obligations.OutcomeOfARack := by
  unfold Obligations.OutcomeOfARack
  intro r required doseRequired o
  have clean := r.judge_clean_iff required doseRequired
  have dose : o.reasons.doseShort = true ↔ r.dose < doseRequired := decide_eq_true_iff
  have hold : o.reasons.caseHold = true ↔ r.hold = some .byCase := decide_eq_true_iff
  refine ⟨r.judge_hold_iff required doseRequired, clean, r.shortZones_get required, zoneSetAny_iff _, dose,
    rfl, hold, rfl, rfl, decide_eq_true_iff, decide_eq_true_iff, fun h => ?_, fun h => ?_⟩
  · obtain ⟨enough, contact, unheld, -⟩ := clean.mp h
    refine ⟨(r.not_short_iff required).mpr contact, ?_, ?_⟩
    · exact Bool.eq_false_iff.mpr (mt dose.mp (Nat.not_lt.mpr enough))
    · exact Bool.eq_false_iff.mpr (mt hold.mp (by simp [unheld]))
  · rw [dose]
    exact r.judge_rewash required doseRequired h

/-! ### Links, HOLD and zones -/

theorem Rack.inZone_iff (r : Rack) (slot : SlotState) (travel : Word32) :
    r.inZone slot travel = true ↔
      r.exited = false ∧ ∃ rec, slot = .online rec ∧ rec.spanStart ≤ r.position travel
        ∧ r.position travel < rec.spanEnd := by
  cases slot with
  | online rec => simp [Rack.inZone, and_assoc]
  | unconfigured => simp [Rack.inZone]
  | offline rec => simp [Rack.inZone]

/-- Nothing is linked, held or lost any more once a record has EXITED (R77 to R79). -/
theorem Rack.reports_of_exited {r : Rack} (h : r.exited = true) (id : Nat) :
    r.link id = r ∧ r.holdFor id = r ∧ r.lose = r := by
  simp [Rack.link, Rack.holdFor, Rack.lose, h]

theorem Rack.link_of_linked {r : Rack} {id : Nat} (h : id ∈ r.links) : r.link id = r := by
  simp [Rack.link, h]

theorem Rack.holdFor_of_not_linked {r : Rack} {id : Nat} (h : id ∉ r.links) (few : r.linksMore = false) :
    r.holdFor id = r := by
  simp [Rack.holdFor, h, few]

section
variable {r : Rack} (inside : r.exited = false) {id : Nat}
include inside

theorem Rack.link_of_room (h : id ∉ r.links) (room : r.links.length < 4) :
    r.link id = { r with links := r.links ++ [id] } := by
  simp [Rack.link, inside, h, room]

theorem Rack.link_of_full (h : id ∉ r.links) (full : 4 ≤ r.links.length) :
    r.link id = { r with linksMore := true } := by
  simp [Rack.link, inside, h, Nat.not_lt.mpr full]

theorem Rack.holdFor_of_linked (h : id ∈ r.links ∨ r.linksMore = true) :
    r.holdFor id = { r with hold := some (r.hold.getD .byCase) } := by
  simp [Rack.holdFor, inside, h]

theorem Rack.lose_of_inside : r.lose = { r with trackLost := true } := by
  simp [Rack.lose, inside]

end

/-- Settles O32: a record that has EXITED stays as it is, one inside case by case. -/
theorem linksAndHolds : Obligations.LinksAndHolds := by
  unfold Obligations.LinksAndHolds
  refine ⟨Rack.inZone_iff, fun r id => ⟨fun exited => Rack.reports_of_exited exited id, fun inside => ?_⟩⟩
  refine ⟨Rack.link_of_linked, Rack.link_of_room inside, Rack.link_of_full inside, fun linked => ?_,
    Rack.holdFor_of_not_linked, Rack.lose_of_inside inside⟩
  rw [Rack.holdFor_of_linked inside linked]
  exact ⟨fun unheld => by rw [unheld]; rfl, fun h held => by rw [held, Option.getD_some, ← held]⟩

/-! ### Entry -/

theorem pitchAllows_iff (travel : Word32) (last : Option Word32) (minPitch : Nat) :
    pitchAllows travel last minPitch = true ↔
      ∀ stamp, last = some stamp → minPitch ≤ (travel - stamp).toNat := by
  cases last with
  | none => simp [pitchAllows]
  | some stamp =>
    refine decide_eq_true_iff.trans ⟨fun far _ same => ?_, fun far => far stamp rfl⟩
    rwa [← Option.some.inj same]

/-- A rack that has just been admitted stands at position 0 (R63, R65). -/
theorem Rack.fresh_position (tag : Nat) (travel : Word32) (mask : ZoneSet) :
    (Rack.fresh tag travel mask).position travel = 0 := by
  simp [Rack.fresh, Rack.position, travelled]

section
variable {s : State}

theorem State.entryEvent_outside_run (h : s.pmc.mode ≠ .run) : s.entryEvent = s := if_neg h

theorem State.entryEvent_of_run (run : s.pmc.mode = .run) :
    s.entryEvent
      = if (s.rt.entry s.smp.travel s.pmc.limits.minPitch s.onlineMask).2 then
          (s.setRt (s.rt.entry s.smp.travel s.pmc.limits.minPitch s.onlineMask).1).trigger
        else s.setRt (s.rt.entry s.smp.travel s.pmc.limits.minPitch s.onlineMask).1 := if_pos run

theorem State.entryEvent_of_bounce
    (h : pitchAllows s.smp.travel s.rt.lastStamp s.pmc.limits.minPitch = false) : s.entryEvent = s := by
  by_cases run : s.pmc.mode = .run
  · simp [State.entryEvent_of_run run, Rt.entry, h, State.setRt]
  · exact State.entryEvent_outside_run run

theorem State.entryEvent_of_room (run : s.pmc.mode = .run)
    (pitch : pitchAllows s.smp.travel s.rt.lastStamp s.pmc.limits.minPitch = true)
    (room : s.rt.queue.length < transitPlaces) :
    s.entryEvent
      = (s.setRt
          { queue := s.rt.queue ++ [Rack.fresh s.rt.nextTag s.smp.travel s.onlineMask]
            nextTag := tagAfter s.rt.nextTag, lastStamp := some s.smp.travel
            admitted := s.rt.admitted + 1 }).trigger := by
  simp [State.entryEvent_of_run run, Rt.entry, pitch, room]

theorem State.entryEvent_of_full (run : s.pmc.mode = .run)
    (pitch : pitchAllows s.smp.travel s.rt.lastStamp s.pmc.limits.minPitch = true)
    (full : transitPlaces ≤ s.rt.queue.length) :
    s.entryEvent
      = s.setRt { s.rt with queue := s.rt.queue.map Rack.lose, lastStamp := some s.smp.travel } := by
  simp [State.entryEvent_of_run run, Rt.entry, pitch, Nat.not_lt.mpr full]

end

/-- Settles O27: outside RUN, a bounce, an admission, and an entry with 24 racks inside. -/
theorem entryEventAdmits : Obligations.EntryEventAdmits := by
  unfold Obligations.EntryEventAdmits
  intro s
  refine ⟨State.entryEvent_outside_run, fun stamp last near => ?_, fun run pitch => ?_⟩
  · refine State.entryEvent_of_bounce ?_
    rw [← Bool.not_eq_true, pitchAllows_iff]
    exact fun far => absurd (far stamp last) (Nat.not_le.mpr near)
  · have allowed := (pitchAllows_iff s.smp.travel s.rt.lastStamp s.pmc.limits.minPitch).mpr pitch
    refine ⟨fun room => ?_, fun full => State.entryEvent_of_full run allowed full⟩
    rw [State.entryEvent_of_room run allowed room]
    refine ⟨⟨_, rfl, rfl, rfl, rfl, Rack.fresh_position .., rfl, fun z => ⟨?_, ?_⟩,
      rfl, rfl, rfl, rfl, rfl, rfl, rfl, rfl, rfl⟩, rfl⟩
    · simp [Rack.fresh]
    · simp [Rack.fresh, State.onlineMask]

end Sys2Proof.Machine
end

section
/-! PROOF. The transit queue and its laws (R62 to R64, R68, R91): runs of tags, the records inside, what a pass
over the records, an exit test, a drain, a flush and an admission make of them, and the snapshots of the store. -/

namespace Sys2Proof.Machine

/-! ### Runs of tags -/

theorem tagsRun_nil : TagsRun [] 1 := ⟨by simp, by simp⟩

/-- The tags that are left when the oldest are taken away. -/
theorem TagsRun.suffix {tags left : List Nat} {next : Nat} (h : TagsRun tags next) (hl : left <:+ tags) :
    TagsRun left next := by
  obtain ⟨gone, rfl⟩ := hl
  obtain ⟨chain, range⟩ := h
  rw [List.append_assoc] at chain range
  exact ⟨chain.right_of_append, fun t ht => range t (List.mem_append_right _ ht)⟩

/-- The next tag given: the one after it is next (R64). -/
theorem TagsRun.push {tags : List Nat} {next : Nat} (h : TagsRun tags next) :
    TagsRun (tags ++ [next]) (tagAfter next) := by
  obtain ⟨chain, range⟩ := h
  have last : 1 ≤ next ∧ next ≤ 65535 := range next (by simp)
  have after : tagAfter next = if next = 65535 then 1 else next + 1 := by
    unfold tagAfter
    split <;> split <;> omega
  refine ⟨List.isChain_append.mpr ⟨chain, by simp, fun a ha b hb => ?_⟩, fun t ht => ?_⟩
  · obtain rfl : next = a := by simpa using ha
    obtain rfl : tagAfter next = b := by simpa using hb
    exact after
  · obtain ht | ht := List.mem_append.mp ht
    · exact range t ht
    · obtain rfl := List.mem_singleton.mp ht
      rw [after]
      split <;> omega

/-- Each tag of a run is as many places on, modulo 65535, as it stands behind the first (R64). -/
theorem TagsRun.getElem {tags : List Nat} {next : Nat} (h : TagsRun tags next) (i : Nat)
    (hi : i < tags.length) : tags[i] = (tags[0]'(by omega) - 1 + i) % 65535 + 1 := by
  obtain ⟨chain, range⟩ := h.suffix List.suffix_rfl
  have inRange : ∀ j (hj : j < tags.length), 1 ≤ tags[j] ∧ tags[j] ≤ 65535 := fun j hj =>
    range _ (List.mem_append_left _ (List.getElem_mem hj))
  induction i with
  | zero =>
    have := inRange 0 hi
    omega
  | succ i ih =>
    have before := ih (by omega)
    have step := List.isChain_iff_getElem.mp chain.left_of_append i hi
    have now := inRange i (by omega)
    split at step <;> omega

/-- A run of up to 65535 tags gives none twice. -/
theorem TagsRun.nodup {tags : List Nat} {next : Nat} (h : TagsRun tags next) (short : tags.length ≤ 65535) :
    tags.Nodup := by
  rw [List.nodup_iff_injective_getElem]
  rintro ⟨i, hi⟩ ⟨j, hj⟩ same
  have at_i := h.getElem i hi
  have at_j := h.getElem j hj
  simp only at same
  simp only [Fin.mk.injEq]
  omega

/-! ### One record -/

/-- A record carried on: the same rack, at the same place, out or inside as it was, within its ranges. -/
structure Rack.Continues (new old : Rack) : Prop where
  tag : new.tag = old.tag
  entryStamp : new.entryStamp = old.entryStamp
  exitPosition : new.exitPosition = old.exitPosition
  exited : new.exited = old.exited
  outcome : new.outcome = old.outcome
  bounded : old.Bounded → new.Bounded

/-- A record that a report has reached (R77 to R79): carried on, with its contact and its dose. -/
structure Rack.Reported (new old : Rack) : Prop extends Rack.Continues new old where
  contact : new.contact = old.contact
  dose : new.dose = old.dose

theorem Rack.Continues.refl (r : Rack) : r.Continues r := ⟨rfl, rfl, rfl, rfl, rfl, id⟩

theorem Rack.Reported.refl (r : Rack) : r.Reported r := ⟨.refl r, rfl, rfl⟩

theorem Rack.Continues.trans {a b c : Rack} (hc : c.Continues b) (hb : b.Continues a) : c.Continues a :=
  ⟨hc.tag.trans hb.tag, hc.entryStamp.trans hb.entryStamp, hc.exitPosition.trans hb.exitPosition,
    hc.exited.trans hb.exited, hc.outcome.trans hb.outcome, fun h => hc.bounded (hb.bounded h)⟩

theorem Rack.Reported.trans {a b c : Rack} (hc : c.Reported b) (hb : b.Reported a) : c.Reported a :=
  ⟨hc.toContinues.trans hb.toContinues, hc.contact.trans hb.contact, hc.dose.trans hb.dose⟩

theorem Rack.Reported.ite {r r' : Rack} {b : Prop} [Decidable b] (h : r'.Reported r) :
    (if b then r' else r).Reported r := by
  split
  · exact h
  · exact .refl r

theorem Rack.Continues.position {new old : Rack} (h : new.Continues old) (travel : Word32) :
    new.position travel = old.position travel := by
  simp only [Rack.position, h.exitPosition, h.entryStamp]

theorem Rack.link_reported (id : Nat) (r : Rack) : (r.link id).Reported r := by
  unfold Rack.link
  split
  · exact .refl r
  · split
    next room =>
      refine ⟨⟨rfl, rfl, rfl, rfl, rfl, fun ⟨dose, contact, _⟩ => ⟨dose, contact, ?_⟩⟩, rfl, rfl⟩
      simpa using room
    · exact ⟨⟨rfl, rfl, rfl, rfl, rfl, fun h => h⟩, rfl, rfl⟩

theorem Rack.holdFor_reported (id : Nat) (r : Rack) : (r.holdFor id).Reported r := by
  unfold Rack.holdFor
  exact .ite ⟨⟨rfl, rfl, rfl, rfl, rfl, fun h => h⟩, rfl, rfl⟩

theorem Rack.lose_reported (r : Rack) : r.lose.Reported r := by
  unfold Rack.lose
  split
  · exact .refl r
  · exact ⟨⟨rfl, rfl, rfl, rfl, rfl, fun h => h⟩, rfl, rfl⟩

theorem Rack.expireDwell_reported (tags : List Nat) (r : Rack) : (r.expireDwell tags).Reported r := by
  unfold Rack.expireDwell
  exact .ite ⟨⟨rfl, rfl, rfl, rfl, rfl, fun h => h⟩, rfl, rfl⟩

/-- Contact stays within its range (R68). -/
theorem Rack.addContact_continues (z : Zone) (slot : SlotState) (travel : Word32) (r : Rack) :
    (r.addContact z slot travel).Continues r := by
  unfold Rack.addContact
  split
  · refine ⟨rfl, rfl, rfl, rfl, rfl, fun ⟨dose, contact, links⟩ => ⟨dose, fun w => ?_, links⟩⟩
    simp only [Four.get_set]
    split
    · exact Nat.min_le_right ..
    · exact contact w
  · exact .refl r

/-- The dose stays within its range (R91). -/
theorem Rack.addDose_continues (slot : SlotState) (travel : Word32) (increment : Nat) (r : Rack) :
    (r.addDose slot travel increment).Continues r := by
  unfold Rack.addDose
  split
  · exact ⟨rfl, rfl, rfl, rfl, rfl, fun ⟨_, contact, links⟩ => ⟨Nat.min_le_right .., contact, links⟩⟩
  · exact .refl r

/-! ### A pass over the records -/

/-- Record by record the transit queue stands in a relation to what it was; the next tag and the admissions
stay. -/
structure Rt.Each (R : Rack → Rack → Prop) (t s : Rt) : Prop where
  queue : ∃ f : Rack → Rack, (∀ r, R (f r) r) ∧ t.queue = s.queue.map f
  nextTag : t.nextTag = s.nextTag
  admitted : t.admitted = s.admitted

/-- The Rack Tracker after reports alone (R77 to R79). -/
abbrev Rt.Reported (t s : Rt) : Prop := Rt.Each Rack.Reported t s

/-- The Rack Tracker with every record carried on. -/
abbrev Rt.Continues (t s : Rt) : Prop := Rt.Each Rack.Continues t s

theorem Rt.Reported.refl (s : Rt) : s.Reported s := ⟨⟨id, .refl, by simp⟩, rfl, rfl⟩

theorem Rt.Reported.trans {u t s : Rt} (hu : u.Reported t) (ht : t.Reported s) : u.Reported s := by
  obtain ⟨f, hf, queue⟩ := ht.queue
  obtain ⟨g, hg, queue'⟩ := hu.queue
  exact ⟨⟨g ∘ f, fun r => (hg _).trans (hf r), by rw [queue', queue, List.map_map]⟩,
    hu.nextTag.trans ht.nextTag, hu.admitted.trans ht.admitted⟩

theorem Rt.Reported.continues {t s : Rt} (h : t.Reported s) : t.Continues s := by
  obtain ⟨f, hf, queue⟩ := h.queue
  exact ⟨⟨f, fun r => (hf r).toContinues, queue⟩, h.nextTag, h.admitted⟩

theorem Rt.linkZone_reported (slot : SlotState) (travel : Word32) (id : Nat) (rt : Rt) :
    (rt.linkZone slot travel id).Reported rt :=
  ⟨⟨_, fun r => .ite (r.link_reported id), rfl⟩, rfl, rfl⟩

theorem Rt.linkAll_reported (id : Nat) (rt : Rt) : (rt.linkAll id).Reported rt :=
  ⟨⟨_, Rack.link_reported id, rfl⟩, rfl, rfl⟩

theorem Rt.manual_reported (id : Nat) (rt : Rt) : (rt.manual id).Reported rt :=
  ⟨⟨_, Rack.holdFor_reported id, rfl⟩, rfl, rfl⟩

theorem Rt.travelLost_reported (rt : Rt) : rt.travelLost.Reported rt :=
  ⟨⟨_, Rack.lose_reported, rfl⟩, rfl, rfl⟩

/-! ### The laws of the transit queue -/

/-- At most 24 racks, in shape, each within its ranges (R62, R68, R91). -/
def Rt.Sound (rt : Rt) : Prop :=
  rt.queue.length ≤ transitPlaces ∧ rt.Shaped ∧ ∀ r ∈ rt.queue, r.Bounded

/-- The tags of the queue are a run (R64). -/
def Rt.TagsSound (rt : Rt) : Prop := TagsRun (rt.queue.map (·.tag)) rt.nextTag

/-- The records that are not EXITED. -/
def insideOf (q : List Rack) : List Rack := q.filter fun r => !r.exited

/-- Records inside: on the way, at positions below 20,000 mm that do not increase from head to tail (R63). -/
def Placed (travel : Word32) (inside : List Rack) : Prop :=
  (∀ r ∈ inside, r.exitPosition = none ∧ r.entryStamp.isSome = true ∧ r.position travel < 20000)
    ∧ inside.Pairwise fun a b => b.position travel ≤ a.position travel

theorem placed_nil (travel : Word32) : Placed travel [] := ⟨by simp, .nil⟩

theorem Placed.sublist {travel : Word32} {l inside : List Rack} (h : Placed travel inside)
    (sub : l.Sublist inside) : Placed travel l :=
  ⟨fun r hr => h.1 r (sub.subset hr), h.2.sublist sub⟩

theorem insideOf_eq_nil {q : List Rack} (h : ∀ r ∈ q, r.exited = true) : insideOf q = [] := by
  simpa [insideOf] using h

/-- EXITED records first: any record at all, where all have EXITED. -/
theorem Rt.shaped_of_exited {rt : Rt}
    (h : ∀ r ∈ rt.queue, r.exited = true ∧ r.outcome.isSome = true ∧ r.exitPosition.isSome = true) :
    rt.Shaped :=
  ⟨List.pairwise_of_forall_mem_list fun a ha _ _ _ => (h a ha).1, fun r hr _ => (h r hr).2⟩

theorem Rt.Sound.suffix {t s : Rt} (h : s.Sound) (hq : t.queue <:+ s.queue) : t.Sound := by
  obtain ⟨places, ⟨ordered, decided⟩, bounded⟩ := h
  exact ⟨hq.length_le.trans places, ⟨ordered.sublist hq.sublist, fun r hr => decided r (hq.subset hr)⟩,
    fun r hr => bounded r (hq.subset hr)⟩

theorem Rt.TagsSound.suffix {t s : Rt} (h : s.TagsSound) (hq : t.queue <:+ s.queue)
    (next : t.nextTag = s.nextTag) : t.TagsSound := by
  obtain ⟨gone, queue⟩ := hq
  rw [Rt.TagsSound, ← queue, List.map_append] at h
  rw [Rt.TagsSound, next]
  exact h.suffix (List.suffix_append ..)

section
variable {t s : Rt} (h : t.Continues s)
include h

theorem Rt.Each.length : t.queue.length = s.queue.length := by
  obtain ⟨f, -, queue⟩ := h.queue
  rw [queue, List.length_map]

theorem Rt.Each.sound (hs : s.Sound) : t.Sound := by
  obtain ⟨places, ⟨ordered, decided⟩, bounded⟩ := hs
  refine ⟨h.length ▸ places, ?_⟩
  obtain ⟨f, hf, queue⟩ := h.queue
  refine ⟨⟨?_, fun r hr => ?_⟩, fun r hr => ?_⟩
  · rw [queue, List.pairwise_map]
    simpa only [(hf _).exited] using ordered
  · obtain ⟨x, hx, rfl⟩ := List.mem_map.mp (queue ▸ hr)
    rw [(hf x).exited, (hf x).outcome, (hf x).exitPosition]
    exact decided x hx
  · obtain ⟨x, hx, rfl⟩ := List.mem_map.mp (queue ▸ hr)
    exact (hf x).bounded (bounded x hx)

theorem Rt.Each.tagsSound (hs : s.TagsSound) : t.TagsSound := by
  obtain ⟨f, hf, queue⟩ := h.queue
  have tags : t.queue.map (·.tag) = s.queue.map (·.tag) := by
    rw [queue, List.map_map]
    exact List.map_congr_left fun r _ => (hf r).tag
  rwa [Rt.TagsSound, tags, h.nextTag]

theorem Rt.Each.placed {travel : Word32} (hs : Placed travel (insideOf s.queue)) :
    Placed travel (insideOf t.queue) := by
  obtain ⟨f, hf, queue⟩ := h.queue
  have inside : insideOf t.queue = (insideOf s.queue).map f := by
    simp only [insideOf, queue, List.filter_map, Function.comp_def, (hf _).exited]
  obtain ⟨onTheWay, falling⟩ := hs
  rw [inside]
  refine ⟨fun r hr => ?_, ?_⟩
  · obtain ⟨x, hx, rfl⟩ := List.mem_map.mp hr
    rw [(hf x).exitPosition, (hf x).entryStamp, (hf x).position]
    exact onTheWay x hx
  · rw [List.pairwise_map]
    simpa only [(hf _).position] using falling

end

/-! ### The drain -/

/-- The drain takes records from the head of the queue (R73). -/
theorem drainScan_suffix (room : Nat) (q : List Rack) : (drainScan room q).1 <:+ q := by
  induction room generalizing q with
  | zero => exact List.suffix_rfl
  | succ room ih =>
    cases q with
    | nil => exact List.suffix_rfl
    | cons r rs =>
      simp only [drainScan]
      split
      · exact (ih rs).trans (List.suffix_cons r rs)
      · exact List.suffix_rfl

/-- The drain takes no record that is inside (R73). -/
theorem insideOf_drainScan (room : Nat) (q : List Rack) : insideOf (drainScan room q).1 = insideOf q := by
  induction room generalizing q with
  | zero => rfl
  | succ room ih =>
    cases q with
    | nil => rfl
    | cons r rs =>
      simp only [drainScan]
      split
      next o exited _ => simpa [insideOf, exited] using ih rs
      · rfl

/-! ### The exit test -/

section
variable (travel : Word32) (required : Four Nat) (l : Limits)

/-- The exit test takes the records inside that have reached exit_position, up to the first that has not
(R69). -/
theorem insideOf_exitScan (q : List Rack) :
    insideOf (exitScan travel required l q)
      = (insideOf q).dropWhile fun r => l.exitPosition ≤ r.position travel := by
  induction q with
  | nil => rfl
  | cons r rs ih =>
    simp only [insideOf] at ih
    simp only [exitScan, insideOf]
    split
    next exited => simpa [exited] using ih
    next inside =>
      split
      next reached => simpa [inside, reached, Rack.exit] using ih
      next short => simp [inside, short]

/-- An exit stores the exit position and the outcome, and leaves the account (R69, R70). -/
theorem exitScan_sound {t s : Rt} (h : s.Sound) (queue : t.queue = exitScan travel required l s.queue) :
    t.Sound := by
  obtain ⟨places, ⟨ordered, decided⟩, bounded⟩ := h
  obtain ⟨waiting, leaving, staying, split, wait, -, stay, -, scan⟩ :=
    exitScan_split travel required l ordered
  rw [split] at places decided bounded
  have out : ∀ r ∈ waiting ++ leaving.map (fun r => r.exit travel required l.doseRequired),
      r.exited = true ∧ r.outcome.isSome = true ∧ r.exitPosition.isSome = true ∧ r.Bounded := fun r hr => by
    obtain hr | hr := List.mem_append.mp hr
    · obtain ⟨outcome, position⟩ := decided r (by simp [hr]) (wait r hr)
      exact ⟨wait r hr, outcome, position, bounded r (by simp [hr])⟩
    · obtain ⟨x, hx, rfl⟩ := List.mem_map.mp hr
      exact ⟨rfl, rfl, rfl, bounded x (by simp [hx])⟩
  rw [scan] at queue
  refine ⟨by simpa [queue] using places, ⟨?_, fun r hr exited => ?_⟩, fun r hr => ?_⟩
  · rw [queue, List.pairwise_append]
    refine ⟨List.pairwise_of_forall_mem_list fun a ha _ _ _ => (out a ha).1,
      List.pairwise_of_forall_mem_list fun _ _ b hb exited => ?_, fun a ha _ _ _ => (out a ha).1⟩
    rw [stay b hb] at exited
    cases exited
  · obtain hr | hr := List.mem_append.mp (queue ▸ hr)
    · obtain ⟨-, outcome, position, -⟩ := out r hr
      exact ⟨outcome, position⟩
    · rw [stay r hr] at exited
      cases exited
  · obtain hr | hr := List.mem_append.mp (queue ▸ hr)
    · exact (out r hr).2.2.2
    · exact bounded r (by simp [hr])

end

/-! ### Travel -/

/-- A record on the way that is short of 20,000 mm moves on with the travel (R63). -/
theorem Rack.position_moved {r : Rack} {travel : Word32} {d : Nat} (unset : r.exitPosition = none)
    (stamped : r.entryStamp.isSome = true) (short : r.position travel < 20000) (hd : d ≤ 20) :
    r.position (travel + BitVec.ofNat 32 d) = r.position travel + d := by
  obtain ⟨stamp, hs⟩ := Option.isSome_iff_exists.mp stamped
  simp only [Rack.position, unset, hs, travelled] at short ⊢
  bv_omega

/-- After a pulse the records inside that the exit test leaves are placed again, with exit_position at most
20,000 mm and mm_per_pulse at most 20 (R4, R40, R69). -/
theorem Placed.pulse {travel : Word32} {inside : List Rack} (h : Placed travel inside) {d limit : Nat}
    (hd : d ≤ 20) (hl : limit ≤ 20000) :
    Placed (travel + BitVec.ofNat 32 d)
      (inside.dropWhile fun r => limit ≤ r.position (travel + BitVec.ofNat 32 d)) := by
  obtain ⟨onTheWay, falling⟩ := h
  have moved : ∀ r ∈ inside, r.position (travel + BitVec.ofNat 32 d) = r.position travel + d := fun r hr => by
    obtain ⟨unset, stamped, short⟩ := onTheWay r hr
    exact Rack.position_moved unset stamped short hd
  have sub := List.dropWhile_sublist (l := inside)
    fun r => decide (limit ≤ r.position (travel + BitVec.ofNat 32 d))
  have falling' : (inside.dropWhile fun r => limit ≤ r.position (travel + BitVec.ofNat 32 d)).Pairwise
      fun a b => b.position (travel + BitVec.ofNat 32 d) ≤ a.position (travel + BitVec.ofNat 32 d) :=
    (falling.imp_of_mem fun {a b} ha hb le => by rw [moved a ha, moved b hb]; omega).sublist sub
  refine ⟨fun r hr => ?_, falling'⟩
  obtain ⟨unset, stamped, -⟩ := onTheWay r (sub.subset hr)
  refine ⟨unset, stamped, ?_⟩
  cases e : inside.dropWhile fun r => limit ≤ r.position (travel + BitVec.ofNat 32 d) with
  | nil => simp [e] at hr
  | cons x xs =>
    have first : x.position (travel + BitVec.ofNat 32 d) < limit := by
      have stops := List.head?_dropWhile_not
        (fun r : Rack => decide (limit ≤ r.position (travel + BitVec.ofNat 32 d))) inside
      simpa [e] using stops
    rw [e] at hr falling'
    obtain rfl | later := List.mem_cons.mp hr
    · omega
    · have := (List.pairwise_cons.mp falling').1 r later
      omega

/-! ### Admission and flush -/

/-- An admitted rack joins at the tail, at position 0 (R62, R63, R65). -/
theorem Placed.push {travel : Word32} {inside : List Rack} (h : Placed travel inside) (tag : Nat)
    (mask : ZoneSet) : Placed travel (inside ++ [Rack.fresh tag travel mask]) := by
  obtain ⟨onTheWay, falling⟩ := h
  have start := Rack.fresh_position tag travel mask
  refine ⟨fun r hr => ?_, List.pairwise_append.mpr ⟨falling, List.pairwise_singleton .., fun a _ b hb => ?_⟩⟩
  · obtain hr | hr := List.mem_append.mp hr
    · exact onTheWay r hr
    · obtain rfl := List.mem_singleton.mp hr
      exact ⟨rfl, rfl, by omega⟩
  · obtain rfl := List.mem_singleton.mp hb
    omega

theorem Rt.Sound.push {t s : Rt} (h : s.Sound) (room : s.queue.length < transitPlaces) {tag : Nat}
    {travel : Word32} {mask : ZoneSet} (queue : t.queue = s.queue ++ [Rack.fresh tag travel mask]) :
    t.Sound := by
  obtain ⟨-, ⟨ordered, decided⟩, bounded⟩ := h
  refine ⟨by simpa [queue] using room, ⟨?_, fun r hr exited => ?_⟩, fun r hr => ?_⟩
  · rw [queue, List.pairwise_append]
    refine ⟨ordered, List.pairwise_singleton .., fun a _ b hb exited => ?_⟩
    rw [List.mem_singleton.mp hb] at exited
    cases exited
  · obtain hr | hr := List.mem_append.mp (queue ▸ hr)
    · exact decided r hr exited
    · rw [List.mem_singleton.mp hr] at exited
      cases exited
  · obtain hr | hr := List.mem_append.mp (queue ▸ hr)
    · exact bounded r hr
    · obtain rfl := List.mem_singleton.mp hr
      exact ⟨Nat.zero_le _, fun z => by simp [Rack.fresh], Nat.zero_le _⟩

/-- A flush closes the accounts as they are (R75). -/
theorem flushed_sound {t s : Rt} (h : s.Sound) {reason : FlushReason} {travel : Word32}
    {required : Four Nat} {dose : Nat}
    (queue : t.queue = s.queue.map (Rack.flushed reason travel required dose)) : t.Sound := by
  obtain ⟨places, ⟨-, decided⟩, bounded⟩ := h
  have closed : ∀ x ∈ s.queue, (x.flushed reason travel required dose).outcome.isSome = true
      ∧ (x.flushed reason travel required dose).exitPosition.isSome = true
      ∧ (x.flushed reason travel required dose).Bounded := fun x hx => by
    unfold Rack.flushed
    split
    next exited =>
      obtain ⟨outcome, position⟩ := decided x hx exited
      exact ⟨outcome, position, bounded x hx⟩
    · exact ⟨rfl, rfl, bounded x hx⟩
  refine ⟨by simpa [queue] using places, Rt.shaped_of_exited fun r hr => ?_, fun r hr => ?_⟩
  · obtain ⟨x, hx, rfl⟩ := List.mem_map.mp (queue ▸ hr)
    obtain ⟨outcome, position, -⟩ := closed x hx
    exact ⟨Rack.flushed_exited .., outcome, position⟩
  · obtain ⟨x, hx, rfl⟩ := List.mem_map.mp (queue ▸ hr)
    exact (closed x hx).2.2

/-! ### The snapshots of the store -/

/-- A law holds of every snapshot that the store has in a slot or in flight. -/
def Ck.Holds (P : Snapshot → Prop) (ck : Ck) : Prop :=
  (∀ i sn check, ck.slots.get i = .record sn check → P sn)
    ∧ ∀ stage sn target, ck.write = .busy stage sn target → P sn

theorem Ck.bounded_iff (ck : Ck) : ck.Bounded ↔ ck.Holds Snapshot.Bounded := by
  refine and_congr ⟨fun h i sn check e => ?_, fun h i => ?_⟩ ?_
  · simpa only [SlotContents.Bounded, e] using h i
  · cases e : ck.slots.get i with
    | record sn check => exact h i sn check e
    | blank => trivial
    | torn => trivial
  · cases ck.write <;> simp

section
variable {P : Snapshot → Prop} {ck now : Ck}

theorem Ck.Holds.of_same (h : ck.Holds P) (slots : now.slots = ck.slots) (write : now.write = ck.write) :
    now.Holds P := by
  rwa [Ck.Holds, slots, write]

/-- One slot written, and a write that holds what the law allows. -/
theorem Ck.Holds.set_slot (h : ck.Holds P) {target : Fin 4} {contents : SlotContents}
    (slots : now.slots = ck.slots.set target contents)
    (lawful : ∀ sn check, contents = .record sn check → P sn)
    (write : ∀ stage sn target, now.write = .busy stage sn target → P sn) : now.Holds P := by
  refine ⟨fun i sn check e => ?_, write⟩
  rw [slots, Four.get_set] at e
  split at e
  · exact lawful sn check e
  · exact h.1 i sn check e

theorem Ck.Holds.startErase (h : ck.Holds P) {snap : Snapshot} (hs : P snap) (target : Fin 4) :
    (ck.startErase snap target).Holds P :=
  h.set_slot rfl nofun fun _ _ _ e => by cases e; exact hs

theorem Ck.Holds.cut (h : ck.Holds P) : ck.cut.Holds P := by
  unfold Ck.cut
  split
  · exact h.of_same rfl rfl
  · exact ⟨h.1, nofun⟩
  · exact h.set_slot rfl nofun nofun

theorem Ck.Holds.eraseComplete (h : ck.Holds P) : ck.eraseComplete.Holds P := by
  unfold Ck.eraseComplete
  split
  next writing => exact h.set_slot rfl nofun fun _ _ _ e => by cases e; exact h.2 _ _ _ writing
  · exact h

theorem Ck.Holds.programComplete (h : ck.Holds P) (damage : BitVec 16) :
    (ck.programComplete damage).Holds P := by
  unfold Ck.programComplete
  split
  next writing =>
    have lawful := h.2 _ _ _ writing
    exact h.set_slot rfl (fun _ _ e => by cases e; exact lawful) fun _ _ _ e => by cases e; exact lawful
  · exact h

/-- The restore scan chooses among the records of the slots (R168). -/
theorem Ck.Holds.of_choice (h : ck.Holds P) {b : Fin 4 × Snapshot} (chosen : restoreChoice ck.slots = some b) :
    P b.2 := by
  have valid : ∀ i sn, (ck.slots.get i).valid = some sn → P sn := fun i sn e =>
    h.1 i sn _ (SlotContents.valid_eq_some.mp e).1
  suffices ∀ b, restoreChoice ck.slots = some b → P b.2 from this b chosen
  unfold restoreChoice
  refine List.foldlRecOn (motive := fun best => ∀ b : Fin 4 × Snapshot, best = some b → P b.2) _ _
    (fun _ e => by cases e) fun best lawful i _ b e => ?_
  split at e
  · exact lawful b e
  next sn found =>
    cases e
    exact valid i sn found
  next sn best found =>
    split at e
    · cases e
      exact valid i sn found
    · exact lawful b e

end

end Sys2Proof.Machine
end

section
/-! PROOF. What an operation carries on of the laws of the racks (R62 to R64, R68, R80, R91), of the frame in
transmission (R181) and of the end of STARTING (R170): the laws part by part, and the operations of the Rack
Tracker, the link and the store. -/

namespace Sys2Proof.Machine

/-! ### The laws part by part -/

theorem State.racksSound_iff (s : State) :
    s.RacksSound ↔ s.rt.Sound ∧ s.ck.Holds Snapshot.Bounded := by
  rw [State.RacksSound, Rt.Sound, Ck.bounded_iff, and_assoc, and_assoc]

/-- The tags of the transit queue are a run, and so those of every snapshot (R64, R76). -/
def State.RacksTagged (s : State) : Prop := s.rt.TagsSound ∧ s.ck.Holds Snapshot.TagsSound

/-- The records inside are placed at the present travel (R63). -/
def State.RacksPlaced (s : State) : Prop := Placed s.smp.travel (insideOf s.rt.queue)

/-- exit_position and mm_per_pulse within their upper limits (R4). -/
def Limits.TravelSound (l : Limits) : Prop := l.exitPosition ≤ 20000 ∧ l.mmPerPulse ≤ 20

theorem State.racksPlaced_iff (s : State) :
    s.RacksPlaced ↔
      (∀ r ∈ s.rt.queue, r.exited = false →
        r.exitPosition = none ∧ r.entryStamp.isSome = true ∧ r.position s.smp.travel < 20000)
      ∧ s.rt.queue.Pairwise fun a b => a.exited = false → b.exited = false →
          b.position s.smp.travel ≤ a.position s.smp.travel := by
  simp only [State.RacksPlaced, Placed, insideOf, List.mem_filter, List.pairwise_filter, and_imp,
    Bool.not_eq_true']

theorem State.racksOrdered_iff (s : State) :
    s.RacksOrdered ↔ s.RacksTagged ∧ s.RacksPlaced ∧ s.pmc.limits.TravelSound := by
  rw [State.RacksOrdered, State.racksPlaced_iff]
  constructor
  · rintro ⟨tags, onTheWay, falling, exit, step, slots, write⟩
    refine ⟨⟨tags, slots, fun stage sn target writing => ?_⟩, ⟨onTheWay, falling⟩, exit, step⟩
    rwa [writing] at write
  · rintro ⟨⟨tags, slots, write⟩, ⟨onTheWay, falling⟩, exit, step⟩
    refine ⟨tags, onTheWay, falling, exit, step, slots, ?_⟩
    cases writing : s.ck.write with
    | idle => trivial
    | busy stage sn target => exact write stage sn target writing

/-- The count of R80 passes where racks have only gone over from one queue to the other. -/
theorem State.RacksCounted.of_total {t s : State} (h : s.RacksCounted)
    (total : t.rt.queue.length + t.lk.outcomes.length = s.rt.queue.length + s.lk.outcomes.length)
    (sent : t.lk.outcomesSent = s.lk.outcomesSent) (admitted : t.rt.admitted = s.rt.admitted) :
    t.RacksCounted := by
  rwa [State.RacksCounted, total, sent, admitted]

/-! ### The frame in transmission -/

theorem Lk.sendsHeld_of_idle {l : Lk} (h : l.tx = .idle) : l.SendsHeld := by
  simp [Lk.SendsHeld, Lk.isSending, h]

/-- A frame stays held while nothing is taken from the queues and the reply slot (R181). -/
theorem Lk.SendsHeld.grow {l k : Lk} (h : k.SendsHeld) (tx : l.tx = k.tx)
    (reply : k.reply.isSome = true → l.reply.isSome = true) (events : k.events ≠ [] → l.events ≠ [])
    (outcomes : k.outcomes ≠ [] → l.outcomes ≠ []) (traces : k.traces ≠ [] → l.traces ≠ []) :
    l.SendsHeld := by
  have sending : ∀ source, l.isSending source = k.isSending source := fun source => by
    simp only [Lk.isSending, tx]
  obtain ⟨r, e, o, t⟩ := h
  simp only [Lk.SendsHeld, sending]
  exact ⟨reply ∘ r, events ∘ e, outcomes ∘ o, traces ∘ t⟩

theorem Lk.OnlyEvents.sendsHeld {l k : Lk} (h : l.OnlyEvents k) (hk : k.SendsHeld) : l.SendsHeld := by
  obtain ⟨more, flag, rfl⟩ := h
  exact hk.grow rfl id (fun some => by simp [some]) id id

theorem Lk.OnlyEvents.outcomesSent {l k : Lk} (h : l.OnlyEvents k) : l.outcomesSent = k.outcomesSent := by
  obtain ⟨more, flag, rfl⟩ := h
  rfl

/-- The arbiter starts only what a queue or the reply slot holds (R181). -/
theorem Lk.SendsHeld.boundary {l : Lk} (h : l.SendsHeld) : l.boundary.SendsHeld := by
  unfold Lk.boundary
  split
  next chosen _ _ choice =>
    unfold Lk.choose at choice
    split at choice
    next reply => cases choice; simp [Lk.SendsHeld, Lk.isSending, Lk.start, reply]
    next events => cases choice; simp [Lk.SendsHeld, Lk.isSending, Lk.start, events]
    next outcomes => cases choice; simp [Lk.SendsHeld, Lk.isSending, Lk.start, outcomes]
    next traces => cases choice; simp [Lk.SendsHeld, Lk.isSending, Lk.start, traces]
    · cases choice
  · exact h

/-! ### What an operation carries on -/

/-- The snapshots of the store after an operation are those before it or snapshots of the state before it
(R163). -/
def State.Stores (t s : State) : Prop :=
  ∀ P : Snapshot → Prop, s.ck.Holds P → (∀ generation, P (s.snapshot generation)) → t.ck.Holds P

theorem State.Stores.of_same {t s : State} (slots : t.ck.slots = s.ck.slots) (write : t.ck.write = s.ck.write) :
    t.Stores s := fun _ h _ => h.of_same slots write

/-- The laws of the racks pass from `s` to `t`, and so does the law of the frame in transmission; and `t` is
not in STARTING unless `s` is. -/
structure State.Carries (t s : State) : Prop where
  sound : s.RacksSound → t.RacksSound
  tagged : s.RacksTagged → t.RacksTagged
  placed : s.RacksPlaced → t.RacksPlaced
  counted : s.RacksCounted → t.RacksCounted
  held : s.lk.SendsHeld → t.lk.SendsHeld
  started : s.pmc.mode ≠ .starting → t.pmc.mode ≠ .starting

theorem State.Carries.refl (s : State) : s.Carries s := ⟨id, id, id, id, id, id⟩

theorem State.Carries.trans {u t s : State} (hu : u.Carries t) (ht : t.Carries s) : u.Carries s :=
  ⟨hu.sound ∘ ht.sound, hu.tagged ∘ ht.tagged, hu.placed ∘ ht.placed, hu.counted ∘ ht.counted,
    hu.held ∘ ht.held, hu.started ∘ ht.started⟩

/-- An operation behind a test. -/
theorem State.Carries.ite {u t s : State} {b : Prop} [Decidable b] (ht : t.Carries s) (hu : u.Carries t) :
    (if b then u else t).Carries s := by
  split
  · exact hu.trans ht
  · exact ht

theorem Snapshot.bounded_of_sound {s : State} (h : s.rt.Sound) (generation : Nat) :
    (s.snapshot generation).Bounded := by
  obtain ⟨places, -, bounded⟩ := h
  refine ⟨by simpa [State.snapshot] using places, fun e he => ?_⟩
  obtain ⟨r, hr, rfl⟩ := List.mem_map.mp he
  obtain ⟨dose, contact, -⟩ := bounded r hr
  exact ⟨dose, contact⟩

theorem Snapshot.tagsSound_of_tagsSound {s : State} (h : s.rt.TagsSound) (generation : Nat) :
    (s.snapshot generation).TagsSound := by
  simpa [Rt.TagsSound, Snapshot.TagsSound, State.snapshot, Rack.entry, Function.comp_def] using h

/-- The laws from those of the transit queue and of the store. -/
theorem State.Carries.of_parts {t s : State} (sound : s.rt.Sound → t.rt.Sound)
    (tagged : s.rt.TagsSound → t.rt.TagsSound) (placed : s.RacksPlaced → t.RacksPlaced)
    (counted : s.RacksCounted → t.RacksCounted) (store : t.Stores s) (held : s.lk.SendsHeld → t.lk.SendsHeld)
    (started : s.pmc.mode ≠ .starting → t.pmc.mode ≠ .starting) : t.Carries s where
  sound h := by
    rw [State.racksSound_iff] at h ⊢
    exact ⟨sound h.1, store _ h.2 (Snapshot.bounded_of_sound h.1)⟩
  tagged h := ⟨tagged h.1, store _ h.2 (Snapshot.tagsSound_of_tagsSound h.1)⟩
  placed := placed
  counted := counted
  held := held
  started := started

/-- Every record has been carried on where it was. -/
theorem State.Carries.of_continues {t s : State} (rt : t.rt.Continues s.rt) (travel : t.smp.travel = s.smp.travel)
    (outcomes : t.lk.outcomes = s.lk.outcomes) (sent : t.lk.outcomesSent = s.lk.outcomesSent)
    (store : t.Stores s) (held : s.lk.SendsHeld → t.lk.SendsHeld)
    (started : s.pmc.mode ≠ .starting → t.pmc.mode ≠ .starting) : t.Carries s :=
  .of_parts rt.sound rt.tagsSound
    (fun h => by rw [State.RacksPlaced, travel]; exact rt.placed h)
    (fun h => h.of_total (by rw [rt.length, outcomes]) sent rt.admitted) store held started

/-- Nothing has changed that the laws depend on. -/
theorem State.Carries.of_same {t s : State} (rt : t.rt = s.rt) (travel : t.smp.travel = s.smp.travel)
    (ck : t.ck = s.ck) (lk : t.lk = s.lk) (mode : t.pmc.mode = s.pmc.mode) : t.Carries s :=
  .of_continues (rt ▸ (Rt.Reported.refl t.rt).continues) travel (by rw [lk]) (by rw [lk])
    (.of_same (by rw [ck]) (by rw [ck])) (by rw [lk]; exact id) (by rw [mode]; exact id)

/-- The transit queue has been gone through, and no other block has changed. -/
theorem State.setRt_carries (s : State) {rt : Rt} (h : rt.Continues s.rt) : (s.setRt rt).Carries s :=
  .of_continues h rfl rfl rfl (.of_same rfl rfl) id id

/-- The link has changed beside the outcomes (R174 to R187). -/
theorem State.setLk_carries (s : State) {l : Lk} (outcomes : l.outcomes = s.lk.outcomes)
    (sent : l.outcomesSent = s.lk.outcomesSent) (held : s.lk.SendsHeld → l.SendsHeld) : (s.setLk l).Carries s :=
  .of_continues (Rt.Reported.refl s.rt).continues rfl outcomes sent (.of_same rfl rfl) held id

/-- The store has changed alone. -/
theorem State.setCk_carries (s : State) {ck : Ck} (h : (s.setCk ck).Stores s) : (s.setCk ck).Carries s :=
  .of_continues (Rt.Reported.refl s.rt).continues rfl rfl rfl h id id

/-! ### The store -/

theorem State.startWrite_stores (s : State) : s.startWrite.Stores s := by
  intro P h snap
  unfold State.startWrite
  split
  · exact h
  · exact (h.of_same rfl rfl).startErase (snap _) _

theorem State.startWrite_carries (s : State) : s.startWrite.Carries s :=
  .of_continues (by simpa using (Rt.Reported.refl s.rt).continues) (by simp) (by simp) (by simp)
    s.startWrite_stores (by simp) (by simp)

theorem State.commit_stores (s : State) : s.commit.Stores s := by
  intro P h snap
  unfold State.commit
  split
  · simp only
    split
    · exact State.startWrite_stores (s.setCk { s.ck with trigger := false }) P (h.of_same rfl rfl) snap
    · exact h.of_same rfl rfl
    · exact h.of_same rfl rfl
  · exact h

theorem State.commit_carries (s : State) : s.commit.Carries s :=
  .of_continues (by simpa using (Rt.Reported.refl s.rt).continues) (by simp) (by simp) (by simp)
    s.commit_stores (by simp) (by simp)

theorem State.trigger_carries (s : State) : s.trigger.Carries s := s.setCk_carries (.of_same rfl rfl)

theorem State.startWrite_trigger (s : State) : s.startWrite.ck.trigger = s.ck.trigger := by
  unfold State.startWrite
  split
  · rfl
  · rfl

/-- At the end of an event its trigger is taken (R162). -/
theorem State.commit_trigger (s : State) : s.commit.ck.trigger = false := by
  unfold State.commit
  split
  · simp only
    split
    · rw [State.startWrite_trigger]; rfl
    · rfl
    · rfl
  next none => simpa using none

theorem State.commit_of_untriggered {s : State} (h : s.ck.trigger = false) : s.commit = s := by
  simp [State.commit, h]

/-! ### Whole events -/

/-- An event that carries the laws on and leaves no trigger of its own (R162). -/
structure State.Completes (t s : State) : Prop extends State.Carries t s where
  settled : s.ck.trigger = false → t.ck.trigger = false

theorem State.Completes.refl (s : State) : s.Completes s := ⟨.refl s, id⟩

theorem State.Completes.trans {u t s : State} (hu : u.Completes t) (ht : t.Completes s) : u.Completes s :=
  ⟨hu.toCarries.trans ht.toCarries, hu.settled ∘ ht.settled⟩

theorem State.Completes.ite {u t s : State} {b : Prop} [Decidable b] (ht : t.Completes s)
    (hu : u.Completes t) : (if b then u else t).Completes s := by
  split
  · exact hu.trans ht
  · exact ht

theorem State.Completes.foldl {α : Type} {f : State → α → State} (hf : ∀ s a, (f s a).Completes s) (s : State)
    (as : List α) : (as.foldl f s).Completes s := by
  induction as generalizing s with
  | nil => exact .refl s
  | cons a as ih => exact (ih (f s a)).trans (hf s a)

theorem State.Carries.commit {t s : State} (h : t.Carries s) : t.commit.Completes s :=
  ⟨t.commit_carries.trans h, fun _ => t.commit_trigger⟩

theorem State.Completes.of_carries {t s : State} (h : t.Carries s) (ck : t.ck.trigger = s.ck.trigger) :
    t.Completes s :=
  ⟨h, fun none => ck.trans none⟩

/-! ### Announcements of the system -/

theorem State.announceMode_carries (s : State) : s.announceMode.Carries s := by
  unfold State.announceMode
  split
  · exact s.setLk_carries rfl rfl fun h => h.grow rfl id (by simp [Lk.pushEvent]) id id
  · exact s.setLk_carries rfl rfl fun h => h.grow rfl id id id id

theorem State.announceRestore_carries (s : State) : s.announceRestore.Carries s := by
  unfold State.announceRestore
  split
  · exact s.setLk_carries rfl rfl fun h => h.grow rfl id (by simp [Lk.pushEvent]) id id
  · exact s.setLk_carries rfl rfl fun h => h.grow rfl id id id id

theorem State.announceCheckpoint_carries (s : State) : s.announceCheckpoint.Carries s := by
  unfold State.announceCheckpoint
  split
  · exact s.setLk_carries rfl rfl fun h => h.grow rfl id (by simp [Lk.pushEvent]) id id
  · exact s.setLk_carries rfl rfl fun h => h.grow rfl id id id id

/-! ### The Rack Tracker -/

theorem State.drainRacks_carries (s : State) : s.drainRacks.Carries s := by
  have left := drainScan_suffix (queuePlaces - s.lk.outcomes.length) s.rt.queue
  have moved := drainScan_length (queuePlaces - s.lk.outcomes.length) s.rt.queue
  obtain ⟨b, ck⟩ := s.drainRacks_ck
  refine .of_parts (fun h => ?_) (fun h => ?_) (fun h => ?_) (fun h => ?_) (.of_same (by rw [ck]) (by rw [ck]))
    (fun h => ?_) (by simp)
  · exact h.suffix (by rw [State.drainRacks_rt]; exact left)
  · exact h.suffix (by rw [State.drainRacks_rt]; exact left) (by rw [State.drainRacks_rt])
  · simp only [State.RacksPlaced, State.drainRacks_rt, State.drainRacks_smp, State.drained, insideOf_drainScan]
    exact h
  · refine h.of_total ?_ (by rw [State.drainRacks_lk]) (by rw [State.drainRacks_rt])
    simp only [State.drainRacks_rt, State.drainRacks_lk, List.length_append, State.drained]
    omega
  · rw [State.drainRacks_lk]
    exact h.grow rfl id id (fun some => by simp [some]) id

theorem State.testExits_carries (s : State) : s.testExits.Carries s := by
  refine (State.drainRacks_carries _).trans (.of_parts (fun h => ?_) (fun h => ?_) (fun h => ?_) (fun h => ?_)
    (.of_same rfl rfl) id id)
  · exact exitScan_sound _ _ _ h rfl
  · have tags := exitScan_tags s.smp.travel s.contactRequired s.pmc.limits s.rt.queue
    simp only [tagsOf] at tags
    simpa only [Rt.TagsSound, State.setRt_rt, tags] using h
  · simp only [State.RacksPlaced, State.setRt_rt, State.setRt_smp, insideOf_exitScan]
    exact h.sublist (List.dropWhile_sublist _)
  · refine h.of_total ?_ rfl rfl
    have tags := congrArg List.length (exitScan_tags s.smp.travel s.contactRequired s.pmc.limits s.rt.queue)
    simp only [tagsOf, List.length_map] at tags
    rw [State.setRt_rt, State.setRt_lk, tags]

theorem State.flush_carries (s : State) (reason : FlushReason) : (s.flush reason).Carries s := by
  refine (State.drainRacks_carries _).trans (.of_parts (fun h => ?_) (fun h => ?_) (fun h => ?_) (fun h => ?_)
    (.of_same rfl rfl) id id)
  · exact flushed_sound h rfl
  · simpa [Rt.TagsSound, Function.comp_def] using h
  · rw [State.RacksPlaced, insideOf_eq_nil]
    · exact placed_nil _
    · intro r hr
      obtain ⟨x, -, rfl⟩ := List.mem_map.mp hr
      exact Rack.flushed_exited ..
  · exact h.of_total (by simp) rfl rfl

/-- An admission counts one rack, and one more is in the transit queue (R65, R80). -/
theorem State.admitted_carries (s : State) (room : s.rt.queue.length < transitPlaces) :
    (s.setRt
      { queue := s.rt.queue ++ [Rack.fresh s.rt.nextTag s.smp.travel s.onlineMask]
        nextTag := tagAfter s.rt.nextTag, lastStamp := some s.smp.travel
        admitted := s.rt.admitted + 1 }).Carries s := by
  refine .of_parts (fun h => h.push room rfl) (fun h => ?_) (fun h => ?_) (fun h => ?_) (.of_same rfl rfl) id id
  · simpa [Rt.TagsSound, Rack.fresh] using h.push
  · have inside : insideOf (s.rt.queue ++ [Rack.fresh s.rt.nextTag s.smp.travel s.onlineMask])
        = insideOf s.rt.queue ++ [Rack.fresh s.rt.nextTag s.smp.travel s.onlineMask] := by
      simp [insideOf, Rack.fresh]
    rw [State.RacksPlaced, State.setRt_rt, State.setRt_smp, inside]
    exact Placed.push h _ _
  · rw [State.RacksCounted] at h ⊢
    simp only [State.setRt_rt, State.setRt_lk, h, List.length_append, List.length_singleton]
    have one : (1 : Word32) = BitVec.ofNat 32 1 := rfl
    rw [Nat.add_right_comm, BitVec.ofNat_add _ 1, one]
    ac_rfl

theorem State.entryEvent_carries (s : State) : s.entryEvent.Carries s := by
  by_cases run : s.pmc.mode = .run
  · cases pitch : pitchAllows s.smp.travel s.rt.lastStamp s.pmc.limits.minPitch with
    | false => rw [State.entryEvent_of_bounce pitch]; exact .refl s
    | true =>
      obtain room | full := Nat.lt_or_ge s.rt.queue.length transitPlaces
      · rw [State.entryEvent_of_room run pitch room]
        exact (State.trigger_carries _).trans (s.admitted_carries room)
      · rw [State.entryEvent_of_full run pitch full]
        exact s.setRt_carries ⟨⟨_, fun r => r.lose_reported.toContinues, rfl⟩, rfl, rfl⟩
  · rw [State.entryEvent_outside_run run]
    exact .refl s

end Sys2Proof.Machine
end

section
/-! PROOF. The work of the Case Manager and the consumers of a zone sample (R68, R77 to R79, R85 to R91, R127):
what they make of the rack records, and that they carry the laws of the racks on. -/

namespace Sys2Proof.Machine

/-! ### The reports of the Case Manager -/

/-- What the Case Manager's work does to the racks: its reports reach the records, and the laws are carried
on. -/
structure State.Attends (t s : State) : Prop where
  rt : t.rt.Reported s.rt
  carries : t.Carries s

theorem State.Attends.refl (s : State) : s.Attends s := ⟨.refl s.rt, .refl s⟩

theorem State.Attends.trans {u t s : State} (hu : u.Attends t) (ht : t.Attends s) : u.Attends s :=
  ⟨hu.rt.trans ht.rt, hu.carries.trans ht.carries⟩

theorem State.Attends.ite {u t s : State} {b : Prop} [Decidable b] (ht : t.Attends s) (hu : u.Attends t) :
    (if b then u else t).Attends s := by
  split
  · exact hu.trans ht
  · exact ht

theorem State.Attends.foldl {α : Type} {f : State → α → State} (hf : ∀ s a, (f s a).Attends s) (s : State)
    (as : List α) : (as.foldl f s).Attends s := by
  induction as generalizing s with
  | nil => exact .refl s
  | cons a as ih => exact (ih (f s a)).trans (hf s a)

/-- Work that keeps the frame, reports to the records and writes no snapshot. -/
theorem State.Attends.of_kept {t s : State} (kept : t.Kept s) (rt : t.rt.Reported s.rt) (store : t.Stores s)
    (started : s.pmc.mode ≠ .starting → t.pmc.mode ≠ .starting) : t.Attends s := by
  obtain ⟨-, -, -, outcomes⟩ := kept.lk.queues
  exact ⟨rt, .of_continues rt.continues (by rw [kept.smp]) outcomes kept.lk.outcomesSent store kept.lk.sendsHeld
    started⟩

/-- Work that keeps the frame and the racks, and writes no snapshot. -/
theorem State.Attends.of_same {t s : State} (kept : t.Kept s) (rt : t.rt = s.rt)
    (slots : t.ck.slots = s.ck.slots) (write : t.ck.write = s.ck.write) (mode : t.pmc.mode = s.pmc.mode) :
    t.Attends s :=
  .of_kept kept (rt ▸ .refl t.rt) (.of_same slots write) (by rw [mode]; exact id)

/-! ### Block updates, announcements and suspension -/

theorem State.setRt_attends (s : State) {rt : Rt} (h : rt.Reported s.rt) : (s.setRt rt).Attends s :=
  .of_kept (s.setRt_kept rt) h (.of_same rfl rfl) id

theorem State.setCm_attends (s : State) (cm : Cm) : (s.setCm cm).Attends s :=
  .of_same (s.setCm_kept cm) rfl rfl rfl rfl
theorem State.setFd_attends (s : State) (fd : Fd) : (s.setFd fd).Attends s :=
  .of_same (s.setFd_kept fd) rfl rfl rfl rfl
theorem State.putCase_attends (s : State) (c : Case) : (s.putCase c).Attends s :=
  .of_same (s.putCase_kept c) rfl rfl rfl rfl
theorem State.trigger_attends (s : State) : s.trigger.Attends s :=
  .of_same s.trigger_kept rfl rfl rfl rfl
theorem State.applySets_attends (s : State) (sets : List (Owner × ClaimSet)) : (s.applySets sets).Attends s :=
  .of_same (s.applySets_kept sets) rfl rfl rfl rfl
theorem State.endDwell_attends (s : State) : s.endDwell.Attends s :=
  .of_same s.endDwell_kept rfl rfl rfl rfl
theorem State.commit_attends (s : State) : s.commit.Attends s :=
  ⟨by simpa using Rt.Reported.refl s.rt, s.commit_carries⟩

theorem State.announceCase_attends (s : State) (c : Case) : (s.announceCase c).Attends s := by
  have store : (s.announceCase c).ck.slots = s.ck.slots ∧ (s.announceCase c).ck.write = s.ck.write := by
    unfold State.announceCase State.serveCase
    simp only
    repeat' split
    · exact ⟨rfl, rfl⟩
    · exact ⟨rfl, rfl⟩
    · exact ⟨rfl, rfl⟩
  exact .of_same (s.announceCase_kept c) (by simp) store.1 store.2 (by simp)

theorem State.evaluateSuspension_attends (s : State) : s.evaluateSuspension.Attends s :=
  State.evaluateSuspension_induct (P := fun t => t.Attends s)
    (fun t c h => (t.putCase_attends c).trans h) (fun t cs h => (t.applySets_attends cs).trans h)
    (fun t c h => (t.announceCase_attends c).trans h) (.refl s)

/-! ### Zones -/

theorem State.takeOff_attends (s : State) (z : Zone) : (s.takeOff z).Attends s :=
  .of_same (s.takeOff_kept z) (by simp) (by simp) (by simp) (by rw [State.takeOff, State.dwellZoneLeaves_pmc]; rfl)

theorem State.addMarker_attends (id : Nat) (s : State) (z : Zone) : (s.addMarker id z).Attends s := by
  refine .of_same (State.addMarker_kept id s z) (by simp) (by simp) (by simp) ?_
  simp only [State.addMarker, State.takeOff]
  repeat' split
  · rfl
  · rw [State.dwellZoneLeaves_pmc]; rfl
  · rfl

theorem State.removeMarkers_attends (s : State) (id : Nat) : (s.removeMarkers id).Attends s :=
  .of_same (s.removeMarkers_kept id) rfl rfl rfl rfl

/-! ### Changes of a case -/

theorem State.linkGainedPumps_attends (s : State) (o : Option Case) (c : Case) :
    (s.linkGainedPumps o c).Attends s :=
  .foldl (fun s _ => (State.Attends.refl s).ite (s.setRt_attends (Rt.linkZone_reported ..))) s _

theorem State.alterCase_attends (s : State) (old new : Case) : (s.alterCase old new).Attends s := by
  unfold State.alterCase
  extract_lets entered s1 s2 s3 s4 s5 s6
  have h1 : s1.Attends s := (State.applySets_attends _ _).trans (s.putCase_attends new)
  have h2 : s2.Attends s := (s1.linkGainedPumps_attends _ _).trans h1
  have h3 : s3.Attends s := h2.ite (s2.setRt_attends (Rt.linkAll_reported ..))
  have h4 : s4.Attends s := (State.Attends.foldl (State.addMarker_attends new.id) s3 _).trans h3
  have h5 : s5.Attends s := h4.ite (s4.setRt_attends (Rt.manual_reported ..))
  have h6 : s6.Attends s := h5.ite (s5.announceCase_attends new)
  exact h6.ite s6.trigger_attends

theorem State.settleAfter_attends (s : State) (old new : Case) : (s.settleAfter old new).Attends s :=
  (State.Attends.refl s).ite s.evaluateSuspension_attends

theorem State.changeCase_attends (s : State) (old new : Case) : (s.changeCase old new).Attends s :=
  (State.settleAfter_attends _ old new).trans (s.alterCase_attends old new)

theorem State.resolveCase_attends (s : State) (c : Case) : (s.resolveCase c).Attends s :=
  (State.changeCase_attends _ c c.resolve).trans (s.removeMarkers_attends c.id)

theorem State.advanceCase_attends (s : State) (old new : Case) : (s.advanceCase old new).Attends s := by
  unfold State.advanceCase
  split
  · exact (State.alterCase_attends _ old new).trans (s.removeMarkers_attends old.id)
  · exact s.alterCase_attends old new

/-! ### Mode changes and detections -/

theorem State.enterMode_attends (s : State) {m : Mode} (real : m ≠ .starting) (cause : HaltCause) :
    (s.enterMode m cause).Attends s :=
  .of_kept (s.enterMode_kept m cause) (by simpa using Rt.Reported.refl s.rt)
    (.of_same (by rw [State.enterMode_ck]) (by rw [State.enterMode_ck]))
    fun _ => by rw [State.enterMode_pmc]; exact real

theorem State.changeMode_attends (s : State) {m : Mode} (real : m ≠ .starting) (cause : HaltCause) :
    (s.changeMode m cause).Attends s :=
  (State.evaluateSuspension_attends _).trans (s.enterMode_attends real cause)

theorem State.enterHalt_attends (s : State) (cause : HaltCause) : (s.enterHalt cause).Attends s := by
  unfold State.enterHalt
  split
  · exact .refl s
  · exact .refl s
  · exact s.enterMode_attends (by simp) cause

theorem State.automaticHalt_attends (s : State) (cause : HaltCause) : (s.automaticHalt cause).Attends s := by
  unfold State.automaticHalt
  split
  · exact .refl s
  · exact .refl s
  · exact s.changeMode_attends (by simp) cause

theorem State.openCase_attends (s : State) (d : Detection) : (s.openCase d).Attends s := by
  unfold State.openCase
  extract_lets id bare new cm s1 s2 s3 s4 s5 s6 s7
  have h2 : s2.Attends s := s1.evaluateSuspension_attends.trans (s.setCm_attends _)
  have h4 : s4.Attends s := (s3.linkGainedPumps_attends none new).trans ((s2.applySets_attends _).trans h2)
  have h5 : s5.Attends s := h4.ite (s4.setRt_attends (Rt.linkAll_reported ..))
  have h6 : s6.Attends s := h5.ite (s5.setRt_attends (Rt.travelLost_reported _))
  have h7 : s7.Attends s := (State.Attends.foldl (State.addMarker_attends id) s6 _).trans h6
  exact (State.trigger_attends _).trans ((s7.announceCase_attends new).trans h7)

theorem State.detect_attends (s : State) (d : Detection) : (s.detect d).Attends s := by
  unfold State.detect
  split
  · exact s.changeCase_attends _ _
  · split
    · exact s.openCase_attends d
    · exact s.automaticHalt_attends _

theorem State.detectEvent_attends (s : State) (d : Detection) : (s.detectEvent d).Attends s :=
  (State.commit_attends _).trans (s.detect_attends d)

theorem State.detectEvent_completes (s : State) (d : Detection) : (s.detectEvent d).Completes s :=
  (s.detect_attends d).carries.commit

/-! ### The consumers of a zone sample -/

section
variable (z : Zone) (lines : Lines) (r : Quad Reading) (s : State)

theorem State.caseSample_attends (rec : ZoneRecord) (id : Nat) :
    (s.caseSample z rec lines r id).Attends s
      ∧ (s.ck.trigger = false → (s.caseSample z rec lines r id).ck.trigger = false) := by
  unfold State.caseSample
  split
  · exact ⟨.refl s, fun h => h⟩
  next c _ =>
    split
    · exact ⟨.refl s, fun h => h⟩
    · extract_lets n q
      have halted := (s.advanceCase_attends c n.1).ite (b := n.2) (q.enterHalt_attends .unisolatedHeat)
      exact ⟨(State.commit_attends _).trans ((State.settleAfter_attends _ c n.1).trans halted),
        fun _ => State.commit_trigger _⟩

theorem State.caseSample_completes (rec : ZoneRecord) (id : Nat) :
    (s.caseSample z rec lines r id).Completes s :=
  have h := s.caseSample_attends z lines r rec id
  ⟨h.1.carries, h.2⟩

theorem State.casesSample_attends (ids : List Nat) : (s.casesSample z lines r ids).Attends s := by
  unfold State.casesSample
  split
  · exact .refl s
  · exact .foldl (fun s id => (s.caseSample_attends z lines r _ id).1) s ids

theorem State.casesSample_completes (ids : List Nat) : (s.casesSample z lines r ids).Completes s := by
  unfold State.casesSample
  split
  · exact .refl s
  · exact .foldl (fun s id => s.caseSample_completes z lines r _ id) s ids

theorem State.managerSample_attends (ds : List Detection) (first : Nat) (ids : List Nat) :
    (s.managerSample z lines r ds first ids).Attends s :=
  (State.Attends.foldl State.detectEvent_attends _ _).trans
    ((State.casesSample_attends z lines r _ ids).trans (.foldl State.detectEvent_attends s _))

theorem State.managerSample_completes (ds : List Detection) (first : Nat) (ids : List Nat) :
    (s.managerSample z lines r ds first ids).Completes s :=
  (State.Completes.foldl State.detectEvent_completes _ _).trans
    ((State.casesSample_completes z lines r _ ids).trans (.foldl State.detectEvent_completes s _))

theorem State.guardSample_completes : (s.guardSample z r).Completes s :=
  .of_carries (s.applySets_attends _).carries rfl

theorem State.traceSample_completes : (s.traceSample z r).Completes s := by
  unfold State.traceSample
  refine (State.Completes.refl s).ite ?_
  rw [Lk.trace_eq]
  split
  · exact .of_carries (s.setLk_carries rfl rfl fun h => h.grow rfl id id id (by simp)) rfl
  · exact .of_carries (s.setLk_carries rfl rfl fun h => h.grow rfl id id id id) rfl

theorem State.detectorSample_completes (runs : List Quantity) :
    (s.detectorSample z lines r runs).1.Completes s := by
  unfold State.detectorSample
  split
  · exact .refl s
  · exact .of_carries (s.setFd_attends _).carries rfl

theorem State.contactSample_completes : (s.contactSample z lines r).Completes s :=
  (State.Completes.refl s).ite
    (.of_carries (s.setRt_carries ⟨⟨_, Rack.addContact_continues z _ _, rfl⟩, rfl, rfl⟩) rfl)

theorem State.doseSample_completes : (s.doseSample z lines r).Completes s := by
  simp only [State.doseSample]
  split
  · exact .of_carries (s.setRt_carries ⟨⟨_, Rack.addDose_continues _ _ _, rfl⟩, rfl, rfl⟩) rfl
  · exact .refl s

theorem State.dwellSample_rt_ck : (s.dwellSample z).rt = s.rt ∧ (s.dwellSample z).ck = s.ck := by
  simp only [State.dwellSample]
  repeat' split
  · exact ⟨rfl, rfl⟩
  · exact ⟨rfl, rfl⟩
  · exact ⟨rfl, rfl⟩
  · exact ⟨rfl, rfl⟩
  · exact ⟨rfl, rfl⟩

theorem State.dwellSample_completes : (s.dwellSample z).Completes s := by
  obtain ⟨rt, ck⟩ := s.dwellSample_rt_ck z
  exact .of_carries (State.Attends.of_same (s.dwellSample_kept z) rt (by rw [ck]) (by rw [ck]) (by simp)).carries
    (by rw [ck])

theorem State.finalSample_completes : (s.finalSample z lines r).Completes s := by
  simp only [State.finalSample]
  split
  · exact .refl s
  · split
    · exact (s.doseSample_completes z lines r).ite (State.dwellSample_completes z _)
    · exact .refl s

end

/-- The sampler but for the travel decides no law of the racks (R63). -/
theorem State.setSmp_completes (s : State) {m : Smp} (travel : m.travel = s.smp.travel) :
    (s.setSmp m).Completes s :=
  .of_carries (.of_same rfl travel rfl rfl rfl) rfl

theorem State.zoneSample_completes (codes : Quad Nat) (order : ZoneOrder) (z : Zone) (s : State) :
    (s.zoneSample codes order z).Completes s := by
  unfold State.zoneSample
  extract_lets conv r lines ids smp s1 s2 f s3
  have h2 : s2.Completes s := (State.finalSample_completes z lines r _).trans
    ((s1.contactSample_completes z lines r).trans (s.setSmp_completes rfl))
  have h3 : s3.Completes s := (State.traceSample_completes z r f.1).trans
    ((s2.detectorSample_completes z lines r conv.2).trans h2)
  split
  · exact (State.managerSample_completes z lines r _ f.2 _ ids).trans ((s3.guardSample_completes z r).trans h3)
  · exact (State.guardSample_completes z r _).trans ((s3.managerSample_completes z lines r f.2 _ ids).trans h3)

/-! ### Contact and dose at a zone sample -/

/-- What of a rack is its account at a zone sample. -/
def Rack.account (r : Rack) : Nat × Four Nat × Nat := (r.tag, r.contact, r.dose)

/-- Reports leave the accounts (R77 to R79). -/
theorem Rt.Reported.accounts {t s : Rt} (h : t.Reported s) : t.queue.map Rack.account = s.queue.map Rack.account := by
  obtain ⟨f, hf, queue⟩ := h.queue
  rw [queue, List.map_map]
  exact List.map_congr_left fun r _ => by
    simp only [Function.comp_apply, Rack.account, (hf r).tag, (hf r).contact, (hf r).dose]

/-- Whatever follows contact and dose at a zone sample only reports to the records (R29). -/
theorem State.zoneSample_reported (codes : Quad Nat) (order : ZoneOrder) (z : Zone) (s : State) :
    (s.zoneSample codes order z).rt.Reported (s.accrued codes z).rt := by
  unfold State.zoneSample
  extract_lets conv r lines ids smp s1 s2 f s3
  have detected : f.1.rt = s2.rt := by
    simp only [f, State.detectorSample]
    split
    · rfl
    · rfl
  have traced : s3.rt = (s.accrued codes z).rt := by
    refine Eq.trans ?_ detected
    simp only [s3, State.traceSample]
    split
    · rfl
    · rfl
  rw [← traced]
  split
  · exact (State.managerSample_attends z lines r (s3.guardSample z r) f.2 _ ids).rt
  · exact (State.managerSample_attends z lines r s3 f.2 _ ids).rt

theorem Rack.addContact_eq (z : Zone) (slot : SlotState) (travel : Word32) (r : Rack) :
    r.addContact z slot travel
      = { r with contact := if r.inZone slot travel then r.contact.set z (min (r.contact.get z + 1) 65535)
                            else r.contact } := by
  unfold Rack.addContact
  split
  · rfl
  · rfl

theorem Rack.addDose_eq (slot : SlotState) (travel : Word32) (increment : Nat) (r : Rack) :
    r.addDose slot travel increment
      = { r with dose := if r.inZone slot travel then min (r.dose + increment) 9999999 else r.dose } := by
  unfold Rack.addDose
  split
  · rfl
  · rfl

/-- Where a rack is does not depend on its contact (R67). -/
theorem Rack.inZone_contact (r : Rack) (contact : Four Nat) (slot : SlotState) (travel : Word32) :
    Rack.inZone { r with contact := contact } slot travel = r.inZone slot travel := by
  cases slot <;> rfl

/-- One record after the increment stage of a sample of a zone, with its pump driven or not (R85, R86, R91). -/
def Rack.dosed (slot : SlotState) (pumped : Bool) (l : Limits) (temperature : Reading) (travel : Word32)
    (r : Rack) : Rack :=
  match slot, temperature with
  | .online rec, .valid v => if rec.final && pumped then r.addDose slot travel (doseIncrement l v) else r
  | _, _ => r

/-- No increment but in a final ONLINE zone, pumped, at a VALID temperature (R85, R86). -/
theorem Rack.dosed_eq_id {slot : SlotState} {pumped : Bool} (l : Limits) {temperature : Reading} (travel : Word32)
    (none : ∀ rec v, slot = .online rec → temperature = .valid v → (rec.final && pumped) = false) :
    Rack.dosed slot pumped l temperature travel = id := by
  funext r
  unfold Rack.dosed
  split
  next rec v => rw [none rec v rfl rfl]; rfl
  · rfl

theorem Rack.dosed_eq_addDose {rec : ZoneRecord} (final : rec.final = true) (l : Limits) (v : Nat)
    (travel : Word32) :
    Rack.dosed (.online rec) true l (.valid v) travel = Rack.addDose (.online rec) travel (doseIncrement l v) := by
  funext r
  simp [Rack.dosed, final]

section
variable (z : Zone) (lines : Lines) (r : Quad Reading) (s : State)

theorem State.contactSample_queue :
    (s.contactSample z lines r).rt.queue
      = s.rt.queue.map fun x =>
          if zoneActive (s.pmc.zones.get z).slot lines z r.temp then
            x.addContact z (s.pmc.zones.get z).slot s.smp.travel
          else x := by
  simp only [State.contactSample]
  split
  · rfl
  · simp

theorem State.doseSample_queue {rec : ZoneRecord} (final : rec.final = true)
    (online : (s.pmc.zones.get z).slot = .online rec) :
    (s.doseSample z lines r).rt.queue
      = s.rt.queue.map (Rack.dosed (s.pmc.zones.get z).slot (lines.drive (.pump z)) s.pmc.limits r.temp
          s.smp.travel) := by
  simp only [State.doseSample, online, SlotState.isOnline, Bool.true_and]
  cases lines.drive (.pump z) with
  | false => rw [Rack.dosed_eq_id _ _ (by simp), List.map_id]
  | true =>
    cases r.temp with
    | valid v => rw [Rack.dosed_eq_addDose final]; rfl
    | stale v => rw [Rack.dosed_eq_id _ _ (by simp), List.map_id]; rfl
    | unknown => rw [Rack.dosed_eq_id _ _ (by simp), List.map_id]; rfl

theorem State.finalSample_queue :
    (s.finalSample z lines r).rt.queue
      = s.rt.queue.map (Rack.dosed (s.pmc.zones.get z).slot (lines.drive (.pump z)) s.pmc.limits r.temp
          s.smp.travel) := by
  have evaluated : ∀ rec, (s.pmc.zones.get z).slot.record = some rec →
      (s.finalSample z lines r).rt = if rec.final then (s.doseSample z lines r).rt else s.rt := fun rec h => by
    simp only [State.finalSample, h]
    repeat' split
    · exact ((s.doseSample z lines r).dwellSample_rt_ck z).1
    · rfl
    · rfl
  cases slot : (s.pmc.zones.get z).slot with
  | unconfigured =>
    rw [Rack.dosed_eq_id _ _ (by simp), List.map_id]
    simp [State.finalSample, slot, SlotState.record]
  | offline rec =>
    rw [evaluated rec (by rw [slot]; rfl), Rack.dosed_eq_id _ _ (by simp), List.map_id]
    simp [State.doseSample, slot, SlotState.isOnline]
  | online rec =>
    rw [evaluated rec (by rw [slot]; rfl), ← slot]
    split
    next final => exact s.doseSample_queue z lines r final slot
    next other =>
      rw [Rack.dosed_eq_id _ _ fun rec' v same _ => ?_, List.map_id]
      obtain rfl := SlotState.online.inj (slot.symm.trans same)
      simp [other]

end

/-- The queue after contact and dose, record by record (R68, R85 to R91). -/
theorem State.accrued_queue (codes : Quad Nat) (z : Zone) (s : State) :
    (s.accrued codes z).rt.queue
      = s.rt.queue.map fun x =>
          Rack.dosed (s.pmc.zones.get z).slot (s.lg.drive (.pump z)) s.pmc.limits (s.sampled codes z).temp
            s.smp.travel
            (if zoneActive (s.pmc.zones.get z).slot s.lg z (s.sampled codes z).temp then
              x.addContact z (s.pmc.zones.get z).slot s.smp.travel
            else x) := by
  have contact := State.contactSample_queue z s.lg (s.sampled codes z) (s.converted codes z)
  have kept := State.contactSample_kept z s.lg (s.sampled codes z) (s.converted codes z)
  rw [State.accrued, State.finalSample_queue, contact, State.contactSample_pmc, kept.smp, List.map_map]
  rfl

/-- Settles O7: contact and dose record by record; what follows them in the sample only reports. -/
theorem accrualAtZoneSample : Obligations.AccrualAtZoneSample := by
  unfold Obligations.AccrualAtZoneSample
  intro s codes order z slot temp
  have accounts := (s.zoneSample_reported codes order z).accounts
  rw [State.accrued_queue, List.map_map] at accounts
  refine accounts.trans (List.map_congr_left fun r _ => ?_)
  have contacted : (if zoneActive slot s.lg z temp then r.addContact z slot s.smp.travel else r)
      = { r with contact := if zoneActive slot s.lg z temp && r.inZone slot s.smp.travel then
                              r.contact.set z (min (r.contact.get z + 1) 65535)
                            else r.contact } := by
    rw [Rack.addContact_eq]
    cases zoneActive slot s.lg z temp <;> rfl
  have taken : (s.pmc.zones.get z).slot = slot ∧ (s.sampled codes z).temp = temp := ⟨rfl, rfl⟩
  rw [Function.comp_apply, taken.1, taken.2, contacted]
  clear_value slot temp
  cases slot with
  | online rec =>
    cases temp with
    | valid v =>
      simp only [Rack.account, Rack.dosed, Rack.addDose_eq, Rack.inZone_contact]
      cases rec.final && s.lg.drive (.pump z) <;> rfl
    | stale v => rfl
    | unknown => rfl
  | offline rec => rfl
  | unconfigured => rfl

end Sys2Proof.Machine
end

section
/-! PROOF. The events of the machine carry the laws of the racks on (R62 to R64, R68, R80, R91, R163): the owners
of the requests, rounds, expiries and the completions of a checkpoint write. -/

namespace Sys2Proof.Machine

/-! ### Mode changes and flushes -/

theorem State.flushMode_carries (reason : FlushReason) {m : Mode} (real : m ≠ .starting) (cause : HaltCause)
    (s : State) : ((s.flush reason).changeMode m cause).Carries s :=
  (State.changeMode_attends _ real cause).carries.trans (s.flush_carries reason)

theorem State.enterRun_carries (s : State) : s.enterRun.Carries s :=
  (s.changeMode_attends (by simp) .none).carries.ite (State.entryEvent_carries _)

theorem modePrepareFromStandby_carries (s : State) : (modePrepareFromStandby s).1.Carries s := by
  unfold modePrepareFromStandby
  split
  · exact .refl s
  · exact (s.changeMode_attends (by simp) .none).carries

theorem modeRunFromPrepare_carries (s : State) : (modeRunFromPrepare s).1.Carries s := by
  unfold modeRunFromPrepare
  repeat' split
  · exact .refl s
  · exact .refl s
  · exact s.enterRun_carries

theorem modeStandby_carries (force : Bool) (s : State) : (modeStandby force s).1.Carries s := by
  unfold modeStandby
  repeat' split
  · exact State.flushMode_carries .standbyFlush (by simp) .none s
  · exact .refl s
  · exact (s.changeMode_attends (by simp) .none).carries

theorem modeTable_carries (target : Mode) (force : Bool) (s : State) :
    (modeTable target force s).1.Carries s := by
  have halted : (s.changeMode .halt .requested).Carries s :=
    (s.changeMode_attends (by simp) .requested).carries
  unfold modeTable
  split
  · exact .refl s
  · exact modePrepareFromStandby_carries s
  · exact .refl s
  · exact modeStandby_carries force s
  · exact .refl s
  · exact modeRunFromPrepare_carries s
  · exact modeStandby_carries force s
  · exact (s.changeMode_attends (by simp) .none).carries
  · exact .refl s
  · exact halted
  · exact halted
  · exact halted
  · exact .refl s

/-! ### The owners of the requests -/

theorem modeRequest_carries (p : List Byte) (s : State) : (modeRequest p s).1.Carries s := by
  unfold modeRequest
  repeat' split
  · exact .refl s
  · exact .refl s
  · exact .refl s
  · exact modeTable_carries _ _ s

theorem zoneLoadRequest_carries (p : List Byte) (s : State) : (zoneLoadRequest p s).1.Carries s := by
  simp only [zoneLoadRequest]
  repeat' split
  · exact .refl s
  · exact .refl s
  · exact .refl s
  · exact .of_same rfl rfl rfl rfl rfl

theorem State.writeCalibration_carries (z : Zone) (q : Quantity) (c : Calibration) (s : State) :
    (s.writeCalibration z q c).Carries s := by
  obtain ⟨-, pmc, smp, rt, -, -, ck, lk, -, -⟩ := (s.calibrated z q c).guardLoaded_frame z q
  rw [State.writeCalibration_eq]
  exact .of_same rt (by rw [smp]; rfl) ck lk (by rw [pmc]; rfl)

theorem chanLoadRequest_carries (p : List Byte) (s : State) : (chanLoadRequest p s).1.Carries s := by
  simp only [chanLoadRequest]
  repeat' split
  · exact .refl s
  · exact .refl s
  · exact .refl s
  · exact State.writeCalibration_carries _ _ _ s

theorem limitsLoadRequest_carries (p : List Byte) (s : State) : (limitsLoadRequest p s).1.Carries s := by
  have loaded : ∀ l, (s.setPmc { s.pmc with limits := l }).Carries s := fun _ => .of_same rfl rfl rfl rfl rfl
  simp only [limitsLoadRequest]
  split
  · exact loaded _
  · exact loaded _
  · exact .refl s

theorem zoneOnRequest_carries (p : List Byte) (s : State) : (zoneOnRequest p s).1.Carries s := by
  simp only [zoneOnRequest]
  repeat' split
  · exact .refl s
  · exact .refl s
  · exact .refl s
  · exact .refl s
  · exact .refl s
  · exact .refl s
  · exact .of_same rfl rfl rfl rfl rfl

theorem zoneOffRequest_carries (p : List Byte) (s : State) : (zoneOffRequest p s).1.Carries s := by
  simp only [zoneOffRequest]
  repeat' split
  · exact .refl s
  · exact .refl s
  · exact .refl s
  · exact (s.takeOff_attends _).carries

theorem haltClearRequest_carries (p : List Byte) (s : State) : (haltClearRequest p s).1.Carries s := by
  unfold haltClearRequest
  split
  · exact State.flushMode_carries _ (by simp) _ s
  · exact .refl s

theorem caseClearRequest_carries (p : List Byte) (s : State) : (caseClearRequest p s).1.Carries s := by
  unfold caseClearRequest
  repeat' split
  · exact .refl s
  · exact (s.resolveCase_attends _).carries
  · exact (s.resolveCase_attends _).carries
  · exact .refl s

theorem State.retryLinks_attends (c : Case) (s : State) : (s.retryLinks c).Attends s := by
  unfold State.retryLinks
  split
  · exact s.setRt_attends (Rt.linkZone_reported ..)
  · exact .refl s

theorem caseRetryRequest_carries (p : List Byte) (s : State) : (caseRetryRequest p s).1.Carries s := by
  unfold caseRetryRequest
  repeat' split
  · exact .refl s
  · exact .refl s
  next c _ _ c' _ =>
    exact (((State.retryLinks_attends c' _).trans (State.changeCase_attends _ c c')).trans
      (s.removeMarkers_attends c.id)).carries

theorem traceRequest_carries (p : List Byte) (s : State) : (traceRequest p s).1.Carries s := by
  have selected : ∀ zone, (s.setLk { s.lk with traceZone := zone }).Carries s := fun _ =>
    s.setLk_carries rfl rfl fun h => h.grow rfl id id id id
  simp only [traceRequest]
  repeat' split
  · exact selected _
  · exact selected _
  · exact .refl s

theorem restartRequest_carries (p : List Byte) (s : State) : (restartRequest p s).1.Carries s :=
  s.setLk_carries (l := { s.lk with restart := .awaitingReply }) rfl rfl fun h => h.grow rfl id id id id

/-! The requests that report leave the state (R42, R59, R82, R130). -/

theorem zoneReadRequest_state (p : List Byte) (s : State) : (zoneReadRequest p s).1 = s := by
  unfold zoneReadRequest
  split
  · rfl
  · rfl

theorem linesReadRequest_state (p : List Byte) (s : State) : (linesReadRequest p s).1 = s := by
  unfold linesReadRequest
  split
  · rfl
  · rfl

theorem racksReadRequest_state (p : List Byte) (s : State) : (racksReadRequest p s).1 = s := by
  unfold racksReadRequest
  split
  · rfl
  · rfl

theorem caseReadRequest_state (p : List Byte) (s : State) : (caseReadRequest p s).1 = s := by
  unfold caseReadRequest
  repeat' split
  · rfl
  · rfl
  · rfl

/-! ### The round and the travel event -/

theorem State.sampleRound_completes (input : RoundInput) (s : State) : (s.sampleRound input).Completes s := by
  have pan : ∀ (before : Smp) (s : State), (s.panEvent before).Completes s := fun _ s =>
    (State.Completes.refl s).ite (s.detectEvent_completes .leakPan)
  have eye : ∀ (before : Smp) (s : State), (s.eyeEvent before).Completes s := fun _ s =>
    (State.Completes.refl s).ite s.entryEvent_carries.commit
  have debounced : (s.setSmp (s.smp.debounced input)).Completes s := s.setSmp_completes rfl
  have inputs : (s.inputsTaken input).Completes s := by
    simp only [State.inputsTaken]
    split
    · exact (pan _ _).trans ((eye _ _).trans debounced)
    · exact (eye _ _).trans ((pan _ _).trans debounced)
  rw [State.sampleRound_eq]
  exact (State.Completes.foldl (fun s z => State.zoneSample_completes _ _ z s) _ _).trans inputs

theorem State.pulseDetectors_carries (s : State) : s.pulseDetectors.Carries s := by
  have restarted : s.silenceRestarted.Carries s := (s.setFd_attends _).carries
  obtain ⟨-, same⟩ | same | ⟨c, -, same⟩ := s.pulseDetectors_cases
  · rw [same]
    exact .refl s
  · rw [same]
    exact restarted
  · rw [same]
    exact (State.resolveCase_attends _ c).carries.trans restarted

/-- A pulse from where the travel has moved on already (R40, R69, R112). -/
theorem State.pulse_completes (trackerFirst : Bool) (s : State) : (s.pulse trackerFirst).Completes s.moved := by
  rw [State.pulse_eq]
  split
  · exact ((State.pulseDetectors_carries _).trans (State.testExits_carries _)).commit
  · exact ((State.testExits_carries _).trans (State.pulseDetectors_carries _)).commit

/-! ### Expiries -/

theorem State.dwellExpiry_completes (s : State) : s.dwellExpiry.Completes s := by
  have expired : ∀ tags, (s.setRt { s.rt with queue := s.rt.queue.map (Rack.expireDwell tags) }).Attends s :=
    fun tags => s.setRt_attends ⟨⟨_, Rack.expireDwell_reported tags, rfl⟩, rfl, rfl⟩
  unfold State.dwellExpiry
  split
  · exact .of_carries ((State.endDwell_attends _).trans (expired _)).carries rfl
  · exact .refl s

theorem State.silenceExpiry_completes (s : State) : s.silenceExpiry.Completes s := by
  unfold State.silenceExpiry
  split
  · exact (State.detectEvent_completes _ _).trans (.of_carries (s.setFd_attends _).carries rfl)
  · exact .refl s

theorem State.localiseExpiry_completes (s : State) : s.localiseExpiry.Completes s := by
  unfold State.localiseExpiry
  split
  · exact (s.changeCase_attends _ _).carries.commit
  · exact .refl s

theorem State.drainExpiry_completes (s : State) : s.drainExpiry.Completes s := by
  unfold State.drainExpiry
  split
  · exact (s.changeCase_attends _ _).carries.commit
  · exact .refl s

theorem State.leakVerifyExpiry_completes (s : State) : s.leakVerifyExpiry.Completes s := by
  unfold State.leakVerifyExpiry
  split
  · exact ((State.resolveCase_attends _ _).trans (s.setCm_attends _)).carries.commit
  · exact .refl s

theorem State.purgeExpiry_completes (z : Zone) (s : State) : (s.purgeExpiry z).Completes s := by
  unfold State.purgeExpiry
  split
  · exact (s.changeCase_attends _ _).carries.commit
  · exact .refl s

theorem State.refillExpiry_completes (z : Zone) (s : State) : (s.refillExpiry z).Completes s := by
  unfold State.refillExpiry
  split
  · exact (s.changeCase_attends _ _).carries.commit
  · exact .refl s

/-! With no case in the table no step timer expires (R134). -/

theorem State.expiring_of_no_case {s : State} (h : s.cm.table = []) (k : Key) (state : CaseState) (step : Step) :
    s.expiring k state step = none := by
  simp [State.expiring, h]

section
variable {s : State} (h : s.cm.table = [])
include h

theorem State.localiseExpiry_of_no_case : s.localiseExpiry = s := by
  simp [State.localiseExpiry, State.expiring_of_no_case h]

theorem State.drainExpiry_of_no_case : s.drainExpiry = s := by
  simp [State.drainExpiry, State.expiring_of_no_case h]

theorem State.leakVerifyExpiry_of_no_case : s.leakVerifyExpiry = s := by
  simp [State.leakVerifyExpiry, State.expiring_of_no_case h]

theorem State.purgeExpiry_of_no_case (z : Zone) : s.purgeExpiry z = s := by
  simp [State.purgeExpiry, State.expiring_of_no_case h]

theorem State.refillExpiry_of_no_case (z : Zone) : s.refillExpiry z = s := by
  simp [State.refillExpiry, State.expiring_of_no_case h]

end

/-! ### The completions of a checkpoint write -/

theorem State.writeVerified_completes (snap : Snapshot) (target : Fin 4) (s : State) :
    (s.writeVerified snap target).Completes s := by
  have ended : ∀ ck : Ck, ck.slots = s.ck.slots → ck.write = .idle → ck.trigger = s.ck.trigger →
      (s.setCk ck).Completes s := fun ck slots idle trigger =>
    .of_carries (s.setCk_carries fun P h _ => by
      rw [State.setCk_ck, Ck.Holds, slots, idle]
      exact ⟨h.1, nofun⟩) trigger
  simp only [State.writeVerified]
  repeat' split
  · exact State.Completes.trans (.of_carries (State.announceCheckpoint_carries _) (by simp)) (ended _ rfl rfl rfl)
  · exact State.Completes.trans (.of_carries (State.startWrite_carries _) (State.startWrite_trigger _))
      (ended _ rfl rfl rfl)
  · exact ended _ rfl rfl rfl

/-- A write whose read-back has failed: the store holds no snapshot but the one in flight (R165). -/
theorem State.writeFailed_completes {snap : Snapshot} {target : Fin 4} {s : State} {stage : WriteStage}
    (writing : s.ck.write = .busy stage snap target) : (s.writeFailed snap target).Completes s := by
  have failed : ∀ (n : Nat) (ck : Ck), ck.trigger = s.ck.trigger →
      (∀ P : Snapshot → Prop, s.ck.Holds P → P snap → ck.Holds P) →
      State.Completes { s.setCk ck with freeIndex := n } s := fun n ck trigger store =>
    .of_carries (.of_continues (Rt.Reported.refl s.rt).continues rfl rfl rfl
      (fun P h _ => store P h (h.2 _ _ _ writing)) id id) trigger
  have marked : ∀ P : Snapshot → Prop, s.ck.Holds P → P snap → Ck.Holds P
      { s.ck with
        bad := s.ck.bad.set target true
        slots := s.ck.slots.set target (.record snap (Config.failedSlotCheck s.freeIndex)) } := fun P h own =>
    h.set_slot rfl (fun _ _ e => by cases e; exact own) h.2
  simp only [State.writeFailed]
  split
  · exact failed _ _ rfl fun P h own => (marked P h own).startErase own _
  · refine State.Completes.trans (.of_carries (State.announceCheckpoint_carries _) (by simp))
      (failed (s.freeIndex + 1) _ rfl fun P h own => ?_)
    exact ⟨(marked P h own).1, nofun⟩

theorem State.verifyComplete_completes (s : State) : s.verifyComplete.Completes s := by
  unfold State.verifyComplete
  split
  next writing =>
    split
    · exact State.writeVerified_completes _ _ s
    · exact State.writeFailed_completes writing
  · exact .refl s

theorem Ck.trigger_of_stages (ck : Ck) (damage : BitVec 16) :
    ck.eraseComplete.trigger = ck.trigger ∧ (ck.programComplete damage).trigger = ck.trigger
      ∧ ck.cut.trigger = ck.trigger := by
  unfold Ck.eraseComplete Ck.programComplete Ck.cut
  refine ⟨?_, ?_, ?_⟩
  · split <;> rfl
  · split <;> rfl
  · split <;> rfl

theorem State.eraseComplete_completes (s : State) : (s.setCk s.ck.eraseComplete).Completes s :=
  .of_carries (s.setCk_carries fun _ h _ => h.eraseComplete) (s.ck.trigger_of_stages 0).1

theorem State.programComplete_completes (damage : BitVec 16) (s : State) :
    (s.setCk (s.ck.programComplete damage)).Completes s :=
  .of_carries (s.setCk_carries fun _ h _ => h.programComplete damage) (s.ck.trigger_of_stages damage).2.1

theorem State.goDown_completes (p : Power) (s : State) : (s.goDown p).Completes s :=
  .of_carries (.of_continues (Rt.Reported.refl s.rt).continues rfl rfl rfl (fun _ h _ => h.cut)
    (fun _ => Lk.sendsHeld_of_idle rfl) id) (s.ck.trigger_of_stages 0).2.2

/-! ### The notices and time -/

theorem State.fillFreed_carries (s : State) : s.fillFreed.Carries s := by
  unfold State.fillFreed
  repeat' split
  · exact s.announceRestore_carries
  · exact s.announceMode_carries
  · exact s.announceCheckpoint_carries
  · exact (s.announceCase_attends _).carries
  · exact .refl s

theorem State.eventSent_completes (s : State) :
    (s.setLk { s.lk with tx := .idle, events := s.lk.events.tail }).fillFreed.commit.Completes s := by
  have sent : (s.setLk { s.lk with tx := .idle, events := s.lk.events.tail }).Carries s :=
    s.setLk_carries rfl rfl fun _ => Lk.sendsHeld_of_idle rfl
  exact ((State.fillFreed_carries _).trans sent).commit

theorem State.tick_completes (s : State) : s.tick.Completes s := by
  unfold State.tick
  exact (State.Completes.refl s).ite (.of_carries (.of_continues (Rt.Reported.refl s.rt).continues rfl rfl rfl
    (.of_same rfl rfl) (fun h => h.grow rfl id id id id) id) rfl)

end Sys2Proof.Machine
end

section
/-! PROOF. Every command keeps the laws of the racks (R62 to R64, R68, R80, R91), and in STARTING nothing is
tracked before the restore (R84, R133, R161, R170, R187). -/

namespace Sys2Proof.Machine

/-! ### What a command keeps -/

/-- Nothing tracked, nothing sent, no write in flight. -/
def State.Unused (s : State) : Prop :=
  s.rt.queue = [] ∧ s.cm.table = [] ∧ s.ck.write = .idle ∧ s.lk.outcomes = [] ∧ s.lk.outcomesSent = 0
    ∧ s.rt.admitted = 0

theorem State.Quiet.unused {s : State} (h : s.Quiet) (starting : s.pmc.mode = .starting) : s.Unused :=
  h.2 starting

theorem State.Unused.no_case {s : State} (h : s.Unused) : s.cm.table = [] := h.2.1

/-- What a command makes of the laws: those of the racks pass on, the positions within the limits of travel and
the count where the frame in transmission is held; and a quiet state stays quiet. -/
structure State.Follows (t s : State) : Prop where
  sound : s.RacksSound → t.RacksSound
  tagged : s.RacksTagged → t.RacksTagged
  placed : s.pmc.limits.TravelSound → s.RacksPlaced → t.RacksPlaced
  counted : s.Quiet → s.lk.SendsHeld → s.RacksCounted → t.RacksCounted
  held : s.lk.SendsHeld → t.lk.SendsHeld
  quiet : s.lk.SendsHeld → s.Quiet → t.Quiet

theorem State.Carries.follows {t s : State} (h : t.Carries s) (quiet : s.lk.SendsHeld → s.Quiet → t.Quiet) :
    t.Follows s :=
  ⟨h.sound, h.tagged, fun _ => h.placed, fun _ _ => h.counted, h.held, quiet⟩

/-- A whole event, with what it leaves unused in STARTING. -/
theorem State.Completes.follows {t s : State} (h : t.Completes s)
    (unused : s.pmc.mode = .starting → s.Quiet → t.Unused) : t.Follows s :=
  h.toCarries.follows fun _ quiet => ⟨h.settled quiet.1, fun starting => by
    by_cases before : s.pmc.mode = .starting
    · exact unused before quiet
    · exact absurd starting (h.started before)⟩

theorem State.Follows.refl (s : State) : s.Follows s :=
  (State.Completes.refl s).follows fun starting quiet => quiet.unused starting

/-- A whole event that does nothing where there is no case. -/
theorem State.Completes.follows_of_no_case {t s : State} (h : t.Completes s) (same : s.cm.table = [] → t = s) :
    t.Follows s :=
  h.follows fun starting quiet => by
    have unused := quiet.unused starting
    rwa [same unused.no_case]

/-- A command that does something, where its test holds, or nothing. -/
theorem follows_ite {t s : State} {b : Prop} [Decidable b] (h : b → t.Follows s) :
    (if b then t else s).Follows s := by
  split
  next holds => exact h holds
  · exact .refl s

theorem follows_branch {t u s : State} (b : Prop) [Decidable b] (ht : t.Follows s) (hu : u.Follows s) :
    (if b then t else u).Follows s := by
  split
  · exact ht
  · exact hu

/-- The link has changed beside the outcomes. -/
theorem State.setLk_follows (s : State) {l : Lk} (outcomes : l.outcomes = s.lk.outcomes)
    (sent : l.outcomesSent = s.lk.outcomesSent) (held : s.lk.SendsHeld → l.SendsHeld) :
    (s.setLk l).Follows s :=
  State.Completes.follows (.of_carries (s.setLk_carries outcomes sent held) rfl) fun starting quiet => by
    obtain ⟨queue, table, write, noOutcome, noneSent, admitted⟩ := quiet.unused starting
    exact ⟨queue, table, write, outcomes.trans noOutcome, sent.trans noneSent, admitted⟩

/-! ### Requests -/

theorem State.handle_carries {owner : List Byte → State → Answered} (h : ∀ p s, (owner p s).1.Carries s)
    (length : Nat) (inStarting : Bool) (p : List Byte) (s : State) :
    (s.handle length inStarting owner p).1.Carries s := by
  unfold State.handle
  repeat' split
  · exact .refl s
  · exact .refl s
  · exact h p s

theorem State.dropRequest_carries (s : State) : s.dropRequest.Carries s :=
  s.setLk_carries rfl rfl fun h => h.grow rfl id id id id

theorem State.answer_carries (s : State) (r : Request) (p : List Byte) : (s.answer r p).Carries s :=
  s.setLk_carries rfl rfl fun h => h.grow rfl (fun _ => rfl) id id id

theorem State.dropRequest_answer_follows (s : State) (r : Request) (p : List Byte) :
    (s.dropRequest.answer r p).Follows s :=
  s.setLk_follows rfl rfl fun h => h.grow rfl (fun _ => rfl) id id id

theorem takeRequest_completes {owner : List Byte → State → Answered} (h : ∀ p s, (owner p s).1.Carries s)
    (kind length : Nat) (inStarting : Bool) (s : State) :
    (takeRequest kind length inStarting owner s).Completes s := by
  unfold takeRequest
  split
  · exact .refl s
  · split
    · exact ((State.answer_carries _ _ _).trans
        ((State.handle_carries h length inStarting _ _).trans s.dropRequest_carries)).commit
    · exact .refl s

/-- A request whose answer leaves the state takes its frame and is answered, and does nothing else (R180). -/
theorem takeRequest_of_same {owner : List Byte → State → Answered} {length : Nat} {inStarting : Bool} {s : State}
    (same : ∀ p, (s.dropRequest.handle length inStarting owner p).1 = s.dropRequest)
    (untriggered : s.ck.trigger = false) (kind : Nat) :
    takeRequest kind length inStarting owner s = s
      ∨ ∃ r p, takeRequest kind length inStarting owner s = s.dropRequest.answer r p := by
  unfold takeRequest
  split
  · exact .inl rfl
  next r _ =>
    split
    · simp only [same]
      exact .inr ⟨r, _, State.commit_of_untriggered untriggered⟩
    · exact .inl rfl

theorem takeRequest_unused {owner : List Byte → State → Answered} {length : Nat} {inStarting : Bool}
    {s : State} (same : ∀ p, (s.dropRequest.handle length inStarting owner p).1 = s.dropRequest)
    (quiet : s.Quiet) (starting : s.pmc.mode = .starting) (kind : Nat) :
    (takeRequest kind length inStarting owner s).Unused := by
  obtain e | ⟨r, p, e⟩ := takeRequest_of_same same quiet.1 kind
  · rw [e]
    exact quiet.unused starting
  · rw [e]
    exact quiet.unused starting

/-- A request that is not for STARTING is refused there (R180). -/
theorem takeRequest_follows {owner : List Byte → State → Answered} (h : ∀ p s, (owner p s).1.Carries s)
    (kind length : Nat) (s : State) : (takeRequest kind length false owner s).Follows s :=
  (takeRequest_completes h kind length false s).follows fun starting quiet =>
    takeRequest_unused (fun p => by simp [State.handle, starting, refuse]) quiet starting kind

/-- A request that reports leaves the state, in STARTING too. -/
theorem takeRequest_follows_of_report {owner : List Byte → State → Answered} (h : ∀ p s, (owner p s).1 = s)
    (kind length : Nat) (inStarting : Bool) (s : State) :
    (takeRequest kind length inStarting owner s).Follows s :=
  (takeRequest_completes (fun p s => by rw [h]; exact .refl s) kind length inStarting s).follows
    fun starting quiet => takeRequest_unused (fun p => by
      unfold State.handle
      repeat' split
      · rfl
      · rfl
      · exact h p _) quiet starting kind

theorem unknownKind_follows {s t : State} (h : execUnknownKind s = .next t) : t.Follows s := by
  cases h
  repeat' split
  · exact .refl s
  · exact .refl s
  · exact s.dropRequest_answer_follows _ _

/-! ### The end of STARTING -/

section
variable {choice : Option (Fin 4 × Snapshot)}

theorem Rt.sound_of_empty {rt : Rt} (h : rt.queue = []) : rt.Sound := by
  simp [Rt.Sound, Rt.Shaped, h]

/-- The carried records are EXITED, with their accounts as the snapshot has them (R76). -/
theorem Rt.afterScan_sound (h : ∀ b, choice = some b → b.2.Bounded) : (Rt.afterScan choice).Sound := by
  cases choice with
  | none => exact Rt.sound_of_empty rfl
  | some b =>
    obtain ⟨places, bounded⟩ := h b rfl
    refine ⟨by simpa [Rt.afterScan] using places, Rt.shaped_of_exited fun r hr => ?_, fun r hr => ?_⟩
    · obtain ⟨e, -, rfl⟩ := List.mem_map.mp hr
      exact ⟨rfl, rfl, rfl⟩
    · obtain ⟨e, he, rfl⟩ := List.mem_map.mp hr
      obtain ⟨dose, contact⟩ := bounded e he
      exact ⟨dose, contact, Nat.zero_le _⟩

theorem Rt.afterScan_tagsSound (h : ∀ b, choice = some b → b.2.TagsSound) :
    (Rt.afterScan choice).TagsSound := by
  cases choice with
  | none => exact tagsRun_nil
  | some b =>
    have tags := h b rfl
    simpa [Rt.TagsSound, Rt.afterScan, Snapshot.TagsSound, Function.comp_def, RackEntry.carry] using tags

theorem Rt.afterScan_inside : insideOf (Rt.afterScan choice).queue = [] := by
  refine insideOf_eq_nil fun r hr => ?_
  cases choice with
  | none => cases hr
  | some b =>
    obtain ⟨e, -, rfl⟩ := List.mem_map.mp hr
    rfl

theorem Rt.afterScan_admitted :
    (Rt.afterScan choice).admitted = BitVec.ofNat 32 (Rt.afterScan choice).queue.length := by
  cases choice <;> simp [Rt.afterScan]

end

theorem Ck.afterScan_same (ck : Ck) : ck.afterScan.slots = ck.slots ∧ ck.afterScan.write = ck.write := by
  unfold Ck.afterScan
  split
  · exact ⟨rfl, rfl⟩
  · exact ⟨rfl, rfl⟩

/-- The mode change that ends STARTING, after the restore (R170). -/
theorem State.startingEnd_completes (s : State) : s.startingEnd.Completes s.restore := by
  unfold State.startingEnd
  extract_lets q
  have entered : q.Carries s.restore :=
    (State.changeMode_attends _ (by simp) .none).carries.trans
      ((State.drainRacks_carries _).trans s.restore.announceRestore_carries)
  exact (entered.ite q.announceCheckpoint_carries).commit

theorem State.startingEnd_mode (s : State) : s.startingEnd.pmc.mode = .standby := by
  simp only [State.startingEnd, State.commit_pmc]
  split
  · simp [State.changeMode]
  · simp [State.changeMode]

theorem State.startingEnd_trigger (s : State) : s.startingEnd.ck.trigger = false := by
  simp only [State.startingEnd, State.commit_trigger]

theorem State.restore_rt (s : State) : s.restore.rt = Rt.afterScan (restoreChoice s.ck.slots) := rfl

theorem State.restore_lk (s : State) : s.restore.lk = s.lk := rfl

theorem State.restore_holds {P : Snapshot → Prop} {s : State} (h : s.ck.Holds P) : s.restore.ck.Holds P := by
  obtain ⟨slots, write⟩ := s.ck.afterScan_same
  exact h.of_same slots write

/-! The restore takes racks, tags and accounts from a snapshot of the store (R169, R76). -/

theorem State.restore_racksSound {s : State} (h : s.RacksSound) : s.restore.RacksSound := by
  rw [State.racksSound_iff] at h ⊢
  obtain ⟨-, store⟩ := h
  rw [State.restore_rt]
  exact ⟨Rt.afterScan_sound fun _ chosen => store.of_choice chosen, State.restore_holds store⟩

theorem State.restore_racksTagged {s : State} (h : s.RacksTagged) : s.restore.RacksTagged := by
  obtain ⟨-, store⟩ := h
  refine ⟨?_, State.restore_holds store⟩
  rw [State.restore_rt]
  exact Rt.afterScan_tagsSound fun _ chosen => store.of_choice chosen

theorem State.restore_racksPlaced (s : State) : s.restore.RacksPlaced := by
  rw [State.RacksPlaced, State.restore_rt, Rt.afterScan_inside]
  exact placed_nil _

theorem State.restore_racksCounted {s : State} (h : s.Unused) : s.restore.RacksCounted := by
  obtain ⟨-, -, -, outcomes, sent, -⟩ := h
  rw [State.RacksCounted, State.restore_rt, State.restore_lk, Rt.afterScan_admitted, outcomes, sent]
  simp

theorem State.startingEnd_follows {s : State} (starting : s.pmc.mode = .starting) : s.startingEnd.Follows s where
  sound h := s.startingEnd_completes.sound (State.restore_racksSound h)
  tagged h := s.startingEnd_completes.tagged (State.restore_racksTagged h)
  placed _ _ := s.startingEnd_completes.placed s.restore_racksPlaced
  counted quiet _ _ := s.startingEnd_completes.counted (State.restore_racksCounted (quiet.unused starting))
  held h := s.startingEnd_completes.held (by rwa [State.restore_lk])
  quiet _ _ := ⟨s.startingEnd_trigger, fun again => by
    rw [State.startingEnd_mode] at again
    cases again⟩

/-! ### Resets and the supply -/

/-- After a reset nothing is tracked, and the slots hold what they held, a write in flight cut (R84, R166). -/
theorem State.endReset_follows (cause : ResetCause) (strap : Baud) (s : State) :
    (s.endReset cause strap).Follows s where
  sound h := by
    rw [State.racksSound_iff] at h ⊢
    exact ⟨Rt.sound_of_empty rfl, h.2.cut.1, nofun⟩
  tagged h := ⟨tagsRun_nil, h.2.cut.1, nofun⟩
  placed _ _ := placed_nil _
  counted _ _ _ := rfl
  held _ := Lk.sendsHeld_of_idle rfl
  quiet _ _ := ⟨rfl, fun _ => ⟨rfl, rfl, rfl, rfl, rfl, rfl⟩⟩

theorem Ck.cut_write (ck : Ck) : ck.cut.write = .idle := by
  unfold Ck.cut
  split
  next idle => exact idle
  · rfl
  · rfl

theorem State.goDown_follows (p : Power) (s : State) : (s.goDown p).Follows s :=
  (s.goDown_completes p).follows fun starting quiet => by
    obtain ⟨queue, table, -, outcomes, sent, admitted⟩ := quiet.unused starting
    exact ⟨queue, table, s.ck.cut_write, outcomes, sent, admitted⟩

/-! ### Notices sent -/

/-- The arbiter counts nothing (R181). -/
theorem Lk.boundary_outcomesSent (l : Lk) : l.boundary.outcomesSent = l.outcomesSent := by
  unfold Lk.boundary
  split <;> rfl

theorem State.fillFreed_unused {s : State} (h : s.Unused) : s.fillFreed.Unused ∧ s.fillFreed.ck = s.ck := by
  have none : s.cm.table.find? (·.announce) = none := by rw [h.no_case]; rfl
  simp only [State.fillFreed, none, State.announceRestore, State.announceMode, State.announceCheckpoint]
  repeat' split
  all_goals exact ⟨h, rfl⟩

theorem State.eventSent_follows (s : State) :
    (s.setLk { s.lk with tx := .idle, events := s.lk.events.tail }).fillFreed.commit.Follows s :=
  s.eventSent_completes.follows fun starting quiet => by
    have sent : (s.setLk { s.lk with tx := .idle, events := s.lk.events.tail }).Unused := quiet.unused starting
    obtain ⟨unused, ck⟩ := State.fillFreed_unused sent
    rw [State.commit_of_untriggered (by rw [ck]; exact quiet.1)]
    exact unused

/-- An outcome that has been sent leaves its queue and is counted, and the queue refills (R80, R183). -/
theorem State.outcomeSent_follows {s : State} (sending : s.lk.isSending .outcome = true) :
    (s.setLk { s.lk with tx := .idle, outcomes := s.lk.outcomes.tail,
                         outcomesSent := s.lk.outcomesSent + 1 }).drainRacks.commit.Follows s := by
  have drained := (State.drainRacks_carries (s.setLk { s.lk with
    tx := .idle, outcomes := s.lk.outcomes.tail, outcomesSent := s.lk.outcomesSent + 1 })).commit
  have waits : s.lk.SendsHeld → s.lk.outcomes ≠ [] := fun ⟨_, _, outcome, _⟩ => outcome sending
  refine ⟨drained.sound, drained.tagged, fun _ => drained.placed, fun _ held h => drained.counted ?_,
    fun _ => drained.held (Lk.sendsHeld_of_idle rfl),
    fun held quiet => ⟨State.commit_trigger _, fun starting => ?_⟩⟩
  · obtain ⟨o, os, queue⟩ := List.exists_cons_of_ne_nil (waits held)
    rw [State.RacksCounted] at h ⊢
    have one : (1 : Word32) = BitVec.ofNat 32 1 := rfl
    simp only [State.setLk_rt, State.setLk_lk, h, queue, List.length_cons, List.tail_cons]
    rw [← Nat.add_assoc, BitVec.ofNat_add _ 1, one]
    ac_rfl
  · by_cases before : s.pmc.mode = .starting
    · obtain ⟨-, -, -, outcomes, -⟩ := quiet.unused before
      exact absurd outcomes (waits held)
    · exact absurd starting (drained.started before)

/-! ### The travel event -/

theorem State.drainRacks_of_empty {s : State} (h : s.rt.queue = []) :
    s.drainRacks.rt = s.rt ∧ s.drainRacks.lk = s.lk ∧ s.drainRacks.ck = s.ck := by
  have nothing : ∀ room, drainScan room [] = ([], []) := fun room => by cases room <;> rfl
  refine ⟨?_, ?_, ?_⟩
  · rw [State.drainRacks_rt, State.drained, h, nothing]
    exact congrArg (fun q => { s.rt with queue := q }) h.symm
  · simp [State.drainRacks_lk, State.drained, h, nothing]
  · simp [State.drainRacks, h, nothing]

/-- In STARTING a pulse moves the travel on, and there is no rack to move with it. -/
theorem State.pulse_unused {s : State} (quiet : s.Quiet) (starting : s.pmc.mode = .starting) (trackerFirst : Bool) :
    (s.pulse trackerFirst).Unused := by
  obtain ⟨queue, table, write, outcomes, sent, admitted⟩ := quiet.unused starting
  have detects : ∀ t : State, t.pmc = s.pmc → t.pulseDetectors = t := fun t same => by
    rw [State.pulseDetectors_eq, if_pos (by rw [same, starting])]
  have pulsed : s.pulse trackerFirst = s.moved.testExits.commit := by
    rw [State.pulse_eq, detects s.moved rfl, detects _ (by simp)]
    split
    · rfl
    · rfl
  have scanned : exitScan s.moved.smp.travel s.moved.contactRequired s.moved.pmc.limits s.moved.rt.queue = [] := by
    rw [State.moved_rt, queue]
    rfl
  obtain ⟨rt, lk, ck⟩ := State.drainRacks_of_empty
    (s := s.moved.setRt { s.moved.rt with
      queue := exitScan s.moved.smp.travel s.moved.contactRequired s.moved.pmc.limits s.moved.rt.queue }) scanned
  have untriggered : s.moved.testExits.ck.trigger = false := (congrArg Ck.trigger ck).trans quiet.1
  rw [pulsed, State.commit_of_untriggered untriggered]
  exact ⟨(congrArg Rt.queue rt).trans scanned, by simpa using table, (congrArg Ck.write ck).trans write,
    (congrArg Lk.outcomes lk).trans outcomes, (congrArg Lk.outcomesSent lk).trans sent,
    (congrArg Rt.admitted rt).trans admitted⟩

/-- A pulse moves every rack inside on, and those that it brings to exit_position out (R40, R63, R69). -/
theorem State.pulse_follows (trackerFirst : Bool) (s : State) : (s.pulse trackerFirst).Follows s := by
  have pulsed := s.pulse_completes trackerFirst
  obtain ⟨smp, rt, -, -, -, -, -⟩ := s.pulse_travelled trackerFirst
  refine ⟨pulsed.sound, pulsed.tagged, fun limits h => ?_, fun _ _ => pulsed.counted, pulsed.held,
    fun held quiet => ⟨pulsed.settled quiet.1, fun starting => ?_⟩⟩
  · obtain ⟨exit, step⟩ := limits
    rw [State.RacksPlaced, smp, rt]
    simp only [State.exits, insideOf_drainScan, insideOf_exitScan]
    exact Placed.pulse h step exit
  · by_cases before : s.pmc.mode = .starting
    · exact State.pulse_unused quiet before trackerFirst
    · exact absurd starting (pulsed.started before)

/-! ### Commands -/

theorem State.dwellExpiry_follows (s : State) : s.dwellExpiry.Follows s :=
  s.dwellExpiry_completes.follows fun starting quiet => by
    obtain ⟨queue, rest⟩ := quiet.unused starting
    unfold State.dwellExpiry
    split
    · exact ⟨by simp [queue], rest⟩
    · exact ⟨queue, rest⟩

theorem State.verifyComplete_follows (s : State) : s.verifyComplete.Follows s :=
  s.verifyComplete_completes.follows fun starting quiet => by
    have unused := quiet.unused starting
    obtain ⟨-, -, idle, -⟩ := quiet.unused starting
    rwa [State.verifyComplete, idle]

theorem State.eraseComplete_follows (s : State) : (s.setCk s.ck.eraseComplete).Follows s :=
  s.eraseComplete_completes.follows fun starting quiet => by
    have unused := quiet.unused starting
    obtain ⟨-, -, idle, -⟩ := quiet.unused starting
    rwa [Ck.eraseComplete, idle]

theorem State.programComplete_follows (damage : BitVec 16) (s : State) :
    (s.setCk (s.ck.programComplete damage)).Follows s :=
  (s.programComplete_completes damage).follows fun starting quiet => by
    have unused := quiet.unused starting
    obtain ⟨-, -, idle, -⟩ := quiet.unused starting
    rwa [Ck.programComplete, idle]

theorem State.tick_follows (s : State) : s.tick.Follows s :=
  s.tick_completes.follows fun starting quiet => by
    obtain ⟨queue, table, rest⟩ := quiet.unused starting
    unfold State.tick
    split
    · exact ⟨queue, by simp [table], rest⟩
    · exact ⟨queue, table, rest⟩

/-- Nothing has changed but lines, detectors and what of the cases is not the table. -/
theorem State.Follows.of_same {t s : State} (rt : t.rt = s.rt) (travel : t.smp.travel = s.smp.travel)
    (ck : t.ck = s.ck) (lk : t.lk = s.lk) (mode : t.pmc.mode = s.pmc.mode) (table : t.cm.table = s.cm.table) :
    t.Follows s :=
  State.Completes.follows (.of_carries (.of_same rt travel ck lk mode) (by rw [ck])) fun starting quiet => by
    rw [State.Unused, rt, ck, lk, table]
    exact quiet.unused starting

theorem exec_follows : ∀ (c : Instr) {s t : State}, exec c s = .next t → t.Follows s
  | .powerReset _, s, _, rfl => follows_branch _ (s.goDown_follows _) (s.endReset_follows _ _)
  | .pinReset _, s, _, rfl => follows_branch _ (s.goDown_follows _) (s.endReset_follows _ _)
  | .performRestart _, s, _, rfl => follows_ite fun _ => s.endReset_follows _ _
  | .startingEnd, s, _, rfl => follows_ite fun h =>
    State.startingEnd_follows (of_decide_eq_true (Bool.and_eq_true_iff.mp h).2)
  | .linkReset, s, _, rfl => follows_ite fun _ => s.setLk_follows rfl rfl fun _ => Lk.sendsHeld_of_idle rfl
  | .rxByte _ _, s, _, rfl => follows_ite fun _ => s.setLk_follows rfl rfl fun h => h.grow rfl id id id id
  | .frameGapTimeout, s, _, rfl => follows_ite fun _ => s.setLk_follows rfl rfl fun h => h.grow rfl id id id id
  | .unknownKind, _, _, h => unknownKind_follows h
  | .ident, _, _, rfl => takeRequest_follows_of_report (fun _ _ => rfl) ..
  | .status, _, _, rfl => takeRequest_follows_of_report (fun _ _ => rfl) ..
  | .mode, _, _, rfl => takeRequest_follows modeRequest_carries ..
  | .zoneLoad, _, _, rfl => takeRequest_follows zoneLoadRequest_carries ..
  | .chanLoad, _, _, rfl => takeRequest_follows chanLoadRequest_carries ..
  | .limitsLoad, _, _, rfl => takeRequest_follows limitsLoadRequest_carries ..
  | .zoneOn, _, _, rfl => takeRequest_follows zoneOnRequest_carries ..
  | .zoneOff, _, _, rfl => takeRequest_follows zoneOffRequest_carries ..
  | .zoneRead, _, _, rfl => takeRequest_follows_of_report zoneReadRequest_state ..
  | .linesRead, _, _, rfl => takeRequest_follows_of_report linesReadRequest_state ..
  | .racksRead, _, _, rfl => takeRequest_follows_of_report racksReadRequest_state ..
  | .caseRead, _, _, rfl => takeRequest_follows_of_report caseReadRequest_state ..
  | .caseClear, _, _, rfl => takeRequest_follows caseClearRequest_carries ..
  | .caseRetry, _, _, rfl => takeRequest_follows caseRetryRequest_carries ..
  | .haltClear, _, _, rfl => takeRequest_follows haltClearRequest_carries ..
  | .trace, _, _, rfl => takeRequest_follows traceRequest_carries ..
  | .restart, _, _, rfl => takeRequest_follows restartRequest_carries ..
  | .requestInputChange line on, s, t, h => by
    simp only [exec, execRequestInputChange] at h
    split at h
    · cases h
    · cases h
      exact follows_branch _ (.of_same rfl rfl rfl rfl rfl rfl) (.of_same rfl rfl rfl rfl rfl rfl)
  | .holdChange _, s, _, rfl => s.setLk_follows rfl rfl fun h => h.grow rfl id id id id
  | .transmitStart, s, _, rfl => follows_ite fun _ =>
    s.setLk_follows s.lk.boundary_outcomes s.lk.boundary_outcomesSent Lk.SendsHeld.boundary
  | .replySent, s, _, rfl => follows_ite fun _ => s.setLk_follows rfl rfl fun _ => Lk.sendsHeld_of_idle rfl
  | .eventNoticeSent, s, _, rfl => follows_ite fun _ => s.eventSent_follows
  | .outcomeNoticeSent, s, _, rfl => follows_ite fun h => State.outcomeSent_follows (Bool.and_eq_true_iff.mp h).2
  | .traceNoticeSent, s, _, rfl => follows_ite fun _ => s.setLk_follows rfl rfl fun _ => Lk.sendsHeld_of_idle rfl
  | .sampleRound input, s, t, h => by
    simp only [exec, execSampleRound] at h
    split at h
    · cases h
    · cases h
      exact follows_ite fun taken => (s.sampleRound_completes input).follows fun starting _ => by
        simp [starting] at taken
  | .encoderPulse _ _, s, _, rfl => follows_ite fun _ => s.pulse_follows _
  | .eraseComplete, s, _, rfl => follows_ite fun _ => s.eraseComplete_follows
  | .programComplete damage, s, _, rfl => follows_ite fun _ => s.programComplete_follows damage
  | .verifyComplete, s, _, rfl => follows_ite fun _ => s.verifyComplete_follows
  | .dwellExpiry, s, _, rfl => follows_ite fun _ => s.dwellExpiry_follows
  | .leakWindowExpiry _, s, _, rfl => follows_ite fun _ => .of_same rfl rfl rfl rfl rfl rfl
  | .encoderSilenceExpiry, s, _, rfl => follows_ite fun taken =>
    s.silenceExpiry_completes.follows fun starting _ => by
      simp [State.detecting, starting] at taken
  | .localiseExpiry, s, _, rfl => follows_ite fun _ =>
    s.localiseExpiry_completes.follows_of_no_case State.localiseExpiry_of_no_case
  | .drainTimeoutExpiry, s, _, rfl => follows_ite fun _ =>
    s.drainExpiry_completes.follows_of_no_case State.drainExpiry_of_no_case
  | .leakVerifyExpiry, s, _, rfl => follows_ite fun _ =>
    s.leakVerifyExpiry_completes.follows_of_no_case State.leakVerifyExpiry_of_no_case
  | .leakWatchExpiry, s, _, rfl => follows_ite fun _ => .of_same rfl rfl rfl rfl rfl rfl
  | .purgeExpiry zone, s, _, rfl => follows_ite fun _ =>
    (s.purgeExpiry_completes zone).follows_of_no_case fun h => State.purgeExpiry_of_no_case h zone
  | .refillExpiry zone, s, _, rfl => follows_ite fun _ =>
    (s.refillExpiry_completes zone).follows_of_no_case fun h => State.refillExpiry_of_no_case h zone
  | .powerLost, s, _, rfl => s.goDown_follows _
  | .resetPinAsserted, s, _, rfl => s.goDown_follows _
  | .breakEnd, s, _, rfl => follows_ite fun _ => s.setLk_follows rfl rfl fun h => h.grow rfl id id id id

/-- A step keeps the laws: a millisecond, or the command at the front of the queue. -/
theorem step_follows {s t : State} (h : step s = .next t) : t.Follows s := by
  unfold step at h
  split at h
  · cases h
    exact s.tick_follows
  next c rest _ =>
    obtain ⟨sound, tagged, placed, counted, held, quiet⟩ := exec_follows c h
    exact ⟨sound, tagged, placed, counted, held, quiet⟩

/-! ### The limits of travel -/

theorem Limits.default_travelSound : Limits.default.TravelSound := by
  unfold Limits.TravelSound
  decide

/-- A load keeps exit_position and mm_per_pulse within their upper limits (R4, R5). -/
theorem limitsLoadResult_travelSound (p : List Byte) {l : Limits} (h : l.TravelSound) :
    (limitsLoadResult p l).1.TravelSound := by
  obtain ⟨exit, step⟩ := h
  simp only [Limits.TravelSound, limitsLoadResult]
  rw [loadField_fst (by decide), loadField_fst (by decide)]
  split <;> split <;> omega

theorem Limits.ComeFrom.travelSound {l now : Limits} (h : l.ComeFrom now) (hn : now.TravelSound) :
    l.TravelSound := by
  obtain rfl | rfl | ⟨p, rfl⟩ := h
  · exact hn
  · exact Limits.default_travelSound
  · exact limitsLoadResult_travelSound p hn

/-! ### The racks -/

/-- Settles O30: what a step keeps of the accounts, the tags and the positions; up to 24 tags of a run differ. -/
theorem racksStaySound : Obligations.RacksStaySound := by
  unfold Obligations.RacksStaySound
  refine ⟨fun s t sound h => (step_follows h).sound sound, fun s t ordered h => ?_, fun s sound ordered => ?_⟩
  · have keeps := step_follows h
    rw [State.racksOrdered_iff] at ordered ⊢
    obtain ⟨tagged, placed, limits⟩ := ordered
    exact ⟨keeps.tagged tagged, keeps.placed limits placed, (step_limits_comeFrom h).travelSound limits⟩
  · obtain ⟨tags, -⟩ := ordered
    obtain ⟨places, -⟩ := sound
    refine tags.nodup ?_
    rw [List.length_map]
    exact places.trans (by decide)

/-- Settles O31: the count by what a command counts, with nothing tracked in STARTING and only a notice that
waits being sent. -/
theorem racksStayCounted : Obligations.RacksStayCounted := by
  unfold Obligations.RacksStayCounted
  intro s t quiet held counted h
  have keeps := step_follows h
  exact ⟨keeps.quiet held quiet, keeps.held held, keeps.counted quiet held counted⟩

end Sys2Proof.Machine
end

section
/-! PROOF. The dose increment (R86 to R90): the rate by octave and sixteenth, that it grows by every step, and
its range on the steps that a sample can give. -/

namespace Sys2Proof.Machine

/-! ### The rate -/

/-- A table entry octaveScaled by a number of octaves (R88). -/
def octaveScaled (m : Nat) (o : Int) : Nat := if 0 ≤ o then m * 2 ^ o.toNat else m / 2 ^ (-o).toNat

theorem doseRate_eq (s : Int) : doseRate s = octaveScaled (rateTable.getD (s % 16).toNat 0) (s / 16) := by
  have rest : s - 16 * (s / 16) = s % 16 := by omega
  simp only [doseRate, octaveScaled, rest]

theorem octaveScaled_mono (o : Int) {a b : Nat} (h : a ≤ b) : octaveScaled a o ≤ octaveScaled b o := by
  unfold octaveScaled
  split
  · exact Nat.mul_le_mul_right _ h
  · exact Nat.div_le_div_right h

/-- Twice the entry is the entry an octave higher. -/
theorem octaveScaled_double (m : Nat) (o : Int) : octaveScaled (m * 2) o = octaveScaled m (o + 1) := by
  unfold octaveScaled
  by_cases up : 0 ≤ o
  · have next : (o + 1).toNat = o.toNat + 1 := by omega
    rw [if_pos up, if_pos (by omega), next, pow_succ', Nat.mul_assoc]
  · obtain ⟨k, rfl⟩ : ∃ k : Nat, o = -((k : Int) + 1) := ⟨(-o - 1).toNat, by omega⟩
    have halved : m * 2 / 2 ^ (k + 1) = m / 2 ^ k := by
      rw [pow_succ, Nat.mul_div_mul_right _ _ (by decide)]
    have steps : (-(-((k : Int) + 1))).toNat = k + 1 := by omega
    rw [if_neg up, steps, halved]
    cases k with
    | zero => simp
    | succ k =>
      have fewer : (-(-(((k + 1 : Nat) : Int) + 1) + 1)).toNat = k + 1 := by omega
      rw [if_neg (by omega), fewer]

/-- The table grows from entry to entry, and its last entry is short of twice the first (R89). -/
theorem rateTable_grows : (∀ f < 15, rateTable.getD f 0 ≤ rateTable.getD (f + 1) 0)
    ∧ rateTable.getD 15 0 ≤ rateTable.getD 0 0 * 2 := by decide

/-- One step up: the next entry of the same octave, or the first entry of the next. -/
theorem doseRate_le_succ (s : Int) : doseRate s ≤ doseRate (s + 1) := by
  obtain ⟨within, across⟩ := rateTable_grows
  rw [doseRate_eq, doseRate_eq]
  by_cases last : s % 16 = 15
  · have octave : (s + 1) / 16 = s / 16 + 1 := by omega
    have first : (s + 1) % 16 = 0 := by omega
    rw [octave, first, last, ← octaveScaled_double]
    exact octaveScaled_mono _ across
  · have octave : (s + 1) / 16 = s / 16 := by omega
    have entry : ((s + 1) % 16).toNat = (s % 16).toNat + 1 := by omega
    rw [octave, entry]
    exact octaveScaled_mono _ (within _ (by omega))

theorem doseRate_monotone : Monotone doseRate := monotone_int_of_le_succ doseRate_le_succ

/-! ### The increment -/

/-- The increment that a rate gives (R90). -/
theorem doseIncrement_of_floor_le {l : Limits} {t : Nat} (h : l.doseFloor ≤ t) :
    doseIncrement l t = doseRate (doseSteps l.tRef t) * 250 / 65536 := if_neg (Nat.not_lt.mpr h)

theorem increment_mono {a b : Nat} (h : a ≤ b) : a * 250 / 65536 ≤ b * 250 / 65536 :=
  Nat.div_le_div_right (Nat.mul_le_mul_right _ h)

theorem doseSteps_mono (tRef : Nat) {t u : Nat} (h : t ≤ u) : doseSteps tRef t ≤ doseSteps tRef u := by
  unfold doseSteps
  omega

/-- Five octaves down from t_ref at the most, and short of five up (R87). -/
theorem doseSteps_range {tRef t : Nat} (high : tRef ≤ 800) (low : 400 ≤ t) :
    -80 ≤ doseSteps tRef t ∧ doseSteps tRef t ≤ 79 := by
  unfold doseSteps
  omega

/-- Settles O8: the rate grows with the steps, so its values at -80 and 79 steps bound the increment. -/
theorem doseIncrementRange : Obligations.DoseIncrementRange := by
  unfold Obligations.DoseIncrementRange
  intro l t _ high low floor
  refine ⟨fun below => if_pos below, fun above _ => ?_, ?_⟩
  · obtain ⟨least, most⟩ := doseSteps_range high (low.trans above)
    rw [doseIncrement_of_floor_le above, doseIncrement_of_floor_le (above.trans (Nat.le_succ t))]
    exact ⟨(by decide : 7 ≤ doseRate (-80) * 250 / 65536).trans (increment_mono (doseRate_monotone least)),
      (increment_mono (doseRate_monotone most)).trans (by decide : doseRate 79 * 250 / 65536 ≤ 7660),
      increment_mono (doseRate_monotone (doseSteps_mono _ (Nat.le_succ t)))⟩
  · have level : doseSteps l.tRef l.tRef = 0 := by simp [doseSteps]
    rw [doseIncrement_of_floor_le floor, level]
    decide

end Sys2Proof.Machine
end

section
/-! PROOF. Dwell control (R85, R92 to R95): the candidates, the rows of the dwell evaluation, and the expiry of
the dwell timer. -/

namespace Sys2Proof.Machine

/-! ### Candidates -/

theorem Rack.isCandidate_iff (r : Rack) (slot : SlotState) (travel : Word32) (l : Limits) :
    r.isCandidate slot travel l = true ↔
      ∃ rec, slot = .online rec ∧ r.exited = false ∧ rec.spanStart ≤ r.position travel
        ∧ r.position travel < rec.spanEnd ∧ (rec.spanEnd : Int) - l.dwellMargin ≤ r.position travel
        ∧ r.dose < l.doseRequired ∧ r.dwellExpired = false := by
  cases slot with
  | online rec => simp [Rack.isCandidate, Rack.inZone_iff, and_assoc]
  | unconfigured => simp [Rack.isCandidate]
  | offline rec => simp [Rack.isCandidate]

theorem candidates_sublist (slot : SlotState) (travel : Word32) (l : Limits) (q : List Rack) :
    (candidates slot travel l q).Sublist (q.map (·.tag)) := List.filter_sublist.map _

theorem mem_candidates {slot : SlotState} {travel : Word32} {l : Limits} {q : List Rack} {tag : Nat} :
    tag ∈ candidates slot travel l q ↔ ∃ r ∈ q, r.isCandidate slot travel l = true ∧ r.tag = tag := by
  simp [candidates, and_assoc]

/-! ### The Dose Unit at a final-zone sample -/

@[simp] theorem State.doseSample_du (z : Zone) (lines : Lines) (r : Quad Reading) (s : State) :
    (s.doseSample z lines r).du = s.du := by
  simp only [State.doseSample]
  split
  · rfl
  · rfl

section
variable {s : State} {z : Zone} (lines : Lines) (r : Quad Reading)

/-- The sample of a final zone: the increment, then in RUN the dwell evaluation (R85). -/
theorem State.finalSample_of_final {rec : ZoneRecord} (record : (s.pmc.zones.get z).slot.record = some rec)
    (final : rec.final = true) :
    s.finalSample z lines r
      = if s.pmc.mode = .run then (s.doseSample z lines r).dwellSample z else s.doseSample z lines r := by
  simp [State.finalSample, record, final]

theorem State.finalSample_of_not_final
    (other : ∀ rec, (s.pmc.zones.get z).slot.record = some rec → rec.final = false) :
    s.finalSample z lines r = s := by
  cases record : (s.pmc.zones.get z).slot.record with
  | none => simp [State.finalSample, record]
  | some rec => simp [State.finalSample, record, other rec record]

end

/-! ### The rows of the dwell evaluation -/

/-- The dwell candidates that a sample of zone z finds (R93). -/
def State.dwellFound (s : State) (z : Zone) : List Nat :=
  candidates (s.pmc.zones.get z).slot s.smp.travel s.pmc.limits s.rt.queue

/-- A dwell begins: its set and timer, and the DWELL claim (R92, R94). -/
def State.beginDwell (s : State) (z : Zone) : State :=
  (s.setDu (.active z (seconds s.pmc.limits.dwellLimit) (s.dwellFound z))).applySets
    [(.dwell, blockOn [.conveyor])]

section
variable {s : State} {z : Zone}

/-- No dwell begins without a candidate, nor with a dwell_limit of 0 (R94). -/
theorem State.dwellSample_of_idle (inactive : s.du = .inactive)
    (idle : s.dwellFound z = [] ∨ s.pmc.limits.dwellLimit = 0) : s.dwellSample z = s := by
  simp only [State.dwellFound] at idle
  simp [State.dwellSample, inactive, idle]

theorem State.dwellSample_of_begun (inactive : s.du = .inactive) (found : s.dwellFound z ≠ [])
    (limit : 0 < s.pmc.limits.dwellLimit) : s.dwellSample z = s.beginDwell z := by
  simp only [State.dwellFound] at found
  simp [State.dwellSample, inactive, found, Nat.ne_of_gt limit, State.beginDwell, State.dwellFound, dwellClaims]

/-- A dwell on the zone takes the new set and keeps its timer (R94). -/
theorem State.dwellSample_of_renewed {timer : Nat} {old : List Nat} (active : s.du = .active z timer old)
    (found : s.dwellFound z ≠ []) : s.dwellSample z = s.setDu (.active z timer (s.dwellFound z)) := by
  simp only [State.dwellFound] at found
  simp [State.dwellSample, active, found, State.dwellFound]

theorem State.dwellSample_of_emptied {timer : Nat} {old : List Nat} (active : s.du = .active z timer old)
    (empty : s.dwellFound z = []) : s.dwellSample z = s.endDwell := by
  simp only [State.dwellFound] at empty
  simp [State.dwellSample, active, empty]

/-- A dwell on another zone is left as it is (R94). -/
theorem State.dwellSample_of_other {dz : Zone} {timer : Nat} {old : List Nat} (other : dz ≠ z)
    (active : s.du = .active dz timer old) : s.dwellSample z = s := by
  simp [State.dwellSample, active, other]

end

theorem State.beginDwell_claimOf (s : State) (z : Zone) :
    (s.beginDwell z).lg.claimOf .dwell .conveyor = some .block := by
  simp [State.beginDwell]

/-- Settles O9: the candidates by membership, the evaluation row by row of the dwell state. -/
theorem dwellEvaluation : Obligations.DwellEvaluation := by
  unfold Obligations.DwellEvaluation
  intro s z found
  refine ⟨candidates_sublist _ _ _ _, fun tag => ?_, fun lines readings => ⟨?_, ?_, ?_, ?_⟩,
    fun inactive empty => State.dwellSample_of_idle inactive (.inl empty),
    fun inactive zero => State.dwellSample_of_idle inactive (.inr zero), fun inactive nonempty limit => ?_,
    fun timer old active => ⟨State.dwellSample_of_renewed active, fun empty => ?_⟩,
    fun dz timer old => State.dwellSample_of_other⟩
  · simp only [found, mem_candidates, Rack.isCandidate_iff]
    constructor
    · rintro ⟨r, mem, ⟨rec, candidate⟩, tagged⟩
      exact ⟨r, mem, rec, tagged, candidate⟩
    · rintro ⟨r, mem, rec, tagged, candidate⟩
      exact ⟨r, mem, ⟨rec, candidate⟩, tagged⟩
  · exact fun rec record final run => by rw [State.finalSample_of_final _ _ record final, if_pos run]
  · exact fun rec record final other => by rw [State.finalSample_of_final _ _ record final, if_neg other]
  · exact State.finalSample_of_not_final lines readings
  · exact s.doseSample_du z lines readings
  · rw [State.dwellSample_of_begun inactive nonempty limit]
    exact ⟨rfl, s.beginDwell_claimOf z, rfl⟩
  · rw [State.dwellSample_of_emptied active empty]
    exact ⟨rfl, by simp [State.endDwell_claimOf], rfl⟩

/-! ### The expiry of the dwell timer -/

/-- The state with the records of a candidate set that are not EXITED flagged DWELL_EXPIRED (R95). -/
def State.flagExpired (s : State) (tags : List Nat) : State :=
  s.setRt { s.rt with queue := s.rt.queue.map (Rack.expireDwell tags) }

theorem exec_dwellExpiry {s : State} (live : s.live = true) :
    exec .dwellExpiry s = .next s.dwellExpiry := by
  simp [exec, execDwellExpiry, live]

theorem State.dwellExpiry_of_inactive {s : State} (inactive : s.du = .inactive) : s.dwellExpiry = s := by
  simp [State.dwellExpiry, inactive]

theorem State.dwellExpiry_of_running {s : State} {z : Zone} {ms : Nat} {tags : List Nat}
    (running : s.du = .active z (ms + 1) tags) : s.dwellExpiry = s := by
  simp [State.dwellExpiry, running]

theorem State.dwellExpiry_of_due {s : State} {z : Zone} {tags : List Nat} (due : s.du = .active z 0 tags) :
    s.dwellExpiry = (s.flagExpired tags).endDwell := by
  simp [State.dwellExpiry, due, State.flagExpired]

/-- A dwell claims the CONVEYOR alone (R56), so its end leaves the FILL and DRAIN drives, and with them the
detectors of the tanks. -/
theorem State.endDwell_tanks {s : State} (stands : s.ClaimsStand) : s.endDwell.fd.tanks = s.fd.tanks := by
  have same : ∀ id : LineId, id ≠ .conveyor → (s.lg.applySets [(.dwell, [])]).get id = s.lg.get id := by
    intro id other
    apply Lines.applySets_get_of_stands
    rw [stands .dwell id, State.ownerWants]
    cases s.du <;> simp [dwellClaims, other]
  have drive : ∀ id : LineId, id ≠ .conveyor → (s.lg.applySets [(.dwell, [])]).drive id = s.lg.drive id :=
    fun id other => congrArg Line.drive (same id other)
  have kept : ∀ w (t : Tank), t.drivesChanged s.lg (s.lg.applySets [(.dwell, [])]) w = t := fun w t => by
    simp [Tank.drivesChanged, drive]
  simp [State.endDwell, State.applySets, Fd.drivesChanged, kept]

/-- Settles O10: where the timer stands at 0 the records are flagged and the dwell ends; else nothing
expires. -/
theorem dwellExpiryFlags : Obligations.DwellExpiryFlags := by
  unfold Obligations.DwellExpiryFlags
  intro s live
  rw [exec_dwellExpiry live]
  refine ⟨fun inactive => ?_, fun z ms tags running => ?_, fun z tags due => ?_⟩
  · rw [State.dwellExpiry_of_inactive inactive]
  · rw [State.dwellExpiry_of_running running]
  · rw [State.dwellExpiry_of_due due]
    have stands : s.ClaimsStand → (s.flagExpired tags).ClaimsStand := fun h => h
    exact ⟨_, rfl, rfl, fun id => by simp [State.endDwell_claimOf],
      fun o id other => by rw [State.endDwell_claimOf, if_neg other]; rfl,
      rfl, rfl, rfl, rfl, rfl, rfl, fun h => State.endDwell_tanks (stands h), ⟨rfl, rfl, rfl⟩⟩

end Sys2Proof.Machine
end

section
/-! PROOF. The detectors of a tank (R104 to R110): the counts and what makes them trip, the detections of one
zone sample in their order, the level decline detector, and the expiry of its window. -/

namespace Sys2Proof.Machine

/-! ### Readings -/

theorem Reading.reported_of_held {reading : Reading} {v : Nat} (h : reading = .valid v ∨ reading = .stale v) :
    reading.reported = v := by
  obtain rfl | rfl := h <;> rfl

theorem Reading.trusted_eq_none {reading : Reading} : reading.trusted = none ↔ ∀ v, reading ≠ .valid v := by
  cases reading <;> simp [Reading.trusted]

/-- A value that a reading holds is the only one. -/
theorem Reading.exists_held_iff {reading : Reading} {v : Nat} (h : reading = .valid v ∨ reading = .stale v)
    (p : Nat → Prop) : (∃ w, (reading = .valid w ∨ reading = .stale w) ∧ p w) ↔ p v := by
  obtain rfl | rfl := h <;> simp

theorem Reading.not_exists_held {reading : Reading} (h : reading = .unknown) (p : Nat → Prop) :
    ¬ ∃ w, (reading = .valid w ∨ reading = .stale w) ∧ p w := by
  simp [h]

/-! ### Counts -/

theorem countTo_of_fails (needed count : Nat) : countTo needed count false = (0, false) := rfl

/-- A count trips where its condition holds at one sample more than it stands for. -/
theorem countTo_trips {needed count : Nat} {condition : Bool} :
    (countTo (needed + 1) count condition).2 = true ↔ condition = true ∧ needed ≤ count := by
  unfold countTo
  split
  · split <;> simp_all
  · simp_all

/-- A count that stands short of its trip, and the detection that its trip makes: while the condition holds the
count goes up or trips, else it goes back to 0 and nothing is found. -/
theorem countTo_detects {needed count : Nat} {condition : Bool} {P : Prop} {found : Nat → Prop} {value : Nat}
    (holds : condition = true ↔ P) (short : count ≤ needed)
    (finds : ∀ i, found i ↔ (countTo (needed + 1) count condition).2 = true ∧ i = value) :
    (P → (countTo (needed + 1) count condition).1 = (if count = needed then 0 else count + 1)
        ∧ ((∃ i, found i) ↔ count = needed))
      ∧ (¬P → (countTo (needed + 1) count condition).1 = 0 ∧ ∀ i, ¬found i) := by
  refine ⟨fun h => ⟨?_, ?_⟩, fun h => ?_⟩
  · rw [countTo, if_pos (holds.mpr h)]
    by_cases full : count = needed
    · simp [full]
    · have : ¬needed + 1 ≤ count + 1 := by omega
      simp [full, this]
  · simp only [finds, countTo_trips, holds, h, true_and, exists_and_left, exists_eq, and_true]
    exact ⟨Nat.le_antisymm short, fun full => full.ge⟩
  · obtain rfl : condition = false := by simpa [← holds] using h
    exact ⟨rfl, fun i mem => by simpa [countTo_of_fails] using (finds i).mp mem⟩

/-! ### The conditions -/

section
variable (lines : Lines) (z : Zone) (rec : ZoneRecord) (reading : Reading)

theorem filterHigh_iff :
    filterHigh lines z rec reading = true ↔ lines.drive (.pump z) = true
      ∧ ∃ v, (reading = .valid v ∨ reading = .stale v) ∧ rec.filterThreshold ≤ v := by
  cases reading <;> simp [filterHigh, Reading.judged]

theorem openLow_iff :
    openLow lines z rec reading = true ↔ 1 ≤ lines.driven z
      ∧ ∃ v, (reading = .valid v ∨ reading = .stale v)
        ∧ v < openThreshold (lines.driven z) rec.elementCurrent := by
  cases reading <;> simp [openLow, Reading.judged]

theorem stuckHigh_iff :
    stuckHigh lines z rec reading = true ↔ lines.driven z = 0
      ∧ ∃ v, (reading = .valid v ∨ reading = .stale v) ∧ halfElement rec.elementCurrent ≤ v := by
  cases reading <;> simp [stuckHigh, Reading.judged]

theorem overHot_iff :
    overHot rec reading = true ↔ ∃ v, (reading = .valid v ∨ reading = .stale v) ∧ rec.tMax ≤ v := by
  cases reading <;> simp [overHot, Reading.judged]

end

/-! ### The detections of one sample -/

section
variable (lines : Lines) (z : Zone) (rec : ZoneRecord) (window : Nat) (r : Quad Reading) (t : Tank)

/-- The HEATER_STUCK detection of a sample, if there is one (R109). -/
def Tank.stuckTrip : List Detection :=
  if (countTo 3 t.stuckCount (stuckHigh lines z rec r.current)).2 then [.heaterStuck z r.current.reported] else []

/-- The LEAK detection of a sample (R105). -/
def Tank.leakTrip : List Detection :=
  ((levelDetector lines z rec window t.level r.level).2.map fun trip => .leakTank z trip.1 trip.2).toList

/-- The OVERTEMP detection of a sample (R110). -/
def Tank.hotTrip : List Detection :=
  if (countTo 2 t.overtempCount (overHot rec r.temp)).2 then [.overtemp z r.temp.reported] else []

/-- The FILTER detection of a sample (R107). -/
def Tank.filterTrip : List Detection :=
  if (countTo 8 t.filterCount (filterHigh lines z rec r.pressure)).2 then [.filter z r.pressure.reported] else []

/-- The HEATER_OPEN detection of a sample (R108). -/
def Tank.openTrip : List Detection :=
  if (countTo 3 t.openCount (openLow lines z rec r.current)).2 then
    [.heaterOpen z (lines.driven z) r.current.reported] else []

/-- The order of R102. -/
theorem Tank.sample_detections :
    (t.sample lines z rec window r).2
      = t.stuckTrip lines z rec r ++ t.leakTrip lines z rec window r ++ t.hotTrip z rec r
        ++ t.filterTrip lines z rec r ++ t.openTrip lines z rec r := by
  simp only [Tank.sample, Tank.leakTrip]
  cases (levelDetector lines z rec window t.level r.level).2 <;> rfl

variable {lines z rec window r t} {d : Detection}

theorem Tank.mem_leakTrip : d ∈ t.leakTrip lines z rec window r
    ↔ ∃ ref v, (levelDetector lines z rec window t.level r.level).2 = some (ref, v) ∧ d = .leakTank z ref v := by
  simp [Tank.leakTrip, eq_comm]

/-- A sample makes the detections of the detectors that trip, and no others. -/
theorem Tank.mem_sample : d ∈ (t.sample lines z rec window r).2
    ↔ ((countTo 3 t.stuckCount (stuckHigh lines z rec r.current)).2 = true ∧ d = .heaterStuck z r.current.reported)
      ∨ (∃ ref v, (levelDetector lines z rec window t.level r.level).2 = some (ref, v) ∧ d = .leakTank z ref v)
      ∨ ((countTo 2 t.overtempCount (overHot rec r.temp)).2 = true ∧ d = .overtemp z r.temp.reported)
      ∨ ((countTo 8 t.filterCount (filterHigh lines z rec r.pressure)).2 = true
          ∧ d = .filter z r.pressure.reported)
      ∨ ((countTo 3 t.openCount (openLow lines z rec r.current)).2 = true
          ∧ d = .heaterOpen z (lines.driven z) r.current.reported) := by
  simp only [Tank.sample_detections, List.mem_append, or_assoc, Tank.mem_leakTrip, Tank.stuckTrip, Tank.hotTrip,
    Tank.filterTrip, Tank.openTrip, List.mem_ite_nil_right, List.mem_singleton]

/-! Each kind of detection comes of its own detector. -/

theorem Tank.stuck_mem_sample {i : Nat} : .heaterStuck z i ∈ (t.sample lines z rec window r).2
    ↔ (countTo 3 t.stuckCount (stuckHigh lines z rec r.current)).2 = true ∧ i = r.current.reported := by
  simp [Tank.mem_sample]

theorem Tank.leak_mem_sample {ref v : Nat} : .leakTank z ref v ∈ (t.sample lines z rec window r).2
    ↔ (levelDetector lines z rec window t.level r.level).2 = some (ref, v) := by
  simp [Tank.mem_sample]

theorem Tank.hot_mem_sample {v : Nat} : .overtemp z v ∈ (t.sample lines z rec window r).2
    ↔ (countTo 2 t.overtempCount (overHot rec r.temp)).2 = true ∧ v = r.temp.reported := by
  simp [Tank.mem_sample]

theorem Tank.filter_mem_sample {p : Nat} : .filter z p ∈ (t.sample lines z rec window r).2
    ↔ (countTo 8 t.filterCount (filterHigh lines z rec r.pressure)).2 = true ∧ p = r.pressure.reported := by
  simp [Tank.mem_sample]

theorem Tank.open_mem_sample {i : Nat} : .heaterOpen z (lines.driven z) i ∈ (t.sample lines z rec window r).2
    ↔ (countTo 3 t.openCount (openLow lines z rec r.current)).2 = true ∧ i = r.current.reported := by
  simp [Tank.mem_sample]

/-- A HEATER_OPEN detection names the number of driven elements (R108). -/
theorem Tank.driven_of_open_mem_sample {k i : Nat}
    (mem : .heaterOpen z k i ∈ (t.sample lines z rec window r).2) : k = lines.driven z := by
  have own := Tank.mem_sample.mp mem
  simp only [Detection.heaterOpen.injEq, reduceCtorEq, true_and, and_false, exists_false, false_or] at own
  obtain ⟨-, same, -⟩ := own
  exact same

/-! A detection of a detector that counts, on the value its reading holds. -/

theorem Tank.stuckTrip_of_held {v : Nat} (h : r.current = .valid v ∨ r.current = .stale v) :
    t.stuckTrip lines z rec r
      = if lines.driven z = 0 ∧ halfElement rec.elementCurrent ≤ v ∧ 2 ≤ t.stuckCount then [.heaterStuck z v]
        else [] := by
  simp only [Tank.stuckTrip, countTo_trips, stuckHigh_iff, Reading.exists_held_iff h,
    Reading.reported_of_held h, and_assoc]

theorem Tank.openTrip_of_held {v : Nat} (h : r.current = .valid v ∨ r.current = .stale v) :
    t.openTrip lines z rec r
      = if 1 ≤ lines.driven z ∧ v < openThreshold (lines.driven z) rec.elementCurrent ∧ 2 ≤ t.openCount then
          [.heaterOpen z (lines.driven z) v]
        else [] := by
  simp only [Tank.openTrip, countTo_trips, openLow_iff, Reading.exists_held_iff h,
    Reading.reported_of_held h, and_assoc]

theorem Tank.hotTrip_of_held {v : Nat} (h : r.temp = .valid v ∨ r.temp = .stale v) :
    t.hotTrip z rec r = if rec.tMax ≤ v ∧ 1 ≤ t.overtempCount then [.overtemp z v] else [] := by
  simp only [Tank.hotTrip, countTo_trips, overHot_iff, Reading.exists_held_iff h, Reading.reported_of_held h]

theorem Tank.filterTrip_of_held {v : Nat} (h : r.pressure = .valid v ∨ r.pressure = .stale v) :
    t.filterTrip lines z rec r
      = if lines.drive (.pump z) = true ∧ rec.filterThreshold ≤ v ∧ 7 ≤ t.filterCount then [.filter z v]
        else [] := by
  simp only [Tank.filterTrip, countTo_trips, filterHigh_iff, Reading.exists_held_iff h,
    Reading.reported_of_held h, and_assoc]

/-! Without a value there is no detection (R35). -/

theorem Tank.stuckTrip_of_unknown (h : r.current = .unknown) : t.stuckTrip lines z rec r = [] := by
  simp [Tank.stuckTrip, countTo_trips, stuckHigh_iff, Reading.not_exists_held h]

theorem Tank.openTrip_of_unknown (h : r.current = .unknown) : t.openTrip lines z rec r = [] := by
  simp [Tank.openTrip, countTo_trips, openLow_iff, Reading.not_exists_held h]

theorem Tank.hotTrip_of_unknown (h : r.temp = .unknown) : t.hotTrip z rec r = [] := by
  simp [Tank.hotTrip, countTo_trips, overHot_iff, Reading.not_exists_held h]

theorem Tank.filterTrip_of_unknown (h : r.pressure = .unknown) : t.filterTrip lines z rec r = [] := by
  simp [Tank.filterTrip, countTo_trips, filterHigh_iff, Reading.not_exists_held h]

end

/-- Settles O34: each count by its condition, each detection by its own detector, in the order of R102. -/
theorem detectorCounts : Obligations.DetectorCounts := by
  unfold Obligations.DetectorCounts
  intro lines z rec window r t out k high low flowing hot
  refine ⟨fun filterShort openShort stuckShort hotShort => ?_, ?_⟩
  · obtain ⟨filterHolds, filterFails⟩ :=
      countTo_detects (filterHigh_iff lines z rec r.pressure) filterShort
        fun _ => Tank.filter_mem_sample (window := window)
    obtain ⟨openHolds, openFails⟩ :=
      countTo_detects (openLow_iff lines z rec r.current) openShort
        fun _ => Tank.open_mem_sample (window := window)
    obtain ⟨stuckHolds, stuckFails⟩ :=
      countTo_detects (stuckHigh_iff lines z rec r.current) stuckShort
        fun _ => Tank.stuck_mem_sample (window := window)
    obtain ⟨hotHolds, hotFails⟩ :=
      countTo_detects (overHot_iff rec r.temp) hotShort
        fun _ => Tank.hot_mem_sample (lines := lines) (z := z) (window := window)
    refine ⟨filterHolds, filterFails, openHolds, fun fails => ?_, stuckHolds, stuckFails, hotHolds, hotFails⟩
    obtain ⟨count, none⟩ := openFails fails
    exact ⟨count, fun n i mem => none i (Tank.driven_of_open_mem_sample mem ▸ mem)⟩
  · refine ⟨_, _, _, _, _, t.sample_detections lines z rec window r, ?_, fun d mem => ?_,
      fun v held => ⟨Tank.stuckTrip_of_held held, Tank.openTrip_of_held held⟩,
      fun unknown => ⟨Tank.stuckTrip_of_unknown unknown, Tank.openTrip_of_unknown unknown⟩,
      fun v held => Tank.hotTrip_of_held held, Tank.hotTrip_of_unknown,
      fun v held => Tank.filterTrip_of_held held, Tank.filterTrip_of_unknown⟩
    · rw [Tank.leakTrip]
      cases (levelDetector lines z rec window t.level r.level).2 <;> simp
    · obtain ⟨ref, v, -, rfl⟩ := Tank.mem_leakTrip.mp mem
      exact ⟨ref, v, rfl⟩

/-! ### The level decline detector -/

section
variable {lines : Lines} {z : Zone} {rec : ZoneRecord} {window : Nat} {level : Reading}

/-- With FILL and DRAIN off a VALID level arms the detector (R104). -/
theorem levelDetector_arms {v : Nat} (valid : level = .valid v) (fill : lines.drive (.fill z) = false)
    (drain : lines.drive (.drain z) = false) :
    levelDetector lines z rec window none level = (some { reference := v, window := seconds window }, none) := by
  simp [levelDetector, valid, Reading.trusted, fill, drain]

/-- A detector that is not armed does not trip (R105). -/
theorem levelDetector_unarmed_trip : (levelDetector lines z rec window none level).2 = none := by
  unfold levelDetector
  simp only
  repeat' split
  all_goals rfl

theorem levelDetector_stays_unarmed
    (h : (∀ v, level ≠ .valid v) ∨ lines.drive (.fill z) = true ∨ lines.drive (.drain z) = true) :
    levelDetector lines z rec window none level = (none, none) := by
  obtain invalid | driven := h
  · simp [levelDetector, Reading.trusted_eq_none.mpr invalid]
  · cases trusted : level.trusted <;> obtain on | on := driven <;> simp [levelDetector, trusted, on]

variable {w : LevelWatch}

/-- An armed detector without a level is disarmed (R104). -/
theorem levelDetector_disarms (unknown : level = .unknown) :
    levelDetector lines z rec window (some w) level = (none, none) := by
  simp [levelDetector, unknown, Reading.judged]

/-- An armed detector trips on a decline of the threshold or more, and starts afresh from the level (R105). -/
theorem levelDetector_armed {v : Nat} (held : level = .valid v ∨ level = .stale v) :
    levelDetector lines z rec window (some w) level
      = if rec.leakThreshold + v ≤ w.reference then
          (some { reference := v, window := seconds window }, some (w.reference, v))
        else (some w, none) := by
  simp only [levelDetector, Reading.judged_of_held held, Nat.add_comm v]

end

theorem Tank.sample_level (lines : Lines) (z : Zone) (rec : ZoneRecord) (window : Nat) (r : Quad Reading)
    (t : Tank) :
    (t.sample lines z rec window r).1.level = (levelDetector lines z rec window t.level r.level).1 := rfl

/-- Settles O35: by the detector armed or not, and by what its channel holds. -/
theorem levelDeclineDetector : Obligations.LevelDeclineDetector := by
  unfold Obligations.LevelDeclineDetector
  intro lines z rec window r t out
  simp only [out, Tank.sample_level, Tank.leak_mem_sample]
  refine ⟨fun unarmed => ?_, fun w armed => ?_⟩
  · rw [unarmed]
    refine ⟨fun v valid fill drain => ?_, fun off => ?_, fun ref v => ?_⟩
    · rw [levelDetector_arms valid fill drain]
      rfl
    · rw [levelDetector_stays_unarmed off]
    · simp [levelDetector_unarmed_trip]
  · rw [armed]
    refine ⟨fun unknown => ?_, fun v held => ⟨fun declined => ?_, fun above => ?_⟩⟩
    · simp [levelDetector_disarms unknown]
    · rw [levelDetector_armed held, if_pos declined]
      exact ⟨rfl, rfl⟩
    · rw [levelDetector_armed held, if_neg (Nat.not_le.mpr above)]
      exact ⟨rfl, by simp⟩

/-! ### The leak window -/

theorem Four.set_get_self {α : Type} (v : Four α) (i : Fin 4) : v.set i (v.get i) = v := by
  fin_cases i <;> rfl

theorem Tank.windowExpired_of_unarmed {t : Tank} (unarmed : t.level = none) (window : Nat) (level : Reading) :
    t.windowExpired window level = t := by
  simp [Tank.windowExpired, unarmed]

theorem Tank.windowExpired_of_running {t : Tank} {w : LevelWatch} (armed : t.level = some w)
    (running : w.window ≠ 0) (window : Nat) (level : Reading) : t.windowExpired window level = t := by
  simp [Tank.windowExpired, armed, running]

/-- With no time left the reference is the value that the level channel holds (R106). -/
theorem Tank.windowExpired_of_due {t : Tank} {w : LevelWatch} {level : Reading} {v : Nat}
    (armed : t.level = some w) (due : w.window = 0) (held : level = .valid v ∨ level = .stale v) (window : Nat) :
    t.windowExpired window level = { t with level := some { reference := v, window := seconds window } } := by
  simp [Tank.windowExpired, armed, due, Reading.judged_of_held held]

theorem State.detecting_of_live {s : State} (live : s.live = true) (real : s.pmc.mode ≠ .starting) :
    s.detecting = true := by
  simp [State.detecting, live, real]

theorem exec_leakWindowExpiry {s : State} (detecting : s.detecting = true) (z : Zone) :
    exec (.leakWindowExpiry z) s = .next (s.leakWindowExpiry z) := by
  simp [exec, execLeakWindowExpiry, detecting]

/-- The detectors of a tank that stay make an expiry of its window without effect. -/
theorem State.leakWindowExpiry_of_same {s : State} {z : Zone}
    (same : ∀ window level, (s.fd.tanks.get z).windowExpired window level = s.fd.tanks.get z) :
    s.leakWindowExpiry z = s := by
  rw [State.leakWindowExpiry, same, Four.set_get_self]
  rfl

/-- Settles O36: the detector not armed, its window with time left, its window at 0. -/
theorem leakWindowTakesReference : Obligations.LeakWindowTakesReference := by
  unfold Obligations.LeakWindowTakesReference
  intro s z live real
  rw [exec_leakWindowExpiry (State.detecting_of_live live real)]
  refine ⟨fun unarmed => ?_, fun w armed running => ?_, fun w v armed due held => ⟨_, rfl, ?_, ?_, rfl, rfl⟩⟩
  · rw [State.leakWindowExpiry_of_same (Tank.windowExpired_of_unarmed unarmed)]
  · rw [State.leakWindowExpiry_of_same (Tank.windowExpired_of_running armed running)]
  · simp [State.leakWindowExpiry, Tank.windowExpired_of_due armed due held, seconds]
  · exact fun z' other => by simp [State.leakWindowExpiry, other]

end Sys2Proof.Machine
end

section
/-! PROOF. The encoder silence timer (R79, R112, R113, R123, R157): its expiry, the TRAVEL case that it opens,
and its delivery to the TRAVEL case there is. -/

namespace Sys2Proof.Machine

/-! ### Claims that stand, set again -/

theorem Lines.ext_get {a b : Lines} (h : ∀ id, a.get id = b.get id) : a = b :=
  congrArg Lines.build (funext h)

theorem QuietDrives.refl (ls : Lines) : QuietDrives ls ls := ⟨fun _ => id, fun _ => id, rfl⟩

/-- A set that asks everywhere for what its owner has changes nothing (R47, R50). -/
theorem State.applySets_of_stands {s : State} {o : Owner} {cs : ClaimSet}
    (h : ∀ id, s.lg.claimsOf o id = (cs.on id).toList) : s.applySets [(o, cs)] = s := by
  have same : s.lg.applySets [(o, cs)] = s.lg :=
    Lines.ext_get fun id => Lines.applySets_get_of_stands (h id)
  simp only [State.applySets, same, Fd.drivesChanged_of_quiet (.refl s.lg)]

/-- A record that keeps the state, the step and the claims of its case is put in its place, and its claims
are set again (R134). -/
theorem State.changeCase_self (s : State) (c : Case) :
    s.changeCase c c = (s.putCase c).applySets [(.ofCase c.id, c.posted)] := by
  have links : ∀ q : State, q.linkGainedPumps (some c) c = q := fun q => by
    simp [State.linkGainedPumps, Four.indices]
  have marks : c.gainedMarks c = [] := by simp [Case.gainedMarks]
  simp [State.changeCase, State.settleAfter, State.alterCase, links, marks]

/-! ### The TRAVEL case -/

section
variable {c : Case} (travel : c.proc = .travel)
include travel

/-- A TRAVEL case claims nothing (R157). -/
theorem Case.posted_of_travel : c.posted = [] := by
  simp [Case.posted, Case.wanted, ClaimSet.ofKind, travel]

theorem Case.marks_of_travel : c.marks = [] := by
  simp [Case.marks, travel]

theorem Case.leakHandling_of_travel : c.leakHandling = false := by
  simp [Case.leakHandling, travel, Proc.kind]

/-- A TRAVEL detection delivered adds to the recurrence alone (R123, R157). -/
theorem Case.deliver_of_travel (d : Detection) (l : Limits) : c.deliver d l = c := by
  simp [Case.deliver, travel]

theorem Case.takes_travel_iff : c.takes .travel = true ↔ c.isResolved = false := by
  simp [Case.takes, travel, Proc.key]

end

/-- A case with its recurrence one up, 255 at the most (R123). -/
def Case.recurred (c : Case) : Case := { c with recurrence := min (c.recurrence + 1) 255 }

theorem State.deliver_travel {s : State} {c : Case} (once : (s.cm.table.map (·.id)).Nodup)
    (mem : c ∈ s.cm.table) (travel : c.proc = .travel) (claims : s.ClaimsStand) :
    s.deliver .travel c = s.putCase c.recurred := by
  have same : c.recurred.deliver .travel s.pmc.limits = c.recurred :=
    Case.deliver_of_travel (c := c.recurred) travel _ _
  have none : ∀ id, s.lg.claimsOf (.ofCase c.id) id = (ClaimSet.on [] id).toList := fun id => by
    rw [claims, State.ownerWants_ofCase, findCase_of_mem once mem, Option.map_some, Option.getD_some,
      Case.posted_of_travel travel]
  have set : (s.putCase c.recurred).applySets [(.ofCase c.id, c.recurred.posted)] = s.putCase c.recurred := by
    rw [Case.posted_of_travel (c := c.recurred) travel]
    exact State.applySets_of_stands none
  calc s.deliver .travel c = s.changeCase c.recurred (c.recurred.deliver .travel s.pmc.limits) := rfl
    _ = (s.putCase c.recurred).applySets [(.ofCase c.id, c.recurred.posted)] := by
      rw [same, State.changeCase_self]
      rfl
    _ = s.putCase c.recurred := set

/-- Where each id stands once, putting the recurred record changes that of its id alone (R118). -/
theorem replaceCase_recurred {table : List Case} (once : (table.map (·.id)).Nodup) {c : Case} (mem : c ∈ table) :
    replaceCase table c.recurred = table.map fun o => if o.id = c.id then o.recurred else o :=
  List.map_congr_left fun o ho => by
    by_cases own : o.id = c.id
    · obtain rfl := eq_of_mem_of_id once mem ho own
      rfl
    · exact (if_neg own).trans (if_neg own).symm

/-! ### The opening of a TRAVEL case -/

/-- The record that a TRAVEL detection opens (R121, R157). -/
def State.travelOpening (s : State) : Case :=
  let bare := openingCase .travel (freeCaseId s.cm.table 255 s.cm.nextId) s.cm.uptime s.lg s.pmc s.smp
  { bare with suspended := bare.heldBack s.pmc.mode (s.cm.table ++ [bare]) }

/-- The table with that record at its end. -/
def State.withTravelCase (s : State) : State :=
  s.setCm { s.cm with table := s.cm.table ++ [s.travelOpening], nextId := caseIdAfter s.travelOpening.id }

/-- The state with suspension evaluated, the claims set (there are none) and the travel-lost report made; only
the announcement is still to come (R121, R79). -/
def State.travelReported (s : State) : State :=
  (s.withTravelCase.evaluateSuspension.applySets [(.ofCase s.travelOpening.id, [])]).setRt s.rt.travelLost

theorem State.openCase_travel (s : State) :
    s.openCase .travel = (s.travelReported.announceCase s.travelOpening).trigger := by
  have travel : s.travelOpening.proc = .travel := rfl
  have posted := Case.posted_of_travel travel
  unfold State.openCase
  extract_lets id bare new cm s1 s2 s3 s4 s5 s6 s7
  have set : s3 = s2.applySets [(.ofCase id, [])] := congrArg (fun cs => s2.applySets [(.ofCase id, cs)]) posted
  have links : s4 = s3 := State.linkGainedPumps_of_posted_nil posted none s3
  have linked : s5 = s4 := if_neg (Bool.eq_false_iff.mp (Case.leakHandling_of_travel travel))
  have rt : s3.rt = s.rt := by simp [s3, s2, s1]
  have marked : s7 = s6 := congrArg (List.foldl (State.addMarker id) s6) (Case.marks_of_travel travel)
  have reported : s7 = s.travelReported := calc
    s7 = s5.setRt s5.rt.travelLost := marked
    _ = s3.setRt s.rt.travelLost := by rw [linked, links, rt]
    _ = s.travelReported := by rw [set]; rfl
  rw [reported]
  rfl

section
variable {s : State}

/-- The opening reports the travel lost (R79). -/
theorem State.openCase_travel_rt : (s.openCase .travel).rt = s.rt.travelLost := by
  rw [State.openCase_travel, State.trigger_rt, State.announceCase_rt]
  rfl

theorem State.openCase_travel_pmc : (s.openCase .travel).pmc = s.pmc := by
  simp [State.openCase_travel, State.travelReported, State.withTravelCase]

theorem State.travelReported_cm : s.travelReported.cm = s.withTravelCase.evaluateSuspension.cm := by
  simp [State.travelReported]

/-- The new record has an id of its own (R118, R121). -/
theorem State.withTravelCase_once (once : (s.cm.table.map (·.id)).Nodup) (room : s.cm.table.length < casePlaces) :
    (s.withTravelCase.cm.table.map (·.id)).Nodup := by
  have fresh : s.travelOpening.id ∉ s.cm.table.map (·.id) := freeCaseId_fresh room _
  rw [State.withTravelCase, State.setCm_cm, List.map_append, List.map_singleton, ← List.concat_eq_append]
  exact once.concat fresh

/-- The table holds the TRAVEL case that opens, with its announcement made or waiting (R121, R131). -/
theorem State.openCase_travel_mem (once : (s.cm.table.map (·.id)).Nodup)
    (room : s.cm.table.length < casePlaces) :
    ∃ b, { s.travelOpening with announce := b } ∈ (s.openCase .travel).cm.table := by
  obtain ⟨old, mem, same⟩ := foldl_suspendOrResume_keeps (s.withTravelCase.cm.table.map (·.id))
    (State.withTravelCase_once once room) (o := s.travelOpening)
    (List.mem_append_right _ (List.mem_singleton_self _)) rfl
  have id : old.id = s.travelOpening.id := by simpa [Case.bare] using congrArg Case.id same
  have put : ∀ b, { s.travelOpening with announce := b }
      ∈ replaceCase s.travelReported.cm.table { s.travelOpening with announce := b } := fun b =>
    mem_replaceCase.mpr (.inl ⟨rfl, old, by rwa [State.travelReported_cm], id⟩)
  have stands : s.travelOpening.isResolved = false := rfl
  rw [State.openCase_travel, State.trigger_cm, State.announceCase_table, stands]
  split
  · exact ⟨false, put false⟩
  · exact ⟨true, put true⟩

/-- The opening leaves the silence timer running while the drive is on (R112). -/
theorem State.openCase_travel_silenceRuns {p : Nat → Prop} (h : s.SilenceRuns p) :
    (s.openCase .travel).SilenceRuns p := by
  have suspended : s.withTravelCase.evaluateSuspension.SilenceRuns p :=
    State.evaluateSuspension_induct (P := State.SilenceRuns p) (fun _ _ ht => ht)
      (fun _ cs ht => State.applySets_silenceRuns ht cs) (fun _ c ht => State.announceCase_silenceRuns ht c) h
  have reported : s.travelReported.SilenceRuns p := State.applySets_silenceRuns suspended _
  rw [State.openCase_travel]
  exact State.announceCase_silenceRuns reported s.travelOpening

end

/-! ### The expiry -/

section
variable {s : State}

theorem exec_encoderSilenceExpiry (detecting : s.detecting = true) :
    exec .encoderSilenceExpiry s = .next s.silenceExpiry := by
  simp [exec, execEncoderSilenceExpiry, detecting]

/-- A timer that is stopped or has time left does not expire (R113). -/
theorem State.silenceExpiry_of_running (running : s.fd.silence ≠ some 0) : s.silenceExpiry = s := by
  unfold State.silenceExpiry
  split
  next due => exact absurd due running
  · rfl

theorem State.silenceExpiry_of_due (due : s.fd.silence = some 0) :
    s.silenceExpiry = s.silenceRestarted.detectEvent .travel := by
  simp [State.silenceExpiry, due, State.silenceRestarted, silenceAfterPulse]

theorem State.silenceExpiry_opens (due : s.fd.silence = some 0) (room : s.cm.table.length < casePlaces)
    (none : ∀ c ∈ s.cm.table, c.takes .travel = false) :
    s.silenceExpiry = (s.silenceRestarted.openCase .travel).commit := by
  have free : s.silenceRestarted.cm.table.find? (Case.takes Detection.travel.key) = Option.none :=
    List.find?_eq_none.mpr fun c mem => Bool.eq_false_iff.mp (none c mem)
  rw [State.silenceExpiry_of_due due, State.detectEvent, State.detect, free]
  exact congrArg State.commit (if_pos room)

theorem State.silenceExpiry_delivers (due : s.fd.silence = some 0) (sound : s.TableSound) {c : Case}
    (mem : c ∈ s.cm.table) (travel : c.proc = .travel) (stands : c.isResolved = false) :
    s.silenceExpiry = (s.silenceRestarted.deliver .travel c).commit := by
  have found : s.silenceRestarted.cm.table.find? (Case.takes Detection.travel.key) = some c :=
    sound.find_takes mem ((Case.takes_travel_iff travel).mpr stands)
  rw [State.silenceExpiry_of_due due, State.detectEvent, State.detect, found]

/-- The timer that has run out starts in full (R113). -/
theorem State.silenceRestarted_of_due (due : s.fd.silence = some 0) :
    s.silenceRestarted.fd.silence = some (seconds s.pmc.limits.encoderSilence) := by
  simp [State.silenceRestarted, due, silenceAfterPulse]

end

/-- Settles O37: the timer not at 0, no TRAVEL case in the table, a TRAVEL case there. -/
theorem encoderSilenceDetects : Obligations.EncoderSilenceDetects := by
  unfold Obligations.EncoderSilenceDetects
  intro s live real sound quiet
  have once := sound.2.1
  rw [exec_encoderSilenceExpiry (State.detecting_of_live live real)]
  refine ⟨fun running => by rw [State.silenceExpiry_of_running running], fun due room none => ?_,
    fun c mem due travel stands claims => ?_⟩
  · have expires := State.silenceExpiry_opens due room none
    have restarted : s.silenceRestarted.SilenceRuns fun ms => ms = seconds s.pmc.limits.encoderSilence :=
      ⟨rfl, fun _ => ⟨_, State.silenceRestarted_of_due due, rfl⟩⟩
    have runs := State.openCase_travel_silenceRuns restarted
    obtain ⟨b, opened⟩ := State.openCase_travel_mem (s := s.silenceRestarted) once room
    refine ⟨_, rfl, ⟨_, by rwa [expires, State.commit_cm], rfl, rfl, rfl⟩, ?_, fun _ on => ?_, ?_, ?_, ?_⟩
    · rw [expires, State.commit_rt, State.openCase_travel_rt]
      rfl
    · rw [expires, State.commit_lg] at on
      obtain ⟨ms, timer, rfl⟩ := runs.2 on
      rw [expires, State.commit_fd, timer, seconds]
    · simp [expires, State.silenceRestarted]
    · rw [expires, State.commit_pmc, State.openCase_travel_pmc]
      rfl
    · simp [expires, State.SameOutside, State.silenceRestarted]
  · have delivered := State.deliver_travel (s := s.silenceRestarted) once mem travel claims
    have table : s.silenceRestarted.cm.table = s.cm.table := rfl
    rw [State.silenceExpiry_delivers due sound mem travel stands, delivered,
      State.commit_of_not_trigger (s := s.silenceRestarted.putCase c.recurred) quiet, State.putCase, table,
      replaceCase_recurred once mem, State.silenceRestarted, due]
    rfl

end Sys2Proof.Machine
end

section
/-! PROOF. The suspended flags (R124, R125): what decides which cases are held back, that an evaluation of
suspension settles every flag, and that whatever leaves that deciding part alone keeps them settled. -/

namespace Sys2Proof.Machine

/-! ### What decides which cases are held back -/

/-- What of a case record decides suspensions, its own and those of others (R124). -/
structure Case.SameRank (c d : Case) : Prop where
  id : c.id = d.id
  state : c.state = d.state
  kind : c.proc.kind = d.proc.kind

theorem Case.SameRank.refl (c : Case) : c.SameRank c := ⟨rfl, rfl, rfl⟩

theorem Case.SameRank.symm {c d : Case} (h : c.SameRank d) : d.SameRank c :=
  ⟨h.id.symm, h.state.symm, h.kind.symm⟩

theorem Case.SameRank.trans {b c d : Case} (h : b.SameRank c) (h' : c.SameRank d) : b.SameRank d :=
  ⟨h.id.trans h'.id, h.state.trans h'.state, h.kind.trans h'.kind⟩

theorem Case.SameRank.of_bare {c d : Case} (h : c.bare = d.bare) : c.SameRank d :=
  ⟨show c.bare.id = d.bare.id from congrArg _ h, show c.bare.state = d.bare.state from congrArg _ h,
    show c.bare.proc.kind = d.bare.proc.kind by rw [h]⟩

/-- Each case of a table that suspends others has its like in another table (R124). -/
def OutranksFrom (t s : List Case) : Prop := ∀ o ∈ t, o.state.suspends = true → ∃ p ∈ s, p.SameRank o

/-- Two tables hold the same cases that suspend others (R124). -/
structure SameRanks (t s : List Case) : Prop where
  left : OutranksFrom t s
  right : OutranksFrom s t

theorem OutranksFrom.trans {u t s : List Case} (hu : OutranksFrom u t) (ht : OutranksFrom t s) :
    OutranksFrom u s := fun o mem suspends => by
  obtain ⟨p, hp, like⟩ := hu o mem suspends
  obtain ⟨q, hq, like'⟩ := ht p hp (by rwa [like.state])
  exact ⟨q, hq, like'.trans like⟩

theorem SameRanks.refl (s : List Case) : SameRanks s s :=
  ⟨fun o mem _ => ⟨o, mem, .refl o⟩, fun o mem _ => ⟨o, mem, .refl o⟩⟩

theorem SameRanks.trans {u t s : List Case} (hu : SameRanks u t) (ht : SameRanks t s) : SameRanks u s :=
  ⟨hu.left.trans ht.left, ht.right.trans hu.right⟩

theorem Case.outranks_congr {o p c d : Case} (ho : p.SameRank o) (hc : d.SameRank c) :
    p.outranks d = o.outranks c := by
  simp only [Case.outranks, ho.state, ho.kind, hc.kind]

theorem OutranksFrom.any {t s : List Case} (h : OutranksFrom t s) {c d : Case} (hc : d.SameRank c)
    (held : t.any (fun o => o.id != c.id && o.outranks c) = true) :
    s.any (fun o => o.id != d.id && o.outranks d) = true := by
  simp only [List.any_eq_true, Bool.and_eq_true] at held ⊢
  obtain ⟨o, mem, other, outranks⟩ := held
  obtain ⟨p, hp, like⟩ := h o mem (Bool.and_eq_true_iff.mp outranks).1
  exact ⟨p, hp, by rwa [like.id, hc.id], by rwa [Case.outranks_congr like hc]⟩

/-- A case is held back by its own rank and the cases that suspend others alone (R124). -/
theorem SameRanks.heldBack {t s : List Case} (h : SameRanks t s) {c d : Case} (hc : d.SameRank c)
    (mode : Mode) : d.heldBack mode t = c.heldBack mode s := by
  have any : t.any (fun o => o.id != d.id && o.outranks d) = s.any (fun o => o.id != c.id && o.outranks c) :=
    Bool.eq_iff_iff.mpr ⟨h.left.any hc.symm, h.right.any hc⟩
  simp only [Case.heldBack, Case.isResolved, hc.state, any]

/-- Records changed in what decides no suspension. -/
theorem SameRanks.map (table : List Case) {f : Case → Case} (h : ∀ c ∈ table, (f c).SameRank c) :
    SameRanks (table.map f) table where
  left o mem _ := by
    obtain ⟨c, hc, rfl⟩ := List.mem_map.mp mem
    exact ⟨c, hc, (h c hc).symm⟩
  right c mem _ := ⟨f c, List.mem_map_of_mem mem, h c mem⟩

theorem SameRanks.replace {table : List Case} (once : (table.map (·.id)).Nodup) {old new : Case}
    (mem : old ∈ table) (like : new.SameRank old) : SameRanks (replaceCase table new) table :=
  .map table fun o ho => by
    split
    next own => rwa [eq_of_mem_of_id once mem ho (own.trans like.id)]
    · exact .refl o

/-- A RESOLVED case that leaves suspended nobody (R119, R132). -/
theorem SameRanks.remove {table : List Case} (once : (table.map (·.id)).Nodup) {old : Case}
    (mem : old ∈ table) (resolved : old.isResolved = true) :
    SameRanks (table.filter fun o => o.id != old.id) table where
  left o ho _ := ⟨o, (List.mem_filter.mp ho).1, .refl o⟩
  right o ho suspends := by
    have state : old.state = .resolved := by simpa [Case.isResolved] using resolved
    refine ⟨o, List.mem_filter.mpr ⟨ho, ?_⟩, .refl o⟩
    by_contra own
    rw [eq_of_mem_of_id once mem ho (by simpa using own), state] at suspends
    exact absurd suspends (by decide)

theorem State.announceCase_sameRanks {s : State} (once : (s.cm.table.map (·.id)).Nodup) {old c : Case}
    (mem : old ∈ s.cm.table) (like : c.SameRank old) :
    SameRanks (s.announceCase c).cm.table s.cm.table := by
  rw [State.announceCase_table]
  repeat' split
  next resolved =>
    rw [like.id]
    exact .remove once mem (by rwa [Case.isResolved, ← like.state])
  · exact .replace once mem ⟨like.id, like.state, like.kind⟩
  · exact .replace once mem ⟨like.id, like.state, like.kind⟩

/-- What an announcement leaves in the table: other records, and the announced one (R131). -/
theorem State.mem_announceCase {s : State} {c o : Case} (h : o ∈ (s.announceCase c).cm.table) :
    o ∈ s.cm.table ∨ ∃ b, o = { c with announce := b } := by
  rw [State.announceCase_table] at h
  repeat' split at h
  · exact .inl (List.mem_filter.mp h).1
  · obtain ⟨same, -⟩ | ⟨mem, -⟩ := mem_replaceCase.mp h
    · exact .inr ⟨false, same⟩
    · exact .inl mem
  · obtain ⟨same, -⟩ | ⟨mem, -⟩ := mem_replaceCase.mp h
    · exact .inr ⟨true, same⟩
    · exact .inl mem

/-! ### An evaluation of suspension -/

/-- The flag of the case with an id is as it is to be (R124). -/
def State.SettledAt (s : State) (id : Nat) : Prop :=
  ∀ c ∈ s.cm.table, c.id = id → c.suspended = c.heldBack s.pmc.mode s.cm.table

theorem State.suspendOrResume_sameRanks {s : State} (once : (s.cm.table.map (·.id)).Nodup) (id : Nat) :
    SameRanks (s.suspendOrResume id).cm.table s.cm.table := by
  obtain same | ⟨c, d, found, -, rfl, same⟩ := s.suspendOrResume_cases id
  · rw [same]
    exact .refl _
  · obtain ⟨mem, -⟩ := findCase_eq_some found
    generalize hd : { c with suspended := c.heldBack s.pmc.mode s.cm.table } = d at same
    have like : d.SameRank c := by subst hd; exact ⟨rfl, rfl, rfl⟩
    have put : SameRanks (s.putCase d).cm.table s.cm.table := .replace once mem like
    rw [same]
    refine SameRanks.trans ?_ put
    exact State.announceCase_sameRanks (s := (s.putCase d).applySets [(.ofCase id, d.posted)])
      (by simpa [State.putCase, replaceCase_ids] using once)
      (mem_replaceCase.mpr (.inl ⟨rfl, c, mem, like.id.symm⟩)) (.refl d)

/-- The case taken up: its flag stands as it is to stand, or changes, and is announced (R124). -/
theorem State.suspendOrResume_of_mem {s : State} (once : (s.cm.table.map (·.id)).Nodup) {c : Case}
    (mem : c ∈ s.cm.table) :
    c.suspended = c.heldBack s.pmc.mode s.cm.table ∧ s.suspendOrResume c.id = s
      ∨ ∃ d : Case, d = { c with suspended := c.heldBack s.pmc.mode s.cm.table }
          ∧ s.suspendOrResume c.id = ((s.putCase d).applySets [(.ofCase c.id, d.posted)]).announceCase d := by
  unfold State.suspendOrResume
  rw [findCase_of_mem once mem]
  by_cases h : c.heldBack s.pmc.mode s.cm.table = c.suspended
  · exact .inl ⟨h.symm, if_pos h⟩
  · exact .inr ⟨_, rfl, if_neg h⟩

theorem State.suspendOrResume_settledAt {s : State} (once : (s.cm.table.map (·.id)).Nodup) (id : Nat) :
    (s.suspendOrResume id).SettledAt id := by
  rintro o mem rfl
  rw [State.suspendOrResume_pmc, (State.suspendOrResume_sameRanks once o.id).heldBack (.refl o)]
  obtain ⟨c, hc, own⟩ : ∃ c ∈ s.cm.table, c.id = o.id :=
    List.mem_map.mp ((s.suspendOrResume_changesOnly o.id).ids.subset (List.mem_map_of_mem mem))
  obtain ⟨settled, same⟩ | ⟨d, hd, same⟩ := State.suspendOrResume_of_mem once hc
  · rw [← own, same] at mem
    rwa [eq_of_mem_of_id once hc mem own.symm]
  · have record : ∃ b, o = { d with announce := b } := by
      rw [← own, same] at mem
      obtain put | announced := State.mem_announceCase mem
      · obtain ⟨rfl, -⟩ | ⟨-, other⟩ := mem_replaceCase.mp put
        · exact ⟨o.announce, rfl⟩
        · exact absurd own.symm (by rwa [hd] at other)
      · exact announced
    obtain ⟨b, rfl⟩ := record
    subst hd
    rfl

/-- The flags of the others stay (R124). -/
theorem State.SettledAt.suspendOrResume {s : State} (once : (s.cm.table.map (·.id)).Nodup) {n : Nat}
    (h : s.SettledAt n) (id : Nat) : (s.suspendOrResume id).SettledAt n := by
  by_cases own : n = id
  · rw [own]
    exact State.suspendOrResume_settledAt once id
  · intro o mem hn
    have stays : o ∈ s.cm.table := ((s.suspendOrResume_changesOnly id).others o (hn.trans_ne own)).mp mem
    rw [State.suspendOrResume_pmc, (State.suspendOrResume_sameRanks once id).heldBack (.refl o)]
    exact h o stays hn

theorem foldl_suspendOrResume_settledAt (ids : List Nat) {s : State} (once : (s.cm.table.map (·.id)).Nodup)
    {n : Nat} (h : n ∈ ids ∨ s.SettledAt n) : (ids.foldl State.suspendOrResume s).SettledAt n := by
  induction ids generalizing s with
  | nil => exact h.resolve_left (by simp)
  | cons id ids ih =>
    refine ih (once.sublist (s.suspendOrResume_changesOnly id).ids) ?_
    obtain visited | settled := h
    · obtain rfl | later := List.mem_cons.mp visited
      · exact .inr (State.suspendOrResume_settledAt once n)
      · exact .inl later
    · exact .inr (settled.suspendOrResume once id)

theorem foldl_suspendOrResume_ids (ids : List Nat) (s : State) :
    ((ids.foldl State.suspendOrResume s).cm.table.map (·.id)).Sublist (s.cm.table.map (·.id)) := by
  induction ids generalizing s with
  | nil => exact .refl _
  | cons id ids ih => exact (ih _).trans (s.suspendOrResume_changesOnly id).ids

theorem foldl_suspendOrResume_sameRanks (ids : List Nat) {s : State} (once : (s.cm.table.map (·.id)).Nodup) :
    SameRanks (ids.foldl State.suspendOrResume s).cm.table s.cm.table := by
  induction ids generalizing s with
  | nil => exact .refl _
  | cons id ids ih =>
    exact (ih (once.sublist (s.suspendOrResume_changesOnly id).ids)).trans (State.suspendOrResume_sameRanks once id)

/-- An evaluation of suspension settles every flag, however the flags stood before (R124). -/
theorem State.evaluateSuspension_settled {s : State} (once : (s.cm.table.map (·.id)).Nodup) :
    s.evaluateSuspension.SuspensionSettled := fun c mem =>
  foldl_suspendOrResume_settledAt _ once
    (.inl ((foldl_suspendOrResume_ids _ s).subset (List.mem_map_of_mem mem))) c mem rfl

/-! ### What an operation settles -/

/-- A sound table with settled flags passes from `s` to `t` (R118, R120, R124). -/
structure State.Settles (t s : State) : Prop where
  table : s.TableSound → t.TableSound
  flags : s.TableSound → s.SuspensionSettled → t.SuspensionSettled

theorem State.Settles.refl (s : State) : s.Settles s := ⟨id, fun _ => id⟩

theorem State.Settles.then {u t s : State} (ht : t.Settles s) (hu : u.Settles t) : u.Settles s :=
  ⟨hu.table ∘ ht.table, fun sound settled => hu.flags (ht.table sound) (ht.flags sound settled)⟩

/-- An operation behind a test. -/
theorem State.Settles.thenIf {u t s : State} (ht : t.Settles s) {b : Prop} [Decidable b] (hu : u.Settles t) :
    (if b then u else t).Settles s := by
  split
  · exact ht.then hu
  · exact ht

theorem State.Settles.foldl {α : Type} {f : State → α → State} (hf : ∀ s a, (f s a).Settles s) (s : State)
    (as : List α) : (as.foldl f s).Settles s := by
  induction as generalizing s with
  | nil => exact .refl s
  | cons a as ih => exact (hf s a).then (ih (f s a))

/-- Where the table and the mode stay, the flags stay settled. -/
theorem State.Settles.of_same {t s : State} (table : t.cm.table = s.cm.table)
    (mode : t.pmc.mode = s.pmc.mode) : t.Settles s where
  table h := by rwa [State.tableSound_iff, table]
  flags _ h := by rwa [State.SuspensionSettled, table, mode]

/-- What ends in an evaluation of suspension settles the flags (R124). -/
theorem State.Settles.evaluated {t s : State} (table : s.TableSound → t.TableSound) :
    t.evaluateSuspension.Settles s where
  table h := t.evaluateSuspension_upholds.table (table h)
  flags h _ := State.evaluateSuspension_settled (table h).2.1

/-- The flags stay settled where the cases that suspend others stay, and every record of the table has the
rank and the flag of one that stood there. -/
theorem State.Settles.of_ranks {t s : State} (table : s.TableSound → t.TableSound)
    (mode : t.pmc.mode = s.pmc.mode) (ranks : s.TableSound → SameRanks t.cm.table s.cm.table)
    (flags : ∀ o ∈ t.cm.table, ∃ p ∈ s.cm.table, o.SameRank p ∧ o.suspended = p.suspended) :
    t.Settles s where
  table := table
  flags sound settled o mem := by
    obtain ⟨p, hp, like, flag⟩ := flags o mem
    rw [mode, (ranks sound).heldBack like, flag, settled p hp]

/-- Records changed all over the table in what decides no suspension. -/
theorem State.Settles.of_map {t s : State} {f : Case → Case} (cases : t.cm.table = s.cm.table.map f)
    (mode : t.pmc.mode = s.pmc.mode) (table : s.TableSound → t.TableSound)
    (same : ∀ c, (f c).SameRank c ∧ (f c).suspended = c.suspended) : t.Settles s :=
  .of_ranks table mode (fun _ => cases ▸ .map _ fun c _ => (same c).1) fun o mem => by
    rw [cases] at mem
    obtain ⟨c, hc, rfl⟩ := List.mem_map.mp mem
    exact ⟨c, hc, same c⟩

end Sys2Proof.Machine
end

section
/-! PROOF. A change of a case, part by part (R127, R131, R134): the record, the reports, the markers and the
claims before its announcement. -/

namespace Sys2Proof.Machine

/-! ### The kind of a key -/

/-- The kind of the cases of a key (R118, R120). -/
def Key.kind : Key → CaseKind
  | .leak => .leak
  | .filter _ => .filter
  | .heaterOpen _ => .heaterOpen
  | .heaterStuck _ => .heaterStuck
  | .overtemp _ => .overtemp
  | .sensor _ _ => .sensor
  | .travel => .sensor

theorem Proc.key_kind (p : Proc) : p.key.kind = p.kind := by cases p <;> rfl

theorem Case.Continues.sameRank {new old : Case} (h : new.Continues old) (state : new.state = old.state) :
    new.SameRank old :=
  ⟨h.id, state, by rw [← Proc.key_kind, ← Proc.key_kind, h.key]⟩

/-! ### The links of the pumps gained -/

/-- The BLOCK on a pump is gained by a change of a case (R127). -/
def Case.gainsPump (old : Option Case) (new : Case) (z : Zone) : Bool :=
  new.blocksPump z && !(old.any fun o => o.blocksPump z)

/-- The Rack Tracker after the link zone reports of a change (R127). -/
def Rt.linkPumps (rt : Rt) (gained : Zone → Bool) (zones : Four ZoneSlot) (travel : Word32) (id : Nat) : Rt :=
  Four.indices.foldl (fun rt z => if gained z then rt.linkZone (zones.get z).slot travel id else rt) rt

theorem State.linkGainedPumps_eq (s : State) (old : Option Case) (new : Case) :
    s.linkGainedPumps old new
      = s.setRt (s.rt.linkPumps (Case.gainsPump old new) s.pmc.zones s.smp.travel new.id) := by
  unfold State.linkGainedPumps Rt.linkPumps
  generalize Four.indices = zs
  induction zs generalizing s with
  | nil => rfl
  | cons z zs ih =>
    rw [List.foldl_cons, ih, List.foldl_cons]
    by_cases h : Case.gainsPump old new z = true
    · simp only [Case.gainsPump] at h
      simp only [Case.gainsPump, h, if_true, State.setRt_pmc, State.setRt_smp, State.setRt_rt]
      rfl
    · simp only [Case.gainsPump] at h
      simp only [Case.gainsPump, h, if_false, Bool.false_eq_true]
      rfl

section
variable {gained : Zone → Bool} {zones : Four ZoneSlot} {travel : Word32} {id : Nat} {rt : Rt}

theorem Rt.linkPumps_none (h : ∀ z, gained z = false) : rt.linkPumps gained zones travel id = rt := by
  simp [Rt.linkPumps, Four.indices, h]

theorem Rt.linkPumps_one {z : Zone} (h : ∀ w, gained w = decide (w = z)) :
    rt.linkPumps gained zones travel id = rt.linkZone (zones.get z).slot travel id := by
  simp only [Rt.linkPumps, Four.indices, List.foldl_cons, List.foldl_nil, h]
  fin_cases z <;> rfl

/-- A rack linked twice to a case is linked once (R77). -/
theorem Rack.link_link (id : Nat) (r : Rack) : (r.link id).link id = r.link id := by
  by_cases out : r.exited = true ∨ id ∈ r.links
  · have same : r.link id = r := by simpa [Rack.link] using fun h h' => absurd out (by simp [h, h'])
    rw [same, same]
  · obtain ⟨inside, absent⟩ := not_or.mp out
    by_cases room : r.links.length < 4 <;> simp [Rack.link, inside, absent, room]

/-- Link all covers every link zone report made before it (R77, R127). -/
theorem Rt.linkAll_linkPumps : (rt.linkPumps gained zones travel id).linkAll id = rt.linkAll id := by
  unfold Rt.linkPumps
  generalize Four.indices = zs
  induction zs generalizing rt with
  | nil => rfl
  | cons z zs ih =>
    rw [List.foldl_cons, ih]
    split
    · simp only [Rt.linkAll, Rt.linkZone, List.map_map]
      congr 1
      refine List.map_congr_left fun r _ => ?_
      by_cases inZone : r.inZone (zones.get z).slot travel = true <;> simp [inZone, Rack.link_link]
    · rfl

end

/-! ### Markers -/

theorem State.takeOff_pmc (s : State) (z : Zone) :
    (s.takeOff z).pmc
      = { s.pmc with
          zones := (s.pmc.zones.set z { s.pmc.zones.get z with slot := (s.pmc.zones.get z).slot.takenOff }) } := by
  simp [State.takeOff, State.setSlot]

theorem State.addMarker_mode (s : State) (id : Nat) (z : Zone) : (s.addMarker id z).pmc.mode = s.pmc.mode := by
  simp only [State.addMarker]
  repeat' split
  · rfl
  · rw [State.takeOff_pmc]
    rfl
  · rfl

theorem State.addMarkers_mode (s : State) (id : Nat) (zs : List Zone) :
    (zs.foldl (State.addMarker id) s).pmc.mode = s.pmc.mode := by
  induction zs generalizing s with
  | nil => rfl
  | cons z zs ih => rw [List.foldl_cons, ih, State.addMarker_mode]

/-- The markers of a zone after a zone is marked (R3). -/
theorem State.addMarker_marker (s : State) (id : Nat) (z w : Zone) (n : Nat) :
    n ∈ ((s.addMarker id z).pmc.zones.get w).marker
      ↔ n ∈ (s.pmc.zones.get w).marker ∨ (n = id ∧ w = z) := by
  simp only [State.addMarker]
  by_cases own : w = z
  · subst own
    repeat' split
    next marked =>
      simp only [List.contains_eq_mem, decide_eq_true_eq] at marked
      exact ⟨.inl, fun h => h.elim (fun mem => mem) fun e => e.1 ▸ marked⟩
    · simp [State.takeOff_pmc]
    · simp
  · repeat' split
    · simp [own]
    · simp [State.takeOff_pmc, own]
    · simp [own]

theorem State.addMarkers_marker (s : State) (id : Nat) (zs : List Zone) (w : Zone) (n : Nat) :
    n ∈ ((zs.foldl (State.addMarker id) s).pmc.zones.get w).marker
      ↔ n ∈ (s.pmc.zones.get w).marker ∨ (n = id ∧ w ∈ zs) := by
  induction zs generalizing s with
  | nil => simp
  | cons z zs ih => 
    rw [List.foldl_cons, ih, State.addMarker_marker, List.mem_cons]
    tauto

/-! ### A change before its announcement -/

/-- The Rack Tracker after the reports of a change of a case (R127). -/
def Rt.caseChanged (rt : Rt) (old new : Case) (zones : Four ZoneSlot) (travel : Word32) : Rt :=
  let linked := rt.linkPumps (Case.gainsPump (some old) new) zones travel new.id
  let all := if (old.state != new.state) && new.leakHandling then linked.linkAll new.id else linked
  if (old.state != new.state) && new.state = .manual then all.manual new.id else all

/-- A case has taken a new record, with its claims, its reports and its markers, and has yet to be announced
(R127, R134). -/
structure State.CaseTaken (q s : State) (old new : Case) : Prop where
  cm : q.cm = (s.putCase new).cm
  rt : q.rt = s.rt.caseChanged old new s.pmc.zones s.smp.travel
  zones : q.pmc = ((old.gainedMarks new).foldl (State.addMarker new.id) s).pmc
  link : q.lk = s.lk

theorem State.addMarker_pmc_congr {s t : State} (h : s.pmc = t.pmc) (id : Nat) (z : Zone) :
    (s.addMarker id z).pmc = (t.addMarker id z).pmc := by
  simp only [State.addMarker, h]
  repeat' split
  · exact h
  · simp [State.takeOff_pmc]
  · rfl

theorem State.addMarkers_pmc_congr {s t : State} (h : s.pmc = t.pmc) (id : Nat) (zs : List Zone) :
    (zs.foldl (State.addMarker id) s).pmc = (zs.foldl (State.addMarker id) t).pmc := by
  induction zs generalizing s t with
  | nil => exact h
  | cons z zs ih => exact ih (State.addMarker_pmc_congr h id z)

/-- A change of a case: its parts, then its announcement where its state or step has changed, then the trigger
where its state has (R131, R134, R162). -/
theorem State.alterCase_stages (s : State) (old new : Case) :
    ∃ q : State, q.CaseTaken s old new ∧
      s.alterCase old new
        = if old.state ≠ new.state then (q.announceCase new).trigger
          else if old.step ≠ new.step then q.announceCase new
          else q := by
  unfold State.alterCase
  extract_lets entered s1 s2 s3 s4 s5 s6
  refine ⟨s5, ⟨?_, ?_, ?_, ?_⟩, ?_⟩
  · simp only [s5, s4, s3, s2, s1, apply_ite State.cm, State.setRt_cm, State.addMarkers_cm,
      State.linkGainedPumps_cm, State.applySets_cm, ite_self]
  · have rt1 : s1.rt = s.rt := by simp [s1]
    have pmc1 : s1.pmc = s.pmc := by simp [s1]
    have smp1 : s1.smp = s.smp := by simp [s1]
    have rt2 : s2.rt = s.rt.linkPumps (Case.gainsPump (some old) new) s.pmc.zones s.smp.travel new.id := by
      rw [← rt1, ← pmc1, ← smp1]
      exact congrArg State.rt (s1.linkGainedPumps_eq (some old) new)
    have rt4 : s4.rt = s3.rt := by simp [s4]
    simp only [s5, s3, apply_ite State.rt, State.setRt_rt, rt4, rt2, Rt.caseChanged, entered]
  · have pmc3 : s3.pmc = s.pmc := by
      simp only [s3, s2, s1, apply_ite State.pmc, State.setRt_pmc, State.linkGainedPumps_pmc,
        State.applySets_pmc, State.putCase_pmc, ite_self]
    simp only [s5, apply_ite State.pmc, State.setRt_pmc, ite_self]
    exact State.addMarkers_pmc_congr pmc3 _ _
  · simp only [s5, s4, s3, s2, s1, apply_ite State.lk, State.setRt_lk, State.addMarkers_lk,
      State.linkGainedPumps_lk, State.applySets_lk, State.putCase_lk, ite_self]
  · by_cases state : old.state = new.state
    · by_cases step : old.step = new.step <;> simp [s6, entered, state, step]
    · simp [s6, entered, state]

/-! ### An opening before its announcement -/

section
variable (s : State) (d : Detection)

/-- The record that a detection opens, before its flag is known (R121). -/
def State.openingBare : Case :=
  openingCase d (freeCaseId s.cm.table 255 s.cm.nextId) s.cm.uptime s.lg s.pmc s.smp

/-- The record that a detection opens (R121, R124). -/
def State.openingRecord : Case :=
  { s.openingBare d with
    suspended := (s.openingBare d).heldBack s.pmc.mode (s.cm.table ++ [s.openingBare d]) }

/-- The state with that record at the end of the table. -/
def State.withOpened : State :=
  s.setCm { s.cm with table := s.cm.table ++ [s.openingRecord d], nextId := caseIdAfter (s.openingRecord d).id }

/-- The Rack Tracker after the reports of an opening (R79, R127). -/
def Rt.caseOpened (rt : Rt) (d : Detection) (new : Case) (zones : Four ZoneSlot) (travel : Word32) : Rt :=
  let linked := rt.linkPumps (Case.gainsPump none new) zones travel new.id
  let all := if new.leakHandling then linked.linkAll new.id else linked
  if d = .travel then all.travelLost else all

/-- A case has opened, with its claims, its reports and its markers, and has yet to be announced (R121). -/
structure State.CaseOpened (q s : State) (d : Detection) : Prop where
  cm : q.cm = (s.withOpened d).evaluateSuspension.cm
  rt : q.rt = s.rt.caseOpened d (s.openingRecord d) s.pmc.zones s.smp.travel
  pmc : q.pmc = ((s.openingRecord d).marks.foldl (State.addMarker (s.openingRecord d).id) s).pmc
  claims : ∀ l, q.lg.claimOf (.ofCase (s.openingRecord d).id) l = (s.openingRecord d).posted.on l

theorem State.openingRecord_spec :
    (s.openingRecord d).id = freeCaseId s.cm.table 255 s.cm.nextId
      ∧ (s.openingRecord d).proc.key = d.key ∧ (s.openingRecord d).isResolved = false :=
  openingCase_spec d _ s.cm.uptime s.lg s.pmc s.smp

/-- An opening: its parts, then its announcement and the trigger (R121). -/
theorem State.openCase_stages :
    ∃ q : State, q.CaseOpened s d ∧ s.openCase d = (q.announceCase (s.openingRecord d)).trigger := by
  unfold State.openCase
  extract_lets id bare new cm s1 s2 s3 s4 s5 s6 s7
  have own : new.id = id := (s.openingRecord_spec d).1
  have opened : s1 = s.withOpened d := by
    simp only [s1, cm, State.withOpened, ← own]
    rfl
  refine ⟨s7, ⟨?_, ?_, ?_, fun l => ?_⟩, rfl⟩
  · simp only [s7, s6, s5, s4, s3, s2, opened, apply_ite State.cm, State.setRt_cm, State.addMarkers_cm,
      State.linkGainedPumps_cm, State.applySets_cm, ite_self]
  · have rt3 : s3.rt = s.rt := by simp [s3, s2, s1]
    have pmc3 : s3.pmc = s.pmc := by simp [s3, s2, s1]
    have smp3 : s3.smp = s.smp := by simp [s3, s2, s1]
    have rt4 : s4.rt = s.rt.linkPumps (Case.gainsPump none new) s.pmc.zones s.smp.travel new.id := by
      rw [← rt3, ← pmc3, ← smp3]
      exact congrArg State.rt (s3.linkGainedPumps_eq none new)
    simp only [s7, s6, s5, State.addMarkers_rt, apply_ite State.rt, State.setRt_rt, rt4, ← own]
    rfl
  · have pmc6 : s6.pmc = s.pmc := by
      simp only [s6, s5, s4, s3, s2, s1, apply_ite State.pmc, State.setRt_pmc, State.linkGainedPumps_pmc,
        State.applySets_pmc, State.evaluateSuspension_pmc, State.setCm_pmc, ite_self]
    simp only [s7, ← own]
    exact State.addMarkers_pmc_congr pmc6 _ _
  · have same : s.openingRecord d = new := rfl
    rw [same, own, State.addMarkers_claimOf_case]
    simp only [s6, s5, s4, s3, apply_ite State.lg, State.setRt_lg, State.linkGainedPumps_lg,
      ite_self, State.applySets_lg, Lines.claimOf_applySets_one, if_true]

variable {s d}

theorem State.openingRecord_fresh (room : s.cm.table.length < casePlaces) :
    (s.openingRecord d).id ∉ s.cm.table.map (·.id) := by
  rw [(s.openingRecord_spec d).1]
  exact freeCaseId_fresh room _

theorem State.withOpened_sound (sound : s.TableSound) (room : s.cm.table.length < casePlaces)
    (key : s.cm.table.find? (Case.takes d.key) = none) : (s.withOpened d).TableSound :=
  SoundTable.append sound room (State.openingRecord_fresh room) (by rwa [(s.openingRecord_spec d).2.1])

theorem State.withOpened_sameRanks :
    SameRanks (s.withOpened d).cm.table (s.cm.table ++ [s.openingBare d]) where
  left o mem _ := by
    obtain stays | new := List.mem_append.mp mem
    · exact ⟨o, List.mem_append_left _ stays, .refl o⟩
    · rw [List.mem_singleton.mp new]
      exact ⟨s.openingBare d, List.mem_append_right _ (List.mem_singleton_self _), rfl, rfl, rfl⟩
  right o mem _ := by
    obtain stays | new := List.mem_append.mp mem
    · exact ⟨o, List.mem_append_left _ stays, .refl o⟩
    · rw [List.mem_singleton.mp new]
      exact ⟨s.openingRecord d, List.mem_append_right _ (List.mem_singleton_self _), rfl, rfl, rfl⟩

section
variable {q : State} (opened : q.CaseOpened s d) (distinct : ((s.withOpened d).cm.table.map (·.id)).Nodup)
include opened distinct

/-- The record that opens stands in the table, with its flag as it has been evaluated (R121, R124). -/
theorem State.CaseOpened.mem : ∃ old ∈ q.cm.table, old.bare = (s.openingRecord d).bare := by
  rw [opened.cm]
  exact foldl_suspendOrResume_keeps _ distinct (List.mem_append_right _ (List.mem_singleton_self _))
    (s.openingRecord_spec d).2.2

theorem State.CaseOpened.once : (q.cm.table.map (·.id)).Nodup := by
  rw [opened.cm]
  exact distinct.sublist (foldl_suspendOrResume_ids _ _)

end

end

end Sys2Proof.Machine
end

section
/-! PROOF. The operations of the Case Manager keep the suspended flags settled (R124): announcements, changes
of a case, mode changes, openings, deliveries and zone samples. -/

namespace Sys2Proof.Machine

/-! ### Announcements -/

theorem State.announceCase_settles (s : State) {c : Case} (mem : c ∈ s.cm.table) :
    (s.announceCase c).Settles s :=
  .of_ranks (s.announceCase_upholds mem).table (by simp)
    (fun sound => State.announceCase_sameRanks sound.2.1 mem (.refl c)) fun o ho => by
      obtain stays | ⟨b, rfl⟩ := State.mem_announceCase ho
      · exact ⟨o, stays, .refl o, rfl⟩
      · exact ⟨c, mem, ⟨rfl, rfl, rfl⟩, rfl⟩

theorem State.fillFreed_settles (s : State) : s.fillFreed.Settles s := by
  unfold State.fillFreed
  repeat' split
  · exact .of_same (by simp) (by simp)
  · exact .of_same (by simp) (by simp)
  · exact .of_same (by simp) (by simp)
  next c found => exact s.announceCase_settles (List.mem_of_find?_eq_some found)
  · exact .refl s

theorem State.commit_settles (s : State) : s.commit.Settles s := .of_same (by simp) (by simp)

/-! ### Changes of a case -/

/-- A record put in the place of one with its rank and its flag. -/
theorem State.putCase_settles (s : State) {old new : Case} (mem : old ∈ s.cm.table) (h : new.Continues old)
    (state : new.state = old.state) (flag : new.suspended = old.suspended) : (s.putCase new).Settles s :=
  .of_ranks (fun sound => SoundTable.replace sound mem h) rfl
    (fun sound => .replace sound.2.1 mem (h.sameRank state)) fun o ho => by
      obtain ⟨rfl, -⟩ | ⟨stays, -⟩ := mem_replaceCase.mp ho
      · exact ⟨old, mem, h.sameRank state, flag⟩
      · exact ⟨o, stays, .refl o, rfl⟩

theorem State.CaseTaken.mem {q s : State} {flagged old new : Case} (h : q.CaseTaken s flagged new)
    (mem : old ∈ s.cm.table) (id : new.id = old.id) : new ∈ q.cm.table := by
  rw [h.cm]
  exact mem_replaceCase.mpr (.inl ⟨rfl, old, mem, id.symm⟩)

/-- A change that keeps the state of its case changes no suspension (R124). -/
theorem State.alterCase_settles (s : State) {flagged old new : Case} (mem : old ∈ s.cm.table)
    (h : new.Continues old) (same : flagged.state = new.state) (state : new.state = old.state)
    (flag : new.suspended = old.suspended) : (s.alterCase flagged new).Settles s := by
  obtain ⟨q, taken, stages⟩ := s.alterCase_stages flagged new
  have put : q.Settles s :=
    (s.putCase_settles mem h state flag).then
      (.of_same (by rw [taken.cm]) (by rw [taken.zones, State.addMarkers_mode]; rfl))
  rw [stages, if_neg (by simp [same])]
  split
  · exact put.then (q.announceCase_settles (taken.mem mem h.id))
  · exact put

/-- A record that carries a case on, its flag kept where its state is kept (R124). -/
structure Case.Advances (new old : Case) : Prop extends new.Continues old where
  flag : new.state = old.state → new.suspended = old.suspended

/-- After an event at a case: suspension evaluated where its state has changed, and nothing to evaluate where
it has not (R124). -/
theorem State.Settles.settleAfter {t s : State} {old new : Case} (table : s.TableSound → t.TableSound)
    (stays : new.state = old.state → t.Settles s) : (t.settleAfter old new).Settles s := by
  unfold State.settleAfter
  split
  · exact .evaluated table
  next same =>
    have state : old.state = new.state := by simpa using same
    exact stays state.symm

theorem State.changeCase_settles (s : State) {flagged old new : Case} (mem : old ∈ s.cm.table)
    (h : new.Advances old) (state : flagged.state = old.state) : (s.changeCase flagged new).Settles s :=
  .settleAfter (s.alterCase_upholds flagged mem h.toContinues).table fun same =>
    s.alterCase_settles mem h.toContinues same.symm (same.trans state) (h.flag (same.trans state))

theorem State.removeMarkers_settles (id : Nat) (s : State) : (s.removeMarkers id).Settles s :=
  .of_same (by simp) rfl

theorem Case.resolve_advances {c : Case} (stands : c.isResolved = false) : c.resolve.Advances c where
  toContinues := c.resolve_continues
  flag same := by
    have resolved : c.isResolved = true := by rw [Case.isResolved, ← same]; rfl
    simp [stands] at resolved

theorem State.resolveCase_settles (s : State) {c : Case} (mem : c ∈ s.cm.table) (stands : c.isResolved = false) :
    (s.resolveCase c).Settles s :=
  (State.removeMarkers_settles c.id s).then
    (State.changeCase_settles _ (flagged := c) mem (Case.resolve_advances stands) rfl)

/-! ### Mode changes -/

theorem State.enterMode_table (m : Mode) (cause : HaltCause) (s : State) (sound : s.TableSound) :
    (s.enterMode m cause).TableSound := by
  rwa [State.tableSound_iff, State.enterMode_cm]

theorem State.changeMode_settles (m : Mode) (cause : HaltCause) (s : State) : (s.changeMode m cause).Settles s :=
  .evaluated (s.enterMode_table m cause)

theorem State.automaticHalt_settles (cause : HaltCause) (s : State) : (s.automaticHalt cause).Settles s := by
  unfold State.automaticHalt
  split
  · exact .refl s
  · exact .refl s
  · exact State.changeMode_settles .halt cause s

theorem State.drainRacks_settles (s : State) : s.drainRacks.Settles s := .of_same (by simp) (by simp)
theorem State.flush_settles (reason : FlushReason) (s : State) : (s.flush reason).Settles s :=
  .of_same (by simp) (by simp)
theorem State.entryEvent_settles (s : State) : s.entryEvent.Settles s := .of_same (by simp) (by simp)

/-! ### Detections -/

/-- The flags stay settled where a case whose flag is as it is to be is announced with its own rank (R124, R131). -/
theorem State.announceCase_settled {s : State} (once : (s.cm.table.map (·.id)).Nodup) {old c : Case}
    (mem : old ∈ s.cm.table) (like : c.SameRank old) (settled : s.SuspensionSettled)
    (flag : c.suspended = c.heldBack s.pmc.mode s.cm.table) : (s.announceCase c).SuspensionSettled := by
  intro o ho
  have ranks := State.announceCase_sameRanks once mem like
  rw [State.announceCase_pmc, ranks.heldBack (.refl o)]
  obtain stays | ⟨b, rfl⟩ := State.mem_announceCase ho
  · exact settled o stays
  · exact flag

theorem State.openCase_settles (s : State) {d : Detection} (room : s.cm.table.length < casePlaces)
    (key : s.cm.table.find? (Case.takes d.key) = none) : (s.openCase d).Settles s where
  table := (s.openCase_upholds room key).table
  flags sound _ := by
    have sound1 := s.withOpened_sound sound room key
    have once1 := sound1.2.1
    obtain ⟨q, opened, same⟩ := s.openCase_stages d
    obtain ⟨old, mem, kept⟩ := opened.mem once1
    have mode : q.pmc.mode = (s.withOpened d).pmc.mode := by rw [opened.pmc, State.addMarkers_mode]; rfl
    have settled : q.SuspensionSettled := by
      have evaluated := State.evaluateSuspension_settled once1
      rwa [State.SuspensionSettled, opened.cm, mode, ← State.evaluateSuspension_pmc]
    have ranks : SameRanks q.cm.table (s.cm.table ++ [s.openingBare d]) := by
      rw [opened.cm]
      exact (foldl_suspendOrResume_sameRanks _ once1).trans State.withOpened_sameRanks
    have flag : (s.openingRecord d).suspended = (s.openingRecord d).heldBack q.pmc.mode q.cm.table := by
      rw [mode, ranks.heldBack (c := s.openingBare d) (d := s.openingRecord d) ⟨rfl, rfl, rfl⟩]
      rfl
    have announced := State.announceCase_settled (opened.once once1) mem (.of_bare kept.symm) settled flag
    rw [same]
    exact announced

/-- A detection counted, and delivered, keeps the flag of its case (R123). -/
theorem Case.deliver_suspended (d : Detection) (l : Limits) (c : Case) : (c.deliver d l).suspended = c.suspended := by
  unfold Case.deliver
  split
  next => 
    simp only
    repeat' split
    all_goals rfl
  next => split <;> rfl
  next =>
    split
    · simp only [Case.failAttempt]
      split <;> rfl
    · rfl
  · rfl

theorem State.deliver_settles (s : State) {d : Detection} {c : Case} (mem : c ∈ s.cm.table)
    (h : c.takes d.key = true) : (s.deliver d c).Settles s := by
  have carries : (c.recurred.deliver d s.pmc.limits).Continues c.recurred :=
    Case.deliver_continues (c := c.recurred) h _
  exact s.changeCase_settles (flagged := c.recurred) mem
    ⟨⟨carries.id, carries.key, carries.resolved⟩, fun _ => c.recurred.deliver_suspended d _⟩ rfl

theorem State.detect_settles (s : State) (d : Detection) : (s.detect d).Settles s := by
  unfold State.detect
  split
  next c found => exact s.deliver_settles (List.mem_of_find?_eq_some found) (List.find?_some found)
  next none =>
    split
    next room => exact s.openCase_settles room none
    · exact State.automaticHalt_settles _ s

theorem State.detectEvent_settles (s : State) (d : Detection) : (s.detectEvent d).Settles s :=
  (s.detect_settles d).then (State.commit_settles _)

/-! ### Zone samples -/

section
variable (z : Zone) (rec : ZoneRecord) (lines : Lines) (r : Quad Reading) (s : State)

/-- A record keeps the flag of the case, or is RESOLVED. -/
def Case.KeepsFlag (new old : Case) : Prop := new.suspended = old.suspended ∨ new.state = .resolved

theorem Case.testSample_keepsFlag (driven : Bool) (current : Reading) (k : Nat) (a b : Bool) (sum n : Nat)
    (c : Case) : (c.testSample z rec driven current k a b sum n).KeepsFlag c := by
  unfold Case.testSample Case.endTests
  repeat' split
  · exact .inl rfl
  · exact .inl rfl
  · exact .inr rfl
  · exact .inl rfl
  · exact .inl rfl

theorem Case.hotSample_keepsFlag (temperature : Reading) (carried n : Nat) (c : Case) :
    (c.hotSample z rec temperature carried n).KeepsFlag c := by
  unfold Case.hotSample
  repeat' split
  · exact .inl rfl
  · exact .inr rfl
  all_goals exact .inl rfl

theorem Case.sensorSample_keepsFlag (reading : Reading) (n : Nat) (c : Case) :
    (c.sensorSample reading n).KeepsFlag c := by
  unfold Case.sensorSample
  repeat' split
  · exact .inr rfl
  · exact .inl rfl
  · exact .inl rfl

theorem Case.verifySample_keepsFlag (goal n : Nat) (c : Case) : (c.verifySample goal n).KeepsFlag c := by
  unfold Case.verifySample
  split
  · exact .inr rfl
  · exact .inl rfl

theorem Case.refillSample_keepsFlag (level : Reading) (pressure attempt : Nat) (l : Limits) (c : Case) :
    (c.refillSample z rec level pressure attempt l).KeepsFlag c := by
  unfold Case.refillSample
  repeat' split
  all_goals exact .inl rfl

/-- A HEATER_STUCK case on which the machine halts has left ISOLATING for MANUAL (R152). -/
theorem Case.stuckSample_flag (current : Reading) (carried low n : Nat) (c : Case) :
    (c.stuckSample z rec current carried low n).1.suspended = c.suspended
      ∧ ((c.stuckSample z rec current carried low n).2 = true →
          (c.stuckSample z rec current carried low n).1.state = .manual) := by
  unfold Case.stuckSample
  extract_lets run
  repeat' split
  · exact ⟨rfl, fun _ => rfl⟩
  · exact ⟨rfl, fun _ => rfl⟩
  · exact ⟨rfl, fun halts => by cases halts⟩

/-- What a sample makes of a case (R134): the flag stays or the case is RESOLVED, which it was not where it
takes the sample; and where the machine is to halt, the state changes (R152). -/
theorem Case.sample_flag (c : Case) :
    ((c.sample z rec lines r s).1.state = c.state → (c.sample z rec lines r s).1.suspended = c.suspended)
      ∧ ((c.sample z rec lines r s).2 = true → (c.sample z rec lines r s).1.state ≠ c.state) := by
  have quiet : ∀ {new : Case} {state : CaseState}, c.state = state → state ≠ .resolved → new.KeepsFlag c →
      (new.state = c.state → new.suspended = c.suspended) ∧ (false = true → new.state ≠ c.state) :=
    fun here stands keeps => ⟨fun same => keeps.resolve_right fun resolved => stands (by rw [← here, ← same, resolved]),
      fun halts => by cases halts⟩
  unfold Case.sample
  split
  next state =>
    refine quiet state (by decide) ?_
    unfold Case.isolateSample
    split
    · exact .inl rfl
    · exact .inl rfl
  next state =>
    refine quiet state (by decide) ?_
    unfold Case.drainSample
    split
    · exact .inl rfl
    · exact .inl rfl
  next state =>
    refine quiet state (by decide) ?_
    split
    · exact c.refillSample_keepsFlag ..
    · exact .inl rfl
  next state =>
    refine quiet state (by decide) ?_
    split
    · exact c.verifySample_keepsFlag ..
    · exact .inl rfl
  next state =>
    refine quiet state (by decide) ?_
    split
    · exact c.testSample_keepsFlag ..
    · exact .inl rfl
  next state =>
    split
    · obtain ⟨flag, manual⟩ := c.stuckSample_flag z rec r.current _ _ _
      exact ⟨fun _ => flag, fun halts => by simp [manual halts, state]⟩
    · exact ⟨fun _ => rfl, fun halts => by cases halts⟩
  next state =>
    refine quiet state (by decide) ?_
    split
    · exact c.hotSample_keepsFlag ..
    · exact .inl rfl
  next state =>
    refine quiet state (by decide) ?_
    split
    · exact c.sensorSample_keepsFlag ..
    · exact .inl rfl
  · exact ⟨fun _ => rfl, fun halts => by cases halts⟩

theorem State.advanceCase_settles {old new : Case} (mem : old ∈ s.cm.table) (h : new.Continues old)
    (state : new.state = old.state) (flag : new.suspended = old.suspended) : (s.advanceCase old new).Settles s := by
  unfold State.advanceCase
  split
  · exact (State.removeMarkers_settles old.id s).then (State.alterCase_settles _ mem h state.symm state flag)
  · exact s.alterCase_settles mem h state.symm state flag

theorem State.caseSample_settles (id : Nat) : (s.caseSample z rec lines r id).Settles s := by
  unfold State.caseSample
  split
  · exact .refl s
  next c found =>
    have mem := (findCase_eq_some found).1
    obtain ⟨flag, halts⟩ := c.sample_flag z rec lines r s
    have continues := c.sample_continues z rec lines s r
    split
    · exact .refl s
    · extract_lets n q
      have moved := s.advanceCase_upholds mem continues
      refine (State.Settles.settleAfter (old := c) (new := n.1)
        (moved.thenIf (q.enterHalt_upholds .unisolatedHeat)).table fun same => ?_).then (State.commit_settles _)
      rw [if_neg fun halt => halts halt same]
      exact s.advanceCase_settles mem continues same (flag same)

end

section
variable (z : Zone) (lines : Lines) (r : Quad Reading)

theorem State.casesSample_settles (ids : List Nat) (s : State) : (s.casesSample z lines r ids).Settles s := by
  unfold State.casesSample
  split
  · exact .refl s
  · exact .foldl (State.caseSample_settles z _ lines r) s ids

theorem State.managerSample_settles (ds : List Detection) (first : Nat) (ids : List Nat) (s : State) :
    (s.managerSample z lines r ds first ids).Settles s :=
  ((State.Settles.foldl State.detectEvent_settles s _).then (State.casesSample_settles z lines r ids _)).then
    (.foldl State.detectEvent_settles _ _)

theorem State.contactSample_cm (s : State) : (s.contactSample z lines r).cm = s.cm := by
  unfold State.contactSample
  extract_lets
  split <;> rfl

theorem State.doseSample_cm (s : State) : (s.doseSample z lines r).cm = s.cm := by
  unfold State.doseSample
  extract_lets
  split <;> rfl

theorem State.dwellSample_cm (s : State) : (s.dwellSample z).cm = s.cm := by
  simp only [State.dwellSample]
  repeat' split
  all_goals simp

theorem State.finalSample_cm (s : State) : (s.finalSample z lines r).cm = s.cm := by
  simp only [State.finalSample]
  repeat' split
  · rfl
  · rw [State.dwellSample_cm, State.doseSample_cm]
  · rw [State.doseSample_cm]
  · rfl

theorem State.detectorSample_cm (runs : List Quantity) (s : State) :
    (s.detectorSample z lines r runs).1.cm = s.cm := by
  unfold State.detectorSample
  split <;> rfl

theorem State.traceSample_cm (s : State) : (s.traceSample z r).cm = s.cm := by
  unfold State.traceSample
  split <;> rfl

theorem State.guardSample_settles (s : State) : (s.guardSample z r).Settles s :=
  .of_same (by simp [State.guardSample]) (by simp)

end

theorem State.zoneSample_settles (codes : Quad Nat) (order : ZoneOrder) (z : Zone) (s : State) :
    (s.zoneSample codes order z).Settles s := by
  unfold State.zoneSample
  extract_lets conv r lines ids smp s1 s2 f s3
  have sampled : s3.Settles s :=
    .of_same
      (by rw [State.traceSample_cm, State.detectorSample_cm, State.finalSample_cm, State.contactSample_cm]; rfl)
      (by simp only [s3, f, s2, State.traceSample_pmc, State.detectorSample_pmc, State.finalSample_pmc,
            State.contactSample_pmc]; rfl)
  split
  · exact (sampled.then (State.guardSample_settles z r s3)).then (State.managerSample_settles z lines r f.2 _ ids _)
  · exact (sampled.then (State.managerSample_settles z lines r f.2 _ ids s3)).then (State.guardSample_settles z r _)

/-! ### The round and the travel event -/

theorem State.panEvent_settles (before : Smp) (s : State) : (s.panEvent before).Settles s :=
  (State.Settles.refl s).thenIf (s.detectEvent_settles .leakPan)

theorem State.eyeEvent_settles (before : Smp) (s : State) : (s.eyeEvent before).Settles s :=
  (State.Settles.refl s).thenIf (s.entryEvent_settles.then (State.commit_settles _))

theorem State.sampleRound_settles (input : RoundInput) (s : State) : (s.sampleRound input).Settles s := by
  rw [State.sampleRound_eq]
  have debounced : (s.setSmp (s.smp.debounced input)).Settles s := .of_same rfl rfl
  have inputs : (s.inputsTaken input).Settles s := by
    simp only [State.inputsTaken]
    split
    · exact (debounced.then (State.eyeEvent_settles _ _)).then (State.panEvent_settles _ _)
    · exact (debounced.then (State.panEvent_settles _ _)).then (State.eyeEvent_settles _ _)
  exact inputs.then (.foldl (fun s z => State.zoneSample_settles _ _ z s) _ _)

/-- A case found by its key stands outside RESOLVED (R120). -/
theorem Case.standing_of_takes {c : Case} {k : Key} (h : c.takes k = true) : c.isResolved = false := by
  simpa using (Bool.and_eq_true_iff.mp h).1

theorem State.pulseDetectors_settles (s : State) : s.pulseDetectors.Settles s := by
  unfold State.pulseDetectors
  extract_lets fd q
  have restarted : q.Settles s := .of_same rfl rfl
  repeat' split
  · exact .refl s
  next c found =>
    exact restarted.then (q.resolveCase_settles (List.mem_of_find?_eq_some found)
      (Case.standing_of_takes (List.find?_some found)))
  · exact restarted
  · exact restarted

theorem State.testExits_settles (s : State) : s.testExits.Settles s := .of_same (by simp) (by simp)

theorem State.pulse_settles (trackerFirst : Bool) (s : State) : (s.pulse trackerFirst).Settles s := by
  unfold State.pulse
  extract_lets smp q
  have travelled : q.Settles s := .of_same rfl rfl
  split
  · exact ((travelled.then q.testExits_settles).then (State.pulseDetectors_settles _)).then (State.commit_settles _)
  · exact ((travelled.then q.pulseDetectors_settles).then (State.testExits_settles _)).then (State.commit_settles _)

end Sys2Proof.Machine
end

section
/-! PROOF. Every command keeps the case table sound and the suspended flags settled (R118, R120, R124). -/

namespace Sys2Proof.Machine

/-! ### Requests -/

theorem State.setLk_settles (s : State) (l : Lk) : (s.setLk l).Settles s := .of_same rfl rfl

/-- A request settles what its owner's answer settles (R180). -/
theorem takeRequest_settles {owner : List Byte → State → Answered} (h : ∀ p s, (owner p s).1.Settles s)
    (kind length : Nat) (inStarting : Bool) (s : State) :
    (takeRequest kind length inStarting owner s).Settles s := by
  have dropped : s.dropRequest.Settles s := .of_same rfl rfl
  have handled : ∀ p, (s.dropRequest.handle length inStarting owner p).1.Settles s := fun p => by
    unfold State.handle
    repeat' split
    · exact dropped
    · exact dropped
    · exact dropped.then (h p _)
  unfold takeRequest
  repeat' split
  · exact .refl s
  · exact ((handled _).then (.of_same (t := State.answer _ _ _) rfl rfl)).then (State.commit_settles _)
  · exact .refl s

theorem State.flushMode_settles (reason : FlushReason) (m : Mode) (cause : HaltCause) (s : State) :
    ((s.flush reason).changeMode m cause).Settles s :=
  (State.flush_settles reason s).then (State.changeMode_settles m cause _)

theorem modePrepareFromStandby_settles (s : State) : (modePrepareFromStandby s).1.Settles s := by
  unfold modePrepareFromStandby
  split
  · exact .refl s
  · exact State.changeMode_settles .prepare .none s

theorem modeRunFromPrepare_settles (s : State) : (modeRunFromPrepare s).1.Settles s := by
  unfold modeRunFromPrepare
  repeat' split
  · exact .refl s
  · exact .refl s
  · exact (State.changeMode_settles .run .none s).thenIf (State.entryEvent_settles _)

theorem modeStandby_settles (force : Bool) (s : State) : (modeStandby force s).1.Settles s := by
  unfold modeStandby
  repeat' split
  · exact State.flushMode_settles .standbyFlush .standby .none s
  · exact .refl s
  · exact State.changeMode_settles .standby .none s

theorem modeTable_settles (target : Mode) (force : Bool) (s : State) :
    (modeTable target force s).1.Settles s := by
  unfold modeTable
  split
  · exact .refl s
  · exact modePrepareFromStandby_settles s
  · exact .refl s
  · exact modeStandby_settles force s
  · exact .refl s
  · exact modeRunFromPrepare_settles s
  · exact modeStandby_settles force s
  · exact State.changeMode_settles .prepare .none s
  · exact .refl s
  · exact State.changeMode_settles .halt .requested s
  · exact State.changeMode_settles .halt .requested s
  · exact State.changeMode_settles .halt .requested s
  · exact .refl s

theorem modeRequest_settles (p : List Byte) (s : State) : (modeRequest p s).1.Settles s := by
  unfold modeRequest
  repeat' split
  · exact .refl s
  · exact .refl s
  · exact .refl s
  · exact modeTable_settles _ _ s

theorem haltClearRequest_settles (p : List Byte) (s : State) : (haltClearRequest p s).1.Settles s := by
  unfold haltClearRequest
  split
  · exact State.flushMode_settles _ _ _ s
  · exact .refl s

theorem zoneLoadRequest_settles (p : List Byte) (s : State) : (zoneLoadRequest p s).1.Settles s := by
  simp only [zoneLoadRequest]
  repeat' split
  · exact .refl s
  · exact .refl s
  · exact .refl s
  · exact .of_same rfl rfl

/-- A CHAN_LOAD restarts the count of a SENSOR case, which decides no suspension (R26, R124). -/
theorem Case.chanLoaded_rank (z : Zone) (q : Quantity) (c : Case) :
    (c.chanLoaded z q).SameRank c ∧ (c.chanLoaded z q).suspended = c.suspended := by
  unfold Case.chanLoaded
  split
  · exact ⟨⟨rfl, rfl, rfl⟩, rfl⟩
  · exact ⟨.refl c, rfl⟩

theorem State.writeCalibration_settles (z : Zone) (q : Quantity) (c : Calibration) (s : State) :
    (s.writeCalibration z q c).Settles s :=
  .of_map (by cases q <;> rfl) (by cases q <;> rfl) (s.writeCalibration_upholds z q c).table
    (Case.chanLoaded_rank z q)

theorem chanLoadRequest_settles (p : List Byte) (s : State) : (chanLoadRequest p s).1.Settles s := by
  simp only [chanLoadRequest]
  repeat' split
  · exact .refl s
  · exact .refl s
  · exact .refl s
  · exact State.writeCalibration_settles _ _ _ s

theorem limitsLoadRequest_settles (p : List Byte) (s : State) : (limitsLoadRequest p s).1.Settles s := by
  simp only [limitsLoadRequest]
  split
  · exact .of_same rfl rfl
  · exact .of_same rfl rfl
  · exact .refl s

theorem zoneOnRequest_settles (p : List Byte) (s : State) : (zoneOnRequest p s).1.Settles s := by
  simp only [zoneOnRequest]
  repeat' split
  all_goals exact .of_same rfl rfl

theorem zoneOffRequest_settles (p : List Byte) (s : State) : (zoneOffRequest p s).1.Settles s := by
  simp only [zoneOffRequest]
  repeat' split
  · exact .refl s
  · exact .refl s
  · exact .refl s
  · exact .of_same (t := State.takeOff _ s) (by simp) (by rw [State.takeOff_pmc])

theorem Case.retry_advances {s : State} {c c' : Case} (h : c.retry s = some c') : c'.Advances c :=
  ⟨Case.retry_continues h, fun _ => by
    unfold Case.retry at h
    split at h
    · cases h; rfl
    · cases h; rfl
    · cases h⟩

theorem caseClearRequest_settles (p : List Byte) (s : State) : (caseClearRequest p s).1.Settles s := by
  unfold caseClearRequest
  split
  · exact .refl s
  next c found =>
    have mem := mem_of_findRequested found
    split
    next state => exact s.resolveCase_settles mem (by simp [Case.isResolved, state])
    next state => exact s.resolveCase_settles mem (by simp [Case.isResolved, state])
    · exact .refl s

theorem caseRetryRequest_settles (p : List Byte) (s : State) : (caseRetryRequest p s).1.Settles s := by
  unfold caseRetryRequest
  split
  · exact .refl s
  next c found =>
    have mem := mem_of_findRequested found
    split
    · exact .refl s
    next c' retried =>
      have linked : ∀ q : State, (q.retryLinks c').Settles q := fun q => .of_same (by simp) (by simp)
      exact ((State.removeMarkers_settles c.id s).then
        (State.changeCase_settles _ (flagged := c) mem (Case.retry_advances retried) rfl)).then (linked _)

/-- A request that only reports. -/
theorem takeRequest_settles_of_report {owner : List Byte → State → Answered} (h : ∀ p s, (owner p s).1 = s)
    (kind length : Nat) (inStarting : Bool) (s : State) :
    (takeRequest kind length inStarting owner s).Settles s :=
  takeRequest_settles (fun p s => .of_same (by rw [h]) (by rw [h])) kind length inStarting s

/-! ### Expiries -/

/-- A case whose timer expires moves on, its flag kept (R134). -/
theorem State.expiring_settles {s : State} {k : Key} {state : CaseState} {step : Step} {c new : Case}
    (found : s.expiring k state step = some c) (same : new.id = c.id ∧ new.proc.key = c.proc.key)
    (flag : new.suspended = c.suspended) : (s.changeCase c new).commit.Settles s := by
  have taken := List.find?_some found
  simp only [Bool.and_eq_true] at taken
  obtain ⟨⟨⟨takes, -⟩, -⟩, -⟩ := taken
  exact (s.changeCase_settles (flagged := c) (List.mem_of_find?_eq_some found)
    ⟨.of_standing (Case.standing_of_takes takes) same, fun _ => flag⟩ rfl).then (State.commit_settles _)

theorem State.localiseExpiry_settles (s : State) : s.localiseExpiry.Settles s := by
  unfold State.localiseExpiry
  split
  next c found =>
    refine State.expiring_settles found (c.judgeLeak_same s) ?_
    unfold Case.judgeLeak
    split
    · simp only
      repeat' split
      all_goals rfl
    · rfl
  · exact .refl s

theorem State.drainExpiry_settles (s : State) : s.drainExpiry.Settles s := by
  unfold State.drainExpiry
  split
  next c found =>
    refine State.expiring_settles found c.toLeakManual_same ?_
    unfold Case.toLeakManual
    split <;> rfl
  · exact .refl s

theorem State.leakVerifyExpiry_settles (s : State) : s.leakVerifyExpiry.Settles s := by
  unfold State.leakVerifyExpiry
  split
  next c found =>
    have taken := List.find?_some found
    simp only [Bool.and_eq_true] at taken
    obtain ⟨⟨⟨takes, -⟩, -⟩, -⟩ := taken
    have watched : s.startLeakWatch.Settles s := .of_same rfl rfl
    exact (watched.then (State.resolveCase_settles _ (List.mem_of_find?_eq_some found)
      (Case.standing_of_takes takes))).then (State.commit_settles _)
  · exact .refl s

theorem State.purgeExpiry_settles (z : Zone) (s : State) : (s.purgeExpiry z).Settles s := by
  unfold State.purgeExpiry
  split
  next c found =>
    refine State.expiring_settles found (c.toRefill_same _) ?_
    unfold Case.toRefill
    split <;> rfl
  · exact .refl s

theorem State.refillExpiry_settles (z : Zone) (s : State) : (s.refillExpiry z).Settles s := by
  unfold State.refillExpiry
  split
  next c found =>
    refine State.expiring_settles found (c.toFailed_same _) ?_
    unfold Case.toFailed Case.failAttempt
    repeat' split
    all_goals rfl
  · exact .refl s

theorem State.dwellExpiry_settles (s : State) : s.dwellExpiry.Settles s := by
  unfold State.dwellExpiry
  split
  · exact .of_same (by simp) (by simp)
  · exact .refl s

theorem State.silenceExpiry_settles (s : State) : s.silenceExpiry.Settles s := by
  unfold State.silenceExpiry
  split
  · have restarted : ∀ fd, (s.setFd fd).Settles s := fun _ => .of_same rfl rfl
    exact (restarted _).then (State.detectEvent_settles _ _)
  · exact .refl s

/-! ### Time, resets and the supply -/

theorem State.writeFailed_cm (snap : Snapshot) (target : Fin 4) (s : State) :
    (s.writeFailed snap target).cm = s.cm := by
  unfold State.writeFailed
  extract_lets marked q
  split
  · rfl
  · rw [State.announceCheckpoint_cm]
    rfl

theorem State.verifyComplete_settles (s : State) : s.verifyComplete.Settles s := by
  refine .of_same ?_ (by simp)
  unfold State.verifyComplete State.writeVerified
  repeat' split
  · simp
  · simp
  · rfl
  · rw [State.writeFailed_cm]
  · rfl

theorem Case.tick_rank (c : Case) : c.tick.SameRank c ∧ c.tick.suspended = c.suspended := by
  unfold Case.tick
  split
  · exact ⟨.refl c, rfl⟩
  · exact ⟨⟨rfl, rfl, rfl⟩, rfl⟩

theorem State.tick_settles (s : State) : s.tick.Settles s := by
  by_cases live : s.live = true
  · refine .of_map (f := Case.tick) ?_ (by simp) s.tick_upholds.table Case.tick_rank
    simp [State.tick, live]
  · simpa [State.tick, live] using State.Settles.refl s

/-- After a reset there is no case (R133). -/
theorem State.endReset_settles (cause : ResetCause) (strap : Baud) (s : State) :
    (s.endReset cause strap).Settles s :=
  ⟨(s.endReset_upholds cause strap).table, fun _ _ c mem => by cases mem⟩

theorem State.goDown_settles (p : Power) (s : State) : (s.goDown p).Settles s := .of_same rfl rfl

/-- The end of STARTING (R170): the mode change evaluates suspension. -/
theorem State.startingEnd_settles (s : State) : s.startingEnd.Settles s := by
  unfold State.startingEnd
  extract_lets q
  have restored : (s.restore.announceRestore.drainRacks).Settles s :=
    .of_same (by simp [State.restore]) (by simp [State.restore])
  have entered : q.Settles s := restored.then (State.changeMode_settles .standby .none _)
  exact (entered.thenIf (.of_same (by simp) (by simp))).then (State.commit_settles _)

/-! ### Commands -/

/-- A command that does something or nothing. -/
theorem settles_ite {t s : State} (b : Prop) [Decidable b] (h : t.Settles s) :
    (if b then t else s).Settles s := (State.Settles.refl s).thenIf h

/-- A reset that ends, or that waits for the other condition (R199). -/
theorem settles_branch {t u s : State} (b : Prop) [Decidable b] (ht : t.Settles s) (hu : u.Settles s) :
    (if b then t else u).Settles s := by
  split
  · exact ht
  · exact hu

theorem unknownKind_settles {s t : State} (h : execUnknownKind s = .next t) : t.Settles s := by
  cases h
  repeat' split
  all_goals exact .of_same rfl rfl

theorem exec_settles : ∀ (c : Instr) {s t : State}, exec c s = .next t → t.Settles s
  | .powerReset _, s, _, rfl => settles_branch _ (s.goDown_settles _) (s.endReset_settles _ _)
  | .pinReset _, s, _, rfl => settles_branch _ (s.goDown_settles _) (s.endReset_settles _ _)
  | .performRestart _, s, _, rfl => settles_ite _ (s.endReset_settles _ _)
  | .startingEnd, s, _, rfl => settles_ite _ s.startingEnd_settles
  | .linkReset, s, _, rfl => settles_ite _ (.of_same rfl rfl)
  | .rxByte _ _, s, _, rfl => settles_ite _ (.of_same rfl rfl)
  | .frameGapTimeout, s, _, rfl => settles_ite _ (.of_same rfl rfl)
  | .unknownKind, _, _, h => unknownKind_settles h
  | .ident, _, _, rfl => takeRequest_settles (fun _ s => .refl s) ..
  | .status, _, _, rfl => takeRequest_settles (fun _ s => .refl s) ..
  | .mode, _, _, rfl => takeRequest_settles modeRequest_settles ..
  | .zoneLoad, _, _, rfl => takeRequest_settles zoneLoadRequest_settles ..
  | .chanLoad, _, _, rfl => takeRequest_settles chanLoadRequest_settles ..
  | .limitsLoad, _, _, rfl => takeRequest_settles limitsLoadRequest_settles ..
  | .zoneOn, _, _, rfl => takeRequest_settles zoneOnRequest_settles ..
  | .zoneOff, _, _, rfl => takeRequest_settles zoneOffRequest_settles ..
  | .zoneRead, _, _, rfl => takeRequest_settles_of_report zoneReadRequest_state ..
  | .linesRead, _, _, rfl => takeRequest_settles_of_report linesReadRequest_state ..
  | .racksRead, _, _, rfl => takeRequest_settles_of_report racksReadRequest_state ..
  | .caseRead, _, _, rfl => takeRequest_settles_of_report caseReadRequest_state ..
  | .caseClear, _, _, rfl => takeRequest_settles caseClearRequest_settles ..
  | .caseRetry, _, _, rfl => takeRequest_settles caseRetryRequest_settles ..
  | .haltClear, _, _, rfl => takeRequest_settles haltClearRequest_settles ..
  | .trace, _, _, rfl => takeRequest_settles (fun p s => by
      simp only [traceRequest]
      repeat' split
      all_goals exact .of_same rfl rfl) ..
  | .restart, _, _, rfl => takeRequest_settles (fun _ _ => .of_same rfl rfl) ..
  | .requestInputChange line on, s, t, h => by
    simp only [exec, execRequestInputChange] at h
    split at h
    · cases h
    · cases h; exact settles_branch _ (.of_same rfl rfl) (.of_same rfl rfl)
  | .holdChange _, s, _, rfl => .of_same rfl rfl
  | .transmitStart, s, _, rfl => settles_ite _ (.of_same rfl rfl)
  | .replySent, s, _, rfl => settles_ite _ (.of_same rfl rfl)
  | .eventNoticeSent, s, _, rfl =>
    settles_ite _ (((s.setLk_settles _).then (State.fillFreed_settles _)).then
      (State.commit_settles _))
  | .outcomeNoticeSent, s, _, rfl =>
    settles_ite _ (((s.setLk_settles _).then (State.drainRacks_settles _)).then
      (State.commit_settles _))
  | .traceNoticeSent, s, _, rfl => settles_ite _ (.of_same rfl rfl)
  | .sampleRound input, s, t, h => by
    simp only [exec, execSampleRound] at h
    split at h
    · cases h
    · cases h; exact settles_ite _ (s.sampleRound_settles input)
  | .encoderPulse _ _, s, _, rfl => settles_ite _ (s.pulse_settles _)
  | .eraseComplete, s, _, rfl => settles_ite _ (.of_same rfl rfl)
  | .programComplete _, s, _, rfl => settles_ite _ (.of_same rfl rfl)
  | .verifyComplete, s, _, rfl => settles_ite _ s.verifyComplete_settles
  | .dwellExpiry, s, _, rfl => settles_ite _ s.dwellExpiry_settles
  | .leakWindowExpiry _, s, _, rfl => settles_ite _ (.of_same rfl rfl)
  | .encoderSilenceExpiry, s, _, rfl => settles_ite _ s.silenceExpiry_settles
  | .localiseExpiry, s, _, rfl => settles_ite _ s.localiseExpiry_settles
  | .drainTimeoutExpiry, s, _, rfl => settles_ite _ s.drainExpiry_settles
  | .leakVerifyExpiry, s, _, rfl => settles_ite _ s.leakVerifyExpiry_settles
  | .leakWatchExpiry, s, _, rfl => settles_ite _ (.of_same rfl rfl)
  | .purgeExpiry zone, s, _, rfl => settles_ite _ (s.purgeExpiry_settles zone)
  | .refillExpiry zone, s, _, rfl => settles_ite _ (s.refillExpiry_settles zone)
  | .powerLost, s, _, rfl => s.goDown_settles _
  | .resetPinAsserted, s, _, rfl => s.goDown_settles _
  | .breakEnd, s, _, rfl => settles_ite _ (.of_same rfl rfl)

theorem step_settles {s t : State} (h : step s = .next t) : t.Settles s := by
  unfold step at h
  split at h
  · cases h
    exact s.tick_settles
  next c rest _ =>
    have taken : State.Settles { s with pending := rest } s := .of_same rfl rfl
    exact taken.then (exec_settles c h)

/-- Settles O16: what a step makes of a sound table. -/
theorem caseTableStaysSound : Obligations.CaseTableStaysSound := by
  unfold Obligations.CaseTableStaysSound
  exact fun _ _ sound h => (step_upholds h).table sound

/-- Settles O17: what a step makes of settled flags. -/
theorem suspensionStaysSettled : Obligations.SuspensionStaysSettled := by
  unfold Obligations.SuspensionStaysSettled
  exact fun _ _ sound settled h => (step_settles h).flags sound settled

end Sys2Proof.Machine
end

section
/-! PROOF. Which cases are suspended, and what a case claims on the lines (R57, R58, R124, R125, table 8.10). -/

namespace Sys2Proof.Machine

/-! ### Which cases are suspended -/

/-- One case outranks another: it isolates or acts, and its kind is of strictly higher severity (R124). -/
theorem Case.outranks_iff (o c : Case) :
    o.outranks c = true
      ↔ (o.state = .isolating ∨ o.state = .acting)
        ∧ ∃ a b, o.proc.kind.severity = some a ∧ c.proc.kind.severity = some b ∧ a < b := by
  have suspends : o.state.suspends = true ↔ o.state = .isolating ∨ o.state = .acting := by
    cases o.state <;> simp [CaseState.suspends]
  rw [Case.outranks, Bool.and_eq_true, suspends]
  refine and_congr_right fun _ => ?_
  split
  next a b ha hb => simp [ha, hb]
  next unranked =>
    constructor
    · exact fun h => by cases h
    · rintro ⟨a, b, ha, hb, -⟩
      exact absurd hb (unranked a b ha)

/-- The condition under which a case of a table is suspended (R124): no case outranks itself. -/
theorem Case.heldBack_iff {table : List Case} (once : (table.map (·.id)).Nodup) {c : Case} (mem : c ∈ table)
    (mode : Mode) :
    c.heldBack mode table = true
      ↔ c.state ≠ .resolved ∧ (mode = .halt ∨ ∃ o ∈ table, o.outranks c = true) := by
  have other : ∀ o ∈ table, o.outranks c = true → o.id ≠ c.id := fun o ho outranks own => by
    obtain ⟨-, a, b, ha, hb, lt⟩ := (o.outranks_iff c).mp outranks
    rw [eq_of_mem_of_id once mem ho own, hb, Option.some.injEq] at ha
    omega
  simp only [Case.heldBack, Case.isResolved, Bool.and_eq_true, Bool.or_eq_true, Bool.not_eq_true',
    decide_eq_true_eq, decide_eq_false_iff_not, List.any_eq_true, bne_iff_ne]
  exact and_congr_right fun _ => or_congr_right
    ⟨fun ⟨o, ho, _, outranks⟩ => ⟨o, ho, outranks⟩, fun ⟨o, ho, outranks⟩ => ⟨o, ho, other o ho outranks, outranks⟩⟩

/-! ### The claims of a case -/

theorem mem_blockOn {ids : List LineId} {id : LineId} {k : ClaimKind} :
    (id, k) ∈ blockOn ids ↔ id ∈ ids ∧ k = .block := by
  simp [blockOn, eq_comm]

theorem mem_forceOn {ids : List LineId} {id : LineId} {k : ClaimKind} :
    (id, k) ∈ forceOn ids ↔ id ∈ ids ∧ k = .force := by
  simp [forceOn, eq_comm]

/-- A set that asks for at most one kind on a line, line by line. -/
theorem ClaimSet.on_of_disjoint {cs : ClaimSet} {id : LineId}
    (disjoint : (id, ClaimKind.block) ∈ cs → (id, ClaimKind.force) ∉ cs) :
    cs.on id
      = if (id, ClaimKind.block) ∈ cs then some .block
        else if (id, ClaimKind.force) ∈ cs then some .force else none := by
  cases found : cs.find? fun c => c.1 = id with
  | none =>
    have absent : ∀ k, (id, k) ∉ cs := fun k mem => by simpa using List.find?_eq_none.mp found _ mem
    simp [ClaimSet.on, found, absent]
  | some c =>
    obtain ⟨l, k⟩ := c
    obtain rfl : l = id := by simpa using List.find?_some found
    have mem : (l, k) ∈ cs := List.mem_of_find?_eq_some found
    cases k with
    | block => simp [ClaimSet.on, found, mem]
    | force =>
      have free : (l, ClaimKind.block) ∉ cs := fun block => disjoint block mem
      simp [ClaimSet.on, found, mem, free]

/-- The lines on which a case would have a BLOCK, and those on which a FORCE, were it not suspended; none is in
both lists (table 8.10). -/
structure Case.Wants (c : Case) (blocks forces : List LineId) : Prop where
  block : ∀ id, (id, ClaimKind.block) ∈ c.wanted ↔ id ∈ blocks
  force : ∀ id, (id, ClaimKind.force) ∈ c.wanted ↔ id ∈ forces
  disjoint : ∀ id ∈ forces, id ∉ blocks

/-- The claims that a case has on the lines and those that it holds back are the given ones (R58, R125). -/
def State.CaseHolds (s : State) (c : Case) (blocks forces : List LineId) : Prop :=
  (∀ id, s.lg.claimOf (.ofCase c.id) id
    = if id ∈ blocks then some .block
      else if id ∈ forces ∧ c.suspended = false then some .force
      else none)
  ∧ ∀ id, (id, ClaimKind.force) ∈ c.held ↔ id ∈ forces ∧ c.suspended = true

theorem Case.mem_held (c : Case) (id : LineId) :
    (id, ClaimKind.force) ∈ c.held ↔ (id, ClaimKind.force) ∈ c.wanted ∧ c.suspended = true := by
  cases flag : c.suspended <;> simp [Case.held, flag, ClaimSet.ofKind]

theorem Case.mem_posted_block (c : Case) (id : LineId) :
    (id, ClaimKind.block) ∈ c.posted ↔ (id, ClaimKind.block) ∈ c.wanted := by
  cases flag : c.suspended <;> simp [Case.posted, flag, ClaimSet.ofKind]

/-- A suspended case posts its BLOCKs alone (R125). -/
theorem Case.posted_on_of_suspended {c : Case} (flag : c.suspended = true) (id : LineId) :
    c.posted.on id = if (id, ClaimKind.block) ∈ c.wanted then some .block else none := by
  rw [Case.posted, if_pos flag, ClaimSet.on_ofKind]

theorem Case.Wants.posted_on {c : Case} {blocks forces : List LineId} (h : c.Wants blocks forces) (id : LineId) :
    c.posted.on id
      = if id ∈ blocks then some .block
        else if id ∈ forces ∧ c.suspended = false then some .force
        else none := by
  cases flag : c.suspended
  · rw [Case.posted, flag, if_neg (by simp), ClaimSet.on_of_disjoint]
    · simp [h.block, h.force]
    · rw [h.block, h.force]
      exact fun block force => h.disjoint id force block
  · simp [Case.posted_on_of_suspended flag, h.block]

/-- Where the claims stand, those of a case are what its record posts (R57). -/
theorem State.ClaimsStand.claimOf_case {s : State} (claims : s.ClaimsStand) (once : (s.cm.table.map (·.id)).Nodup)
    {c : Case} (mem : c ∈ s.cm.table) (id : LineId) : s.lg.claimOf (.ofCase c.id) id = c.posted.on id := by
  rw [claims.claimOf, State.ownerWants_ofCase, findCase_of_mem once mem]
  rfl

theorem Case.Wants.holds {c : Case} {blocks forces : List LineId} (h : c.Wants blocks forces) {s : State}
    (claims : s.ClaimsStand) (once : (s.cm.table.map (·.id)).Nodup) (mem : c ∈ s.cm.table) :
    s.CaseHolds c blocks forces :=
  ⟨fun id => by rw [claims.claimOf_case once mem, h.posted_on], fun id => by rw [c.mem_held, h.force]⟩

/-! ### Table 8.10 -/

/-- A record whose table row has BLOCKs only. -/
theorem Case.Wants.of_blocks {c : Case} {blocks : List LineId} (h : c.wanted = blockOn blocks) :
    c.Wants blocks [] :=
  ⟨fun id => by simp [h, mem_blockOn], fun id => by simp [h, mem_blockOn], by simp⟩

/-- A record whose table row has BLOCKs, then FORCEs, then further BLOCKs. -/
theorem Case.Wants.of_parts {c : Case} {blocks forces more : List LineId}
    (h : c.wanted = blockOn blocks ++ (forceOn forces ++ blockOn more))
    (disjoint : ∀ id ∈ forces, id ∉ blocks ++ more) : c.Wants (blocks ++ more) forces :=
  ⟨fun id => by simp [h, mem_blockOn, mem_forceOn], fun id => by simp [h, mem_blockOn, mem_forceOn], disjoint⟩

section
variable {c : Case}

theorem Case.wants_of_resolved (h : c.state = .resolved) : c.Wants [] [] :=
  .of_blocks (by cases e : c.proc <;> simp [Case.wanted, blockOn, e, h])

section
variable {source : LeakSource} {leaking unassessed : ZoneSet} {refs : Four (Option Nat)}
  (proc : c.proc = .leak source leaking unassessed refs)
include proc

theorem Case.wants_leak_isolating (h : c.state = .isolating) :
    c.Wants (Four.indices.map .fill ++ Four.indices.map .pump ++ [.conveyor]) [] :=
  .of_blocks (by rw [Case.wanted, proc, h]; rfl)

theorem Case.wants_leak_acting (h : c.state = .acting) :
    c.Wants
      (Four.indices.map .fill ++ Four.indices.map .pump ++ [.conveyor]
        ++ ((zonesIn leaking).map .heatA ++ (zonesIn leaking).map .heatB))
      ((zonesIn leaking).map .drain) :=
  .of_parts (by rw [Case.wanted, proc, h]; rfl) fun id drain => by
    obtain ⟨z, -, rfl⟩ := List.mem_map.mp drain
    simp

theorem Case.wants_leak_verifying (h : c.state = .verifying) : c.Wants (Four.indices.map .fill) [] :=
  .of_blocks (by rw [Case.wanted, proc, h])

theorem Case.wants_leak_manual (h : c.state = .manual) : c.Wants (Four.indices.map .fill ++ [.conveyor]) [] :=
  .of_blocks (by rw [Case.wanted, proc, h])

end

section
variable {z : Zone} {pressure attempt goal : Nat} (proc : c.proc = .filter z pressure attempt goal)
include proc

theorem Case.wants_filter_acting (h : c.state = .acting) :
    c.Wants [.conveyor, .pump z, .heatA z, .heatB z] [if c.step = .refill then .fill z else .drain z] := by
  have parts := Case.Wants.of_parts (c := c) (blocks := [.conveyor, .pump z, .heatA z, .heatB z])
    (forces := [if c.step = .refill then .fill z else .drain z]) (more := [])
    (by rw [Case.wanted, proc, h]; rfl) fun id force => by
      rw [List.mem_singleton.mp force]
      split <;> simp
  simpa using parts

theorem Case.wants_filter_verifying (h : c.state = .verifying) : c.Wants [.conveyor] [] :=
  .of_blocks (by rw [Case.wanted, proc, h])

theorem Case.wants_filter_manual (h : c.state = .manual) : c.Wants [.conveyor, .pump z] [] :=
  .of_blocks (by rw [Case.wanted, proc, h])

end

section
variable {z : Zone} {k sum : Nat} {a b : Bool} (proc : c.proc = .heaterOpen z k a b sum)
include proc

theorem Case.wants_heaterOpen_isolating (h : c.state = .isolating) :
    c.Wants [if c.step = .testB then .heatA z else .heatB z] [] :=
  .of_blocks (by rw [Case.wanted, proc, h])

theorem Case.wants_heaterOpen_degraded (h : c.state = .degraded) :
    c.Wants ((if a then [.heatA z] else []) ++ if b then [.heatB z] else []) [] :=
  .of_blocks (by rw [Case.wanted, proc, h])

end

theorem Case.wants_heaterStuck {z : Zone} {current low : Nat} (proc : c.proc = .heaterStuck z current low)
    (h : c.state = .isolating ∨ c.state = .manual) : c.Wants [.main, .heatA z, .heatB z] [] := by
  obtain state | state := h
  · exact .of_blocks (by rw [Case.wanted, proc, state])
  · exact .of_blocks (by rw [Case.wanted, proc, state])

theorem Case.wants_overtemp_acting {z : Zone} {temperature : Nat} (proc : c.proc = .overtemp z temperature)
    (h : c.state = .acting) : c.Wants [.heatA z, .heatB z] [] :=
  .of_blocks (by rw [Case.wanted, proc, h])

theorem Case.wants_overtemp_manual {z : Zone} {temperature : Nat} (proc : c.proc = .overtemp z temperature)
    (h : c.state = .manual) : c.Wants [.heatA z, .heatB z, .main] [] :=
  .of_blocks (by rw [Case.wanted, proc, h])

/-- A SENSOR case claims nothing (R156, R157). -/
theorem Case.wants_sensor (h : (∃ z q, c.proc = .sensor z q) ∨ c.proc = .travel) : c.Wants [] [] := by
  obtain ⟨z, q, proc⟩ | proc := h
  · exact .of_blocks (by simp [Case.wanted, proc, blockOn])
  · exact .of_blocks (by simp [Case.wanted, proc, blockOn])

end

/-! ### A suspended case stands still -/

theorem State.mem_tick_of_suspended {s : State} {c : Case} (mem : c ∈ s.cm.table) (flag : c.suspended = true) :
    c ∈ s.tick.cm.table := by
  by_cases live : s.live = true
  · have same : c.tick = c := if_pos flag
    simp only [State.tick, live, if_true]
    exact List.mem_map.mpr ⟨c, mem, same⟩
  · simpa [State.tick, live] using mem

theorem State.caseSample_of_suspended {s : State} (once : (s.cm.table.map (·.id)).Nodup) {c : Case}
    (mem : c ∈ s.cm.table) (flag : c.suspended = true) (z : Zone) (rec : ZoneRecord) (lines : Lines)
    (r : Quad Reading) : s.caseSample z rec lines r c.id = s := by
  rw [State.caseSample, findCase_of_mem once mem]
  exact if_pos flag

/-- Settles O18: the flag by R124's condition, a suspended case by R125, the claims by the rows of table 8.10. -/
theorem suspendedCasesHoldNoForce : Obligations.SuspendedCasesHoldNoForce := by
  unfold Obligations.SuspendedCasesHoldNoForce
  intro s c sound settled claims mem
  have once := sound.2.1
  have suspended_iff := (settled c mem ▸ Case.heldBack_iff once mem s.pmc.mode :
    c.suspended = true ↔ _)
  have row : ∀ {blocks forces}, c.Wants blocks forces → s.CaseHolds c blocks forces :=
    fun h => h.holds claims once mem
  refine ⟨fun halt stands => ?_, fun flag => ⟨State.mem_tick_of_suspended mem flag,
    fun z rec lines r => State.caseSample_of_suspended once mem flag z rec lines r⟩, fun flag id => ⟨?_, ?_, ?_⟩,
    ?_, ?_⟩
  · exact suspended_iff.mpr ⟨by simpa [Case.isResolved] using stands, .inl halt⟩
  · rw [claims.claimOf_case once mem, Case.posted_on_of_suspended flag]
    split <;> simp
  · simp [c.mem_held, flag]
  · exact c.mem_posted_block id
  · intro severity
    have ranks : ∀ p, severity p = p.kind.severity := fun p => by cases p <;> rfl
    simp only [suspended_iff, Case.outranks_iff, ranks]
  · intro holds fills pumps
    refine ⟨fun state => row (Case.wants_of_resolved state), fun src leaking un refs proc => ?_,
      fun z p a g proc => ?_, fun z k a b sum proc => ?_,
      fun z i n proc state => row (Case.wants_heaterStuck proc state),
      fun z v proc => ⟨fun state => row (Case.wants_overtemp_acting proc state),
        fun state => row (Case.wants_overtemp_manual proc state)⟩,
      fun proc => row (Case.wants_sensor proc)⟩
    · intro tanks
      refine ⟨fun state => row (Case.wants_leak_isolating proc state), fun state => ?_,
        fun state => row (Case.wants_leak_verifying proc state),
        fun state => row (Case.wants_leak_manual proc state)⟩
      have acting := row (Case.wants_leak_acting proc state)
      rw [← List.append_assoc] at acting
      exact acting
    · refine ⟨fun state step => ?_, fun state step => ?_,
        fun state => row (Case.wants_filter_verifying proc state),
        fun state => row (Case.wants_filter_manual proc state)⟩
      · have acting := row (Case.wants_filter_acting proc state)
        rwa [step, if_neg (by decide)] at acting
      · have acting := row (Case.wants_filter_acting proc state)
        rwa [step, if_pos rfl] at acting
    · refine ⟨fun state step => ?_, fun state step => ?_,
        fun state => row (Case.wants_heaterOpen_degraded proc state)⟩
      · have testing := row (Case.wants_heaterOpen_isolating proc state)
        rwa [step, if_neg (by decide)] at testing
      · have testing := row (Case.wants_heaterOpen_isolating proc state)
        rwa [step, if_pos rfl] at testing

end Sys2Proof.Machine
end

section
/-! PROOF. CASE_CLEAR (R3, R57, R128, R195): its refusals and the end of a case. -/

namespace Sys2Proof.Machine

theorem exec_caseClear (s : State) :
    exec .caseClear s = .next (takeRequest 0x0D 1 false caseClearRequest s) := rfl

/-! ### The case a request names -/

section
variable {table : List Case} {b : Byte}

/-- A request for the id 0, or for one that no case carries, names none (R133, R195). -/
theorem findRequested_none (h : b = 0 ∨ ∀ c ∈ table, c.id ≠ b.toNat) :
    (if u8 [b] 0 = 0 then none else findCase table (u8 [b] 0)) = none := by
  obtain rfl | absent := h
  · rfl
  · split
    · rfl
    · exact List.find?_eq_none.mpr fun c mem own => absent c mem (by simpa [u8] using own)

theorem findRequested_mem (once : (table.map (·.id)).Nodup) {c : Case} (mem : c ∈ table) (own : c.id = b.toNat)
    (real : b ≠ 0) : (if u8 [b] 0 = 0 then none else findCase table (u8 [b] 0)) = some c := by
  have operand : u8 [b] 0 = c.id := own.symm
  have nonzero : c.id ≠ 0 := fun h => real (BitVec.eq_of_toNat_eq (own.symm.trans h))
  rw [operand, if_neg nonzero, findCase_of_mem once mem]

end

section
variable {s : State} {b : Byte}

theorem caseClearRequest_none (h : b = 0 ∨ ∀ c ∈ s.cm.table, c.id ≠ b.toNat) :
    caseClearRequest [b] s = (s, [0x16]) := by
  unfold caseClearRequest
  rw [findRequested_none h]
  rfl

section
variable {c : Case} (once : (s.cm.table.map (·.id)).Nodup) (mem : c ∈ s.cm.table) (own : c.id = b.toNat)
  (real : b ≠ 0)
include once mem own real

theorem caseClearRequest_refused (manual : c.state ≠ .manual) (degraded : c.state ≠ .degraded) :
    caseClearRequest [b] s = (s, [0x17]) := by
  unfold caseClearRequest
  rw [findRequested_mem once mem own real]
  dsimp only
  split
  next state => exact absurd state manual
  next state => exact absurd state degraded
  · rfl

theorem caseClearRequest_taken (h : c.state = .manual ∨ c.state = .degraded) :
    caseClearRequest [b] s = (s.resolveCase c, [0x00]) := by
  unfold caseClearRequest
  rw [findRequested_mem once mem own real]
  obtain state | state := h
  · simp only [state]
    rfl
  · simp only [state]
    rfl

end

/-! ### The end of a case -/

section
variable {c : Case} (stands : c.isResolved = false)
include stands

theorem State.resolveCase_rt : (s.resolveCase c).rt = s.rt := by
  simp [State.resolveCase_eq stands, State.caseResolved]

theorem State.resolveCase_du : (s.resolveCase c).du = s.du := by
  simp [State.resolveCase_eq stands, State.caseResolved]

end

/-- What only adds events to the link leaves its receive side (R175, R182). -/
theorem Lk.OnlyEvents.rx {l k : Lk} (h : l.OnlyEvents k) : l.rx = k.rx := by
  obtain ⟨more, flag, rfl⟩ := h
  rfl

end

/-- Cases that are kept are kept where the table is the same. -/
theorem State.KeepsOtherCases.congr {t u s : State} {id : Nat} (h : t.KeepsOtherCases s id)
    (table : u.cm.table = t.cm.table) : u.KeepsOtherCases s id := by
  rwa [State.KeepsOtherCases, table]

/-- A taken request that has been answered and ended leaves its owner's state but for the reply and the store
(R162, R180). -/
theorem State.answered_repliesTo {q s : State} (rx : q.lk.rx = s.lk.rx.dropHead) (r : Request) (p : List Byte) :
    (q.answer r p).commit.RepliesTo s r p := by
  simpa [State.RepliesTo] using State.answer_repliesTo rx r p

/-- Settles O22: no case, a case in another state, a case that ends. -/
theorem caseClearEndsACase : Obligations.CaseClearEndsACase := by
  unfold Obligations.CaseClearEndsACase
  intro s r b asks sound kind payload started
  have once := sound.2.1
  have hk : r.kind.toNat = 0x0D := by rw [kind]; rfl
  have one : r.payload.length = 1 := by rw [payload]; rfl
  refine ⟨fun none => ?_, fun c mem own real => ⟨fun manual degraded => ?_, fun ends => ?_⟩⟩
  · rw [exec_caseClear, read_answered asks payload started hk (caseClearRequest_none (s := s.dropRequest) none)]
  · rw [exec_caseClear, read_answered asks payload started hk
      (caseClearRequest_refused (s := s.dropRequest) once mem own real manual degraded)]
  · have stands : c.isResolved = false := by
      obtain state | state := ends <;> simp [Case.isResolved, state]
    have taken := takeRequest_of_asks false asks started hk one
      (payload ▸ caseClearRequest_taken (s := s.dropRequest) once mem own real ends)
    have rx := (s.dropRequest.resolveCase_kept c).lk.rx
    have pmc : (s.dropRequest.resolveCase c).pmc = (s.removeMarkers c.id).pmc := State.resolveCase_pmc stands
    refine ⟨_, by rw [exec_caseClear, taken], State.answered_repliesTo rx r _,
      (State.resolveCase_ended (s := s.dropRequest) mem stands).congr (fun l => by simp) (by simp) (by simp) rfl,
      (State.resolveCase_keepsOthers (s := s.dropRequest) once stands).congr (by simp), ?_, ?_, ?_, fun z => ?_, ?_, ?_, ?_⟩
    · simp [State.resolveCase_rt stands]
    · simp
    · simp [State.resolveCase_du stands]
    · simp [pmc, State.removeMarkers]
    · simp [pmc, State.removeMarkers]
    · simp
    · simp [State.SameOutside]

end Sys2Proof.Machine
end

section
/-! PROOF. A detection with the table full (R20, R122). -/

namespace Sys2Proof.Machine

theorem State.announceCase_nextId (s : State) (c : Case) : (s.announceCase c).cm.nextId = s.cm.nextId := by
  unfold State.announceCase State.serveCase
  simp only
  repeat' split
  all_goals rfl

theorem State.evaluateSuspension_nextId (s : State) : s.evaluateSuspension.cm.nextId = s.cm.nextId :=
  State.evaluateSuspension_induct (P := fun t => t.cm.nextId = s.cm.nextId) (fun _ _ h => h) (fun _ _ h => h)
    (fun t c h => (t.announceCase_nextId c).trans h) rfl

/-- A detection whose key no case has outside RESOLVED. -/
theorem find?_takes_eq_none {table : List Case} {k : Key} (h : ∀ c ∈ table, c.takes k = false) :
    table.find? (Case.takes k) = none :=
  List.find?_eq_none.mpr fun c mem => Bool.eq_false_iff.mp (h c mem)

/-- A detection that finds the table full halts the machine (R122). -/
theorem State.detect_of_full {s : State} {d : Detection} (full : 8 ≤ s.cm.table.length)
    (free : ∀ c ∈ s.cm.table, c.takes d.key = false) : s.detect d = s.automaticHalt .caseTableFull := by
  rw [State.detect, find?_takes_eq_none free]
  exact if_neg (Nat.not_lt.mpr full)

/-- The evaluation of suspension in HALT drops no case but RESOLVED ones, and opens none (R124). -/
theorem State.changeMode_ids (m : Mode) (cause : HaltCause) (s : State) :
    ((s.changeMode m cause).cm.table.map (·.id)).Sublist (s.cm.table.map (·.id)) := by
  have ids := foldl_suspendOrResume_ids ((s.enterMode m cause).cm.table.map (·.id)) (s.enterMode m cause)
  have entered : (s.enterMode m cause).cm.table = s.cm.table := by rw [State.enterMode_cm]
  exact entered ▸ ids

theorem State.automaticHalt_of_running {s : State} (halt : s.pmc.mode ≠ .halt) (starting : s.pmc.mode ≠ .starting)
    (cause : HaltCause) : s.automaticHalt cause = s.changeMode .halt cause := by
  unfold State.automaticHalt
  split
  next h => exact absurd h halt
  next h => exact absurd h starting
  · rfl

theorem State.automaticHalt_of_still {s : State} (h : s.pmc.mode = .halt ∨ s.pmc.mode = .starting)
    (cause : HaltCause) : s.automaticHalt cause = s := by
  obtain mode | mode := h <;> simp [State.automaticHalt, mode]

/-- A change of mode leaves the cases as they are: no id is used, none opens (R22). -/
theorem State.changeMode_nextId (m : Mode) (cause : HaltCause) (s : State) :
    (s.changeMode m cause).cm.nextId = s.cm.nextId := by
  rw [State.changeMode, State.evaluateSuspension_nextId, State.enterMode_cm]

/-- Settles O20: in HALT and in STARTING the state stays, else the mode changes. -/
theorem fullTableHalts : Obligations.FullTableHalts := by
  unfold Obligations.FullTableHalts
  intro s d full free
  rw [State.detect_of_full full free]
  by_cases still : s.pmc.mode = .halt ∨ s.pmc.mode = .starting
  · rw [State.automaticHalt_of_still still]
    exact ⟨rfl, fun c mem => ⟨c, mem, rfl⟩, le_refl _, fun _ => rfl,
      fun halt starting => absurd still (by simp [halt, starting])⟩
  · obtain ⟨halt, starting⟩ := not_or.mp still
    rw [State.automaticHalt_of_running halt starting]
    have ids := State.changeMode_ids .halt .caseTableFull s
    have entered := State.changeMode_modeEntered (q := s) (s := s)
      ⟨rfl, rfl, rfl, ⟨s.ck.trigger, rfl⟩, rfl, .refl s⟩ .halt .caseTableFull
    refine ⟨State.changeMode_nextId .halt .caseTableFull s, fun c mem => ?_, ?_, fun h => absurd h halt,
      fun _ _ => ⟨entered.pmc, by simp, by rw [entered.ck], fun id => by simp [entered.claims],
        fun sound o mem stands => ?_⟩⟩
    · exact List.mem_map.mp (ids.subset (List.mem_map_of_mem mem))
    · simpa using ids.length_le
    · exact foldl_suspendOrResume_keeps _ (s := s.enterMode .halt .caseTableFull)
        (by rw [State.enterMode_cm]; exact sound.2.1) (by rwa [State.enterMode_cm]) stands

end Sys2Proof.Machine
end

section
/-! PROOF. What a change of a case leaves (R124, R127, R131, R134), and CASE_RETRY (R129, R143, R148). -/

namespace Sys2Proof.Machine

/-! ### What a change of a case leaves -/

theorem State.announceCase_changesOnly (s : State) (c : Case) :
    ChangesOnly c.id (s.announceCase c).cm.table s.cm.table := by
  rw [State.announceCase_table]
  repeat' split
  · exact removeCase_changesOnly _ _
  · exact replaceCase_changesOnly _ { c with announce := false }
  · exact replaceCase_changesOnly _ { c with announce := true }

/-- A case outside RESOLVED stays in the table when it is announced (R131, R132). -/
theorem State.announceCase_mem {s : State} {old c : Case} (mem : old ∈ s.cm.table) (id : c.id = old.id)
    (stands : c.isResolved = false) : ∃ b, { c with announce := b } ∈ (s.announceCase c).cm.table := by
  have put : ∀ b, { c with announce := b } ∈ replaceCase s.cm.table { c with announce := b } := fun b =>
    mem_replaceCase.mpr (.inl ⟨rfl, old, mem, id.symm⟩)
  rw [State.announceCase_table, stands]
  split
  · exact ⟨false, put false⟩
  · exact ⟨true, put true⟩

/-- What a change to a record outside RESOLVED has made, suspension evaluated: the record but for its two flags,
the other cases, the reports to the Rack Tracker and the markers (R127, R134). -/
structure State.CaseChanged (t s : State) (old new : Case) : Prop where
  record : ∃ x ∈ t.cm.table, x.bare = new.bare
  others : t.KeepsOtherCases s new.id
  rt : t.rt = s.rt.caseChanged old new s.pmc.zones s.smp.travel
  pmc : t.pmc = ((old.gainedMarks new).foldl (State.addMarker new.id) s).pmc
  smp : t.smp = s.smp

/-- The cases outside RESOLVED of a table pass into another but for the two flags. -/
def KeepsCases (t s : List Case) : Prop := ∀ o ∈ s, o.isResolved = false → ∃ x ∈ t, x.bare = o.bare

theorem KeepsCases.refl (s : List Case) : KeepsCases s s := fun o mem _ => ⟨o, mem, rfl⟩

theorem State.evaluateSuspension_keepsCases {s : State} (once : (s.cm.table.map (·.id)).Nodup) :
    KeepsCases s.evaluateSuspension.cm.table s.cm.table :=
  fun _ mem stands => foldl_suspendOrResume_keeps _ once mem stands

theorem State.settleAfter_keepsCases {s : State} (once : (s.cm.table.map (·.id)).Nodup) (old new : Case) :
    KeepsCases (s.settleAfter old new).cm.table s.cm.table := by
  unfold State.settleAfter
  split
  · exact State.evaluateSuspension_keepsCases once
  · exact .refl _

theorem State.changeCase_changed {s : State} (once : (s.cm.table.map (·.id)).Nodup) {stored new : Case}
    (mem : stored ∈ s.cm.table) (id : new.id = stored.id) (stands : new.isResolved = false) (old : Case) :
    (s.changeCase old new).CaseChanged s old new := by
  obtain ⟨q, taken, stages⟩ := s.alterCase_stages old new
  have put : ChangesOnly new.id q.cm.table s.cm.table := by
    rw [taken.cm]
    exact replaceCase_changesOnly s.cm.table new
  have stays : new ∈ q.cm.table := taken.mem mem id
  have altered : (∃ b, { new with announce := b } ∈ (s.alterCase old new).cm.table)
      ∧ ChangesOnly new.id (s.alterCase old new).cm.table q.cm.table
      ∧ (s.alterCase old new).rt = q.rt ∧ (s.alterCase old new).pmc = q.pmc := by
    have announced := State.announceCase_mem stays rfl stands
    have changes := q.announceCase_changesOnly new
    rw [stages]
    repeat' split
    · exact ⟨announced, changes, by simp, by simp⟩
    · exact ⟨announced, changes, by simp, by simp⟩
    · exact ⟨⟨new.announce, stays⟩, .refl _ _, rfl, rfl⟩
  obtain ⟨⟨b, record⟩, changes, rt, pmc⟩ := altered
  have all := changes.trans put
  have keeps := State.settleAfter_keepsCases (once.sublist all.ids) old new
  exact ⟨keeps { new with announce := b } record stands, fun o ho other => keeps o ((all.others o other).mpr ho),
    by rw [State.changeCase, State.settleAfter_rt, rt, taken.rt],
    by rw [State.changeCase, State.settleAfter_pmc, pmc, taken.zones], by simp⟩

/-! ### The reports of a change -/

theorem Case.Wants.blocksPump {c : Case} {blocks forces : List LineId} (h : c.Wants blocks forces) (z : Zone) :
    c.blocksPump z = decide (LineId.pump z ∈ blocks) := by
  rw [Bool.eq_iff_iff, Case.blocksPump, List.contains_iff_mem, c.mem_posted_block, h.block, decide_eq_true_eq]

section
variable {rt : Rt} {old new : Case} {zones : Four ZoneSlot} {travel : Word32}

/-- A LEAK case that enters ISOLATING or ACTING links every rack (R127). -/
theorem Rt.caseChanged_of_leak (entered : old.state ≠ new.state) (leak : new.leakHandling = true) :
    rt.caseChanged old new zones travel = rt.linkAll new.id := by
  have not_manual : new.state ≠ .manual := fun h => by
    simp [Case.leakHandling, h, CaseState.suspends] at leak
  simp [Rt.caseChanged, entered, leak, not_manual, Rt.linkAll_linkPumps]

/-- A change that neither enters ISOLATING or ACTING in a LEAK case nor MANUAL reports the pumps alone. -/
theorem Rt.caseChanged_of_pumps (leak : old.state = new.state ∨ new.leakHandling = false)
    (manual : old.state = new.state ∨ new.state ≠ .manual) :
    rt.caseChanged old new zones travel = rt.linkPumps (Case.gainsPump (some old) new) zones travel new.id := by
  obtain same | quiet := leak
  · simp [Rt.caseChanged, same]
  · obtain same | elsewhere := manual
    · simp [Rt.caseChanged, same]
    · simp [Rt.caseChanged, quiet, elsewhere]

/-- A case that enters MANUAL, not a LEAK case, or one that gains no pump (R78). -/
theorem Rt.caseChanged_of_manual (entered : old.state ≠ new.state) (manual : new.state = .manual) :
    rt.caseChanged old new zones travel
      = (rt.linkPumps (Case.gainsPump (some old) new) zones travel new.id).manual new.id := by
  have entered : old.state ≠ .manual := manual ▸ entered
  simp [Rt.caseChanged, entered, manual, Case.leakHandling, CaseState.suspends]

end

/-- A case gains no pump that it has blocked before. -/
theorem Case.gainsPump_false {old new : Case} {a b fa fb : List LineId} (ho : old.Wants a fa)
    (hn : new.Wants b fb) (sub : ∀ z : Zone, LineId.pump z ∈ b → LineId.pump z ∈ a) (z : Zone) :
    Case.gainsPump (some old) new z = false := by
  by_cases gained : LineId.pump z ∈ b
  · simp [Case.gainsPump, ho.blocksPump, hn.blocksPump, sub z gained]
  · simp [Case.gainsPump, hn.blocksPump, gained]

/-! ### What a localisation starts from -/

section
variable {zones : Four ZoneSlot} {chs : Four (Quad Channel)}

/-- The unassessed tanks are the configured ones without a VALID level (R135). -/
theorem leakUnassessed_eq {f : Zone → Bool}
    (h : ∀ z, f z = ((zones.get z).slot.record.isSome && (chs.get z).level.reading.trusted.isNone)) :
    leakUnassessed zones chs = Four.ofFn f :=
  congrArg Four.ofFn (funext fun z => (h z).symm)

/-- The references are the VALID levels of the configured tanks (R135). -/
theorem leakReferences_eq {f : Zone → Option Nat}
    (h : ∀ z, f z = (zones.get z).slot.record.bind fun _ => (chs.get z).level.reading.trusted) :
    leakReferences zones chs = Four.ofFn f :=
  congrArg Four.ofFn (funext fun z => by
    rw [h]
    cases (zones.get z).slot.record <;> rfl)

end

/-! ### CASE_RETRY -/

theorem exec_caseRetry (s : State) :
    exec .caseRetry s = .next (takeRequest 0x0E 1 false caseRetryRequest s) := rfl

section
variable {s : State} {b : Byte}

theorem caseRetryRequest_none (h : b = 0 ∨ ∀ c ∈ s.cm.table, c.id ≠ b.toNat) :
    caseRetryRequest [b] s = (s, [0x16]) := by
  unfold caseRetryRequest
  rw [findRequested_none h]
  rfl

/-- The cases that CASE_RETRY does not take (R129). -/
theorem Case.retry_none {c : Case} (h : c.state ≠ .manual ∨ (c.proc.kind ≠ .filter ∧ c.proc.kind ≠ .leak)) :
    c.retry s = none := by
  unfold Case.retry
  split
  next state proc => exact absurd h (by simp [state, proc, Proc.kind])
  next state proc => exact absurd h (by simp [state, proc, Proc.kind])
  · rfl

section
variable {c : Case} (once : (s.cm.table.map (·.id)).Nodup) (mem : c ∈ s.cm.table) (own : c.id = b.toNat)
  (real : b ≠ 0)
include once mem own real

theorem caseRetryRequest_refused (h : c.retry s = none) : caseRetryRequest [b] s = (s, [0x17]) := by
  unfold caseRetryRequest
  rw [findRequested_mem once mem own real]
  simp only [h]
  rfl

theorem caseRetryRequest_taken {c' : Case} (h : c.retry s = some c') :
    caseRetryRequest [b] s = (((s.removeMarkers c.id).changeCase c c').retryLinks c', [0x00]) := by
  unfold caseRetryRequest
  rw [findRequested_mem once mem own real]
  simp only [h]
  rfl

end

end

/-- What a retried case that marks no zone leaves of the zones: their slots, and no marker of its own (R3). -/
theorem State.removeMarkers_zones (s : State) (id : Nat) (z : Zone) :
    id ∉ ((s.removeMarkers id).pmc.zones.get z).marker
      ∧ ((s.removeMarkers id).pmc.zones.get z).slot = (s.pmc.zones.get z).slot := by
  simp [State.removeMarkers]

/-- A taken CASE_RETRY: answered, the other cases kept, the record as it restarts, the case marking no zone, and
the racks as `racks` gives them (R129). -/
structure State.Retried (t s : State) (r : Request) (new : Case) (rt : Rt) : Prop where
  reply : t.RepliesTo s r [0x00]
  others : t.KeepsOtherCases s new.id
  zones : ∀ z : Zone, new.id ∉ (t.pmc.zones.get z).marker
    ∧ (t.pmc.zones.get z).slot = (s.pmc.zones.get z).slot
  limits : t.pmc.limits = s.pmc.limits
  smp : t.smp = s.smp
  outside : t.SameOutside s
  rt : t.rt = rt
  record : ∃ x ∈ t.cm.table, x.bare = new.bare

/-- CASE_RETRY of a case whose new record marks no zone (R129). -/
theorem exec_caseRetry_taken {s : State} {r : Request} {b : Byte} (asks : s.Asks r) (sound : s.TableSound)
    (hk : r.kind.toNat = 0x0E) (payload : r.payload = [b]) (started : s.pmc.mode ≠ .starting) {c new : Case}
    (mem : c ∈ s.cm.table) (own : c.id = b.toNat) (real : b ≠ 0) (retry : c.retry s.dropRequest = some new)
    (marks : new.marks = []) (stands : new.isResolved = false) {rt : Rt}
    (racks : ∀ t : State, t.CaseChanged (s.dropRequest.removeMarkers c.id) c new → (t.retryLinks new).rt = rt) :
    ∃ t, exec .caseRetry s = .next t ∧ t.Retried s r new rt := by
  have once := sound.2.1
  have one : r.payload.length = 1 := by rw [payload]; rfl
  have taken := takeRequest_of_asks false asks started hk one
    (payload ▸ caseRetryRequest_taken (s := s.dropRequest) once mem own real retry)
  have id : new.id = c.id := (Case.retry_continues retry).id
  have changed := State.changeCase_changed (s := s.dropRequest.removeMarkers c.id) once mem id stands c
  have kept := (s.dropRequest.removeMarkers c.id).changeCase_kept c new
  have pmc : ((s.dropRequest.removeMarkers c.id).changeCase c new).pmc = (s.removeMarkers c.id).pmc := by
    rw [changed.pmc, Case.gainedMarks, marks]
    rfl
  refine ⟨_, by rw [exec_caseRetry, taken], State.answered_repliesTo (by rw [State.retryLinks_lk, kept.lk.rx]; rfl) r _,
    changed.others.congr (by simp), fun z => ?_, ?_, ?_, ?_, ?_, ?_⟩
  · simpa [pmc, id] using s.removeMarkers_zones c.id z
  · simp
  · simp
  · simp [State.SameOutside]
  · simpa using racks _ changed
  · simpa using changed.record

/-- Settles O23: the refusals, a FILTER case, a LEAK case. -/
theorem caseRetryRestarts : Obligations.CaseRetryRestarts := by
  unfold Obligations.CaseRetryRestarts
  intro s r b asks sound kind payload started
  have once := sound.2.1
  have hk : r.kind.toNat = 0x0E := by rw [kind]; rfl
  refine ⟨fun none => ?_, fun c mem own real => ⟨fun other => ?_, fun z p a g state proc => ?_,
    fun src lk un refs state proc => ?_⟩⟩
  · rw [exec_caseRetry, read_answered asks payload started hk (caseRetryRequest_none (s := s.dropRequest) none)]
  · rw [exec_caseRetry, read_answered asks payload started hk
      (caseRetryRequest_refused (s := s.dropRequest) once mem own real (Case.retry_none other))]
  · have retry : c.retry s.dropRequest = some (c.purge z p 0 s.pmc.limits) := by
      rw [Case.retry, state, proc]
      rfl
    have purging : (c.purge z p 0 s.pmc.limits).Wants _ _ := Case.wants_filter_acting rfl rfl
    obtain ⟨t, taken, retried⟩ := exec_caseRetry_taken asks sound hk payload started mem own real retry rfl rfl
      (rt := s.rt.linkZone (s.pmc.zones.get z).slot s.smp.travel c.id) fun t changed => by
        have pumps : t.rt = s.rt := by
          rw [changed.rt, Rt.caseChanged_of_pumps (.inr rfl) (.inr (by simp [Case.purge, Case.goto])),
            Rt.linkPumps_none (Case.gainsPump_false (Case.wants_filter_manual proc state) purging (by simp))]
          rfl
        have slot : (t.pmc.zones.get z).slot = (s.pmc.zones.get z).slot := by
          rw [changed.pmc]
          exact (s.dropRequest.removeMarkers_zones c.id z).2
        have linked : (t.retryLinks (c.purge z p 0 s.pmc.limits)).rt
            = t.rt.linkZone (t.pmc.zones.get z).slot t.smp.travel c.id := rfl
        rw [linked, pumps, slot, changed.smp]
        rfl
    exact ⟨t, taken, retried.reply, retried.others, retried.zones, retried.limits, retried.smp, retried.outside,
      retried.rt, retried.record⟩
  · have retry : c.retry s.dropRequest
        = some (c.localise src s.pmc.zones s.smp.channels s.pmc.limits) := by
      rw [Case.retry, state, proc]
      rfl
    obtain ⟨t, taken, retried⟩ := exec_caseRetry_taken asks sound hk payload started mem own real retry rfl rfl
      (rt := s.rt.linkAll c.id) fun t changed => by
        have linked : t.rt = s.rt.linkAll c.id := by
          rw [changed.rt, Rt.caseChanged_of_leak (by simp [state, Case.localise, Case.goto]) rfl]
          rfl
        exact linked
    obtain ⟨x, hx, same⟩ := retried.record
    refine ⟨t, taken, retried.reply, retried.others, retried.zones, retried.limits, retried.smp, retried.outside,
      retried.rt, x, hx, ?_⟩
    intro un' refs'
    have unassessed : leakUnassessed s.pmc.zones s.smp.channels = un' := leakUnassessed_eq fun z => by
      cases (s.pmc.zones.get z).slot <;> cases (s.smp.channels.get z).level.reading <;> rfl
    have references : leakReferences s.pmc.zones s.smp.channels = refs' := leakReferences_eq fun z => by
      cases (s.pmc.zones.get z).slot <;> cases (s.smp.channels.get z).level.reading <;> rfl
    rw [same, ← unassessed, ← references]
    rfl

end Sys2Proof.Machine
end

section
/-! PROOF. A delivered detection (R123, R142, R147, R148): the count, the record, the reports and the markers. -/

namespace Sys2Proof.Machine

/-- A detection goes to the case of its key outside RESOLVED (R123). -/
theorem State.detect_of_takes {s : State} (sound : s.TableSound) {d : Detection} {c : Case} (mem : c ∈ s.cm.table)
    (takes : c.takes d.key = true) :
    s.detect d = s.changeCase c.recurred (c.recurred.deliver d s.pmc.limits) := by
  rw [State.detect, sound.find_takes mem takes]
  rfl

/-- A delivery that leaves the counted record as it is changes nothing else (R123). -/
theorem State.detect_counts {s : State} (sound : s.TableSound) (claims : s.ClaimsStand) {d : Detection} {c : Case}
    (mem : c ∈ s.cm.table) (takes : c.takes d.key = true)
    (quiet : c.recurred.deliver d s.pmc.limits = c.recurred) : s.detect d = s.putCase c.recurred := by
  have stands : ∀ id, s.lg.claimsOf (.ofCase c.id) id = (c.recurred.posted.on id).toList := fun id => by
    rw [claims, State.ownerWants_ofCase, findCase_of_mem sound.2.1 mem]
    rfl
  calc s.detect d = s.changeCase c.recurred c.recurred := by rw [State.detect_of_takes sound mem takes, quiet]
    _ = (s.putCase c.recurred).applySets [(.ofCase c.id, c.recurred.posted)] := State.changeCase_self s c.recurred
    _ = s.putCase c.recurred := State.applySets_of_stands (s := s.putCase c.recurred) stands

/-- A delivery adds to the recurrence what has been counted, and keeps the id of the case (R123). -/
theorem Case.deliver_counted (d : Detection) (l : Limits) (c : Case) :
    (c.deliver d l).id = c.id ∧ (c.deliver d l).recurrence = c.recurrence := by
  unfold Case.deliver
  split
  next =>
    simp only
    repeat' split
    all_goals exact ⟨rfl, rfl⟩
  next => split <;> exact ⟨rfl, rfl⟩
  next =>
    split
    · simp only [Case.failAttempt]
      split <;> exact ⟨rfl, rfl⟩
    · exact ⟨rfl, rfl⟩
  · exact ⟨rfl, rfl⟩

/-- A delivery resolves no case (R123, R142, R147). -/
theorem Case.deliver_stands {c : Case} (stands : c.isResolved = false) (d : Detection) (l : Limits) :
    (c.deliver d l).isResolved = false := by
  unfold Case.deliver
  split
  next =>
    simp only
    repeat' split
    · exact stands
    · rfl
    · rfl
    · rfl
    · exact stands
    · exact stands
  next =>
    split
    · rfl
    · exact stands
  next =>
    split
    · simp only [Case.failAttempt]
      split <;> rfl
    · exact stands
  · exact stands

/-! ### The record delivered to -/

section
variable {c : Case} {src : LeakSource} {leaking un : ZoneSet} {refs : Four (Option Nat)}
  (proc : c.proc = .leak src leaking un refs) {l : Limits}
include proc

/-- A TANK detection of a tank that is already leaking (R142). -/
theorem Case.deliver_tank_known {z : Zone} {ref v : Nat} (known : leaking.get z = true) :
    c.deliver (.leakTank z ref v) l = c := by
  simp [Case.deliver, proc, known]

section
variable {z : Zone} {ref v : Nat} (new : leaking.get z = false)
include new

/-- A TANK detection of a new tank drains it (R142). -/
theorem Case.deliver_tank_drains (state : c.state = .isolating ∨ c.state = .acting ∨ c.state = .verifying) :
    c.deliver (.leakTank z ref v) l = c.drainTanks src (leaking.set z true) (un.set z false) l := by
  obtain state | state | state := state <;> simp [Case.deliver, proc, new, state, zoneAdd, zoneRemove]

/-- In MANUAL it only joins the leaking set (R142). -/
theorem Case.deliver_tank_manual (state : c.state = .manual) :
    c.deliver (.leakTank z ref v) l
      = { c with proc := .leak src (leaking.set z true) (un.set z false) refs } := by
  simp [Case.deliver, proc, new, state, zoneAdd, zoneRemove]

theorem Case.deliver_tank_other (state : c.state = .degraded ∨ c.state = .resolved) :
    c.deliver (.leakTank z ref v) l = c := by
  obtain state | state := state <;> simp [Case.deliver, proc, new, state]

end

/-- A wet pan ends a verification in MANUAL (R142). -/
theorem Case.deliver_pan_verifying (state : c.state = .verifying) :
    c.deliver .leakPan l = c.leakManual src leaking un := by
  simp [Case.deliver, proc, state]

theorem Case.deliver_pan_other (state : c.state ≠ .verifying) : c.deliver .leakPan l = c := by
  simp [Case.deliver, proc, state]

end

section
variable {c : Case} {z : Zone} {pressure attempt goal : Nat} (proc : c.proc = .filter z pressure attempt goal)
  {p : Nat} {l : Limits}
include proc

/-- A verifying FILTER case has failed an attempt (R147). -/
theorem Case.deliver_filter_verifying (w : Zone) (state : c.state = .verifying) :
    c.deliver (.filter w p) l = c.failAttempt w pressure attempt l := by
  simp [Case.deliver, proc, state]

theorem Case.deliver_filter_other (w : Zone) (state : c.state ≠ .verifying) : c.deliver (.filter w p) l = c := by
  simp [Case.deliver, proc, state]

end

/-- The deliveries that only count (R123): of a tank already known, of a pan or a filter outside VERIFYING, and
all of the other kinds. -/
def Case.OnlyCounts (c : Case) (d : Detection) : Prop :=
  match c.proc, d with
  | .leak _ leaking _ _, .leakTank z _ _ => leaking.get z = true
  | .leak _ _ _ _, .leakPan => c.state ≠ .verifying
  | .filter _ _ _ _, .filter _ _ => c.state ≠ .verifying
  | _, _ => True

theorem Case.deliver_of_onlyCounts {c : Case} {d : Detection} (h : c.OnlyCounts d) (l : Limits) :
    c.deliver d l = c := by
  unfold Case.OnlyCounts at h
  split at h
  next proc => exact Case.deliver_tank_known proc h
  next proc => exact Case.deliver_pan_other proc h
  next proc => exact Case.deliver_filter_other proc _ h
  next tank pan filter =>
    unfold Case.deliver
    split
    next proc => exact absurd rfl (tank _ _ _ _ _ _ _ proc)
    next proc => exact absurd rfl (pan _ _ _ _ proc)
    next proc => exact absurd rfl (filter _ _ _ _ _ _ proc)
    · rfl

theorem State.detect_changed {s : State} (sound : s.TableSound) {d : Detection} {c : Case} (mem : c ∈ s.cm.table)
    (takes : c.takes d.key = true) :
    (s.detect d).CaseChanged s c.recurred (c.recurred.deliver d s.pmc.limits) := by
  have stands : c.recurred.isResolved = false := Case.standing_of_takes takes
  rw [State.detect_of_takes sound mem takes]
  exact State.changeCase_changed sound.2.1 mem (c.recurred.deliver_counted d _).1 (Case.deliver_stands stands d _)
    c.recurred

/-! ### Markers and reports of a delivery -/

theorem mem_zonesIn {v : ZoneSet} {z : Zone} : z ∈ zonesIn v ↔ v.get z = true := by
  simp [zonesIn, Four.mem_indices]

section
variable {c : Case} {src : LeakSource} {leaking un : ZoneSet} {refs : Four (Option Nat)}
  (proc : c.proc = .leak src leaking un refs)
include proc

/-- A LEAK case marks leaking tanks only (R138, R142). -/
theorem Case.leaking_of_mem_marks {z : Zone} (h : z ∈ c.marks) : leaking.get z = true := by
  cases state : c.state with
  | acting => simpa [Case.marks, proc, state, mem_zonesIn] using h
  | manual => simpa [Case.marks, proc, state, mem_zonesIn] using h
  | _ => simp [Case.marks, proc, state] at h

theorem Case.mem_marks_of_leaking (state : c.state = .acting ∨ c.state = .manual) {z : Zone}
    (h : leaking.get z = true) : z ∈ c.marks := by
  obtain state | state := state <;> simp [Case.marks, proc, state, mem_zonesIn, h]

end

/-- A change of a LEAK case to a record that drains, or names in MANUAL, a new tank marks its zone (R138, R142). -/
theorem State.CaseChanged.marked {t s : State} {old new : Case} (h : t.CaseChanged s old new) {src : LeakSource}
    {leaking un leaking' un' : ZoneSet} {refs refs' : Four (Option Nat)} (before : old.proc = .leak src leaking un refs)
    (after : new.proc = .leak src leaking' un' refs') (state : new.state = .acting ∨ new.state = .manual) {z : Zone}
    (fresh : leaking.get z = false) (joined : leaking'.get z = true) :
    new.id ∈ (t.pmc.zones.get z).marker := by
  have gained : z ∈ old.gainedMarks new :=
    List.mem_filter.mpr ⟨Case.mem_marks_of_leaking after state joined, by
      have unmarked : z ∉ old.marks := fun mem => by simp [Case.leaking_of_mem_marks before mem] at fresh
      simpa using unmarked⟩
  rw [h.pmc, State.addMarkers_marker]
  exact .inr ⟨rfl, gained⟩

theorem Case.gainsPump_self (c : Case) (z : Zone) : Case.gainsPump (some c) c z = false := by
  simp [Case.gainsPump]

/-- The one pump that a case gains (R127, R147). -/
theorem Case.gainsPump_one {old new : Case} {a b fa fb : List LineId} (ho : old.Wants a fa) (hn : new.Wants b fb)
    {z : Zone} (none : ∀ w : Zone, LineId.pump w ∉ a) (one : ∀ w : Zone, LineId.pump w ∈ b ↔ w = z) (w : Zone) :
    Case.gainsPump (some old) new w = decide (w = z) := by
  simp [Case.gainsPump, ho.blocksPump, hn.blocksPump, none, one]

/-- What a delivered TANK detection of a new tank makes of the racks: a case that enters ACTING links them all,
one that acts already, stands in MANUAL or only counts reports nothing (R127, R142). -/
theorem Rt.caseChanged_of_tank {rt : Rt} {c : Case} {src : LeakSource} {leaking un : ZoneSet}
    {refs : Four (Option Nat)} (proc : c.proc = .leak src leaking un refs) {z : Zone} (fresh : leaking.get z = false)
    {ref v : Nat} {l : Limits} {zones : Four ZoneSlot} {travel : Word32} :
    rt.caseChanged c (c.deliver (.leakTank z ref v) l) zones travel
      = if c.state = .isolating ∨ c.state = .verifying then rt.linkAll c.id else rt := by
  have drains : ∀ state : c.state = .isolating ∨ c.state = .acting ∨ c.state = .verifying, _ :=
    fun state => Case.deliver_tank_drains (l := l) (ref := ref) (v := v) proc fresh state
  cases state : c.state with
  | isolating =>
    rw [drains (.inl state), Rt.caseChanged_of_leak (by simp [state, Case.drainTanks, Case.goto]) rfl]
    simp [Case.drainTanks, Case.goto]
  | verifying =>
    rw [drains (.inr (.inr state)), Rt.caseChanged_of_leak (by simp [state, Case.drainTanks, Case.goto]) rfl]
    simp [Case.drainTanks, Case.goto]
  | acting =>
    have draining : (c.drainTanks src (leaking.set z true) (un.set z false) l).Wants _ _ :=
      Case.wants_leak_acting rfl rfl
    rw [drains (.inr (.inl state)), Rt.caseChanged_of_pumps (.inl state) (.inl state),
      Rt.linkPumps_none (Case.gainsPump_false (Case.wants_leak_acting proc state) draining (by simp))]
    simp
  | manual =>
    have joined := Case.deliver_tank_manual (l := l) (ref := ref) (v := v) proc fresh state
    have marking : Case.Wants { c with proc := .leak src (leaking.set z true) (un.set z false) refs } _ _ :=
      Case.wants_leak_manual rfl state
    rw [joined, Rt.caseChanged_of_pumps (.inl (by rfl)) (.inl (by rfl)),
      Rt.linkPumps_none (Case.gainsPump_false (Case.wants_leak_manual proc state) marking (by simp))]
    simp
  | degraded =>
    rw [Case.deliver_tank_other proc fresh (.inl state), Rt.caseChanged_of_pumps (.inl rfl) (.inl rfl),
      Rt.linkPumps_none c.gainsPump_self]
    simp
  | resolved =>
    rw [Case.deliver_tank_other proc fresh (.inr state), Rt.caseChanged_of_pumps (.inl rfl) (.inl rfl),
      Rt.linkPumps_none c.gainsPump_self]
    simp

/-- A wet pan at a verifying LEAK case: the MANUAL report alone (R78, R142). -/
theorem Rt.caseChanged_of_pan {rt : Rt} {c : Case} {src : LeakSource} {leaking un : ZoneSet}
    {refs : Four (Option Nat)} (proc : c.proc = .leak src leaking un refs) (state : c.state = .verifying)
    {l : Limits} {zones : Four ZoneSlot} {travel : Word32} :
    rt.caseChanged c (c.deliver .leakPan l) zones travel = rt.manual c.id := by
  have ended : (c.leakManual src leaking un).Wants _ _ := Case.wants_leak_manual rfl rfl
  rw [Case.deliver_pan_verifying proc state,
    Rt.caseChanged_of_manual (by simp [state, Case.leakManual, Case.goto]) rfl,
    Rt.linkPumps_none (Case.gainsPump_false (Case.wants_leak_verifying proc state) ended (by simp))]
  rfl

/-- A failed attempt: the racks in the zone are linked, and in MANUAL those linked are held (R77, R78, R147). -/
theorem Rt.caseChanged_of_failed {rt : Rt} {c : Case} {z : Zone} {pressure attempt goal : Nat}
    (proc : c.proc = .filter z pressure attempt goal) (state : c.state = .verifying) {l : Limits}
    {zones : Four ZoneSlot} {travel : Word32} :
    rt.caseChanged c (c.failAttempt z pressure attempt l) zones travel
      = if attempt + 1 < l.maxAttempts then rt.linkZone (zones.get z).slot travel c.id
        else (rt.linkZone (zones.get z).slot travel c.id).manual c.id := by
  have verifying := Case.wants_filter_verifying proc state
  unfold Case.failAttempt
  split
  · have purging : (c.purge z pressure (attempt + 1) l).Wants _ _ := Case.wants_filter_acting rfl rfl
    rw [Rt.caseChanged_of_pumps (.inr rfl) (.inr (by simp [Case.purge, Case.goto])),
      Rt.linkPumps_one (z := z) (Case.gainsPump_one verifying purging (by simp) (by simp))]
    rfl
  · have given : (c.goto (.filter z pressure (attempt + 1) 0) .manual .none none none).Wants _ _ :=
      Case.wants_filter_manual rfl rfl
    rw [Rt.caseChanged_of_manual (by simp [state, Case.goto]) rfl,
      Rt.linkPumps_one (z := z) (Case.gainsPump_one verifying given (by simp) (by simp))]
    rfl

/-- A TANK detection of a new tank, delivered to a LEAK case, marks its zone, but in a state that takes no tank
(R142). -/
theorem State.CaseChanged.marked_by_tank {t s : State} {c : Case} {z : Zone} {ref v : Nat} {l : Limits}
    (h : t.CaseChanged s c (c.deliver (.leakTank z ref v) l)) {src : LeakSource} {leaking un : ZoneSet}
    {refs : Four (Option Nat)} (proc : c.proc = .leak src leaking un refs) (fresh : leaking.get z = false)
    (stands : c.isResolved = false) (other : c.state ≠ .degraded) : c.id ∈ (t.pmc.zones.get z).marker := by
  have joined : (leaking.set z true).get z = true := Four.get_set_same leaking z true
  have drained : c.state = .isolating ∨ c.state = .acting ∨ c.state = .verifying →
      c.id ∈ (t.pmc.zones.get z).marker := fun state => by
    rw [Case.deliver_tank_drains proc fresh state] at h
    exact h.marked proc rfl (.inl rfl) fresh joined
  cases state : c.state with
  | isolating => exact drained (.inl state)
  | acting => exact drained (.inr (.inl state))
  | verifying => exact drained (.inr (.inr state))
  | manual =>
    rw [Case.deliver_tank_manual proc fresh state] at h
    exact h.marked proc rfl (.inr state) fresh joined
  | degraded => exact absurd state other
  | resolved => simp [Case.isResolved, state] at stands

theorem Rt.linkAll_if (rt : Rt) (id : Nat) (p : Prop) [Decidable p] :
    (if p then rt.linkAll id else rt)
      = { rt with queue := rt.queue.map fun r => if p then r.link id else r } := by
  split <;> simp [Rt.linkAll]

/-- Link zone, and the MANUAL report where the last attempt has failed, rack by rack (R77, R78). -/
theorem Rt.linkZone_manual_if (rt : Rt) (slot : SlotState) (travel : Word32) (id : Nat) (p : Prop) [Decidable p] :
    (if p then rt.linkZone slot travel id else (rt.linkZone slot travel id).manual id)
      = { rt with
          queue := rt.queue.map fun r =>
            let l := if r.inZone slot travel then r.link id else r
            if p then l else l.holdFor id } := by
  split <;> simp [Rt.linkZone, Rt.manual, *]

theorem Detection.eq_filter_of_key {d : Detection} {z : Zone} (h : d.key = .filter z) : ∃ p, d = .filter z p := by
  cases d with
  | filter w p =>
    cases h
    exact ⟨p, rfl⟩
  | _ => cases h

end Sys2Proof.Machine
end

section
/-! PROOF. What a zone sample makes of a HEATER_OPEN, a HEATER_STUCK, an OVERTEMP and a SENSOR case (R150 to R152,
R154, R156), and the detections delivered. -/

namespace Sys2Proof.Machine

theorem Reading.judged_eq_some {r : Reading} {v : Nat} : r.judged = some v ↔ r = .valid v ∨ r = .stale v := by
  cases r <;> simp [Reading.judged]

theorem Reading.judged_eq_none {r : Reading} : r.judged = none ↔ r = .unknown := by
  cases r <;> simp [Reading.judged]

section
variable {s : State} {c : Case} {z : Zone} {rec : ZoneRecord} {lines : Lines} {r : Quad Reading}

/-! ### HEATER_OPEN -/

section
variable {driven : Bool} {current : Reading} {k sum n v : Nat} {a b : Bool}

/-- A sample with the element not driven, or with its current UNKNOWN, is not counted (R150). -/
theorem Case.testSample_uncounted (h : driven = false ∨ current = .unknown) :
    c.testSample z rec driven current k a b sum n = c := by
  obtain rfl | unknown := h
  · rfl
  · cases driven <;> simp [Case.testSample, Reading.judged_eq_none.mpr unknown]

variable (on : driven = true) (held : current = .valid v ∨ current = .stale v)
include on held

theorem Case.testSample_counts (more : n + 1 < 4) :
    c.testSample z rec driven current k a b sum n
      = { c with proc := .heaterOpen z k a b (sum + v), counter := some (n + 1) } := by
  simp [Case.testSample, on, Reading.judged_eq_some.mpr held, elementSamples, more]

/-- The fourth counted sample ends TEST_A, and TEST_B begins (R150). -/
theorem Case.testSample_endsA (last : 4 ≤ n + 1) (step : c.step = .testA) :
    c.testSample z rec driven current k a b sum n
      = c.testElement z k (elementOpen rec (sum + v)) b .testB := by
  simp [Case.testSample, on, Reading.judged_eq_some.mpr held, elementSamples, Nat.not_lt.mpr last, step]

/-- The fourth counted sample ends TEST_B, and the tests (R151). -/
theorem Case.testSample_endsB (last : 4 ≤ n + 1) (step : c.step = .testB) :
    c.testSample z rec driven current k a b sum n = c.endTests z k a (elementOpen rec (sum + v)) := by
  simp [Case.testSample, on, Reading.judged_eq_some.mpr held, elementSamples, Nat.not_lt.mpr last, step]

end

/-! ### HEATER_STUCK -/

/-- A sample of a HEATER_STUCK case by its low run after it: one up where the current is below half an
element's, else 0 (R152). -/
theorem Case.stuckSample_eq {current : Reading} {carried low low' n : Nat}
    (below : (∃ v, (current = .valid v ∨ current = .stale v) ∧ v < rec.elementCurrent / 2) → low' = low + 1)
    (above : (¬∃ v, (current = .valid v ∨ current = .stale v) ∧ v < rec.elementCurrent / 2) → low' = 0) :
    c.stuckSample z rec current carried low n
      = if 3 ≤ low' then (c.goto (.heaterStuck z carried 0) .manual .none none none, false)
        else if 8 ≤ n + 1 then (c.goto (.heaterStuck z carried 0) .manual .none none none, true)
        else ({ c with proc := .heaterStuck z carried low', counter := some (n + 1) }, false) := by
  unfold Case.stuckSample
  extract_lets run
  have same : low' = run := by
    simp only [run]
    split
    next v held =>
      have read := Reading.judged_eq_some.mp held
      split
      next less => exact below ⟨v, read, less⟩
      next high =>
        refine above fun ⟨w, read', less⟩ => high ?_
        rw [Reading.judged_eq_some.mpr read', Option.some.injEq] at held
        rwa [← held]
    next unknown =>
      refine above fun ⟨w, read, _⟩ => ?_
      rw [Reading.judged_eq_some.mpr read] at unknown
      cases unknown
  rw [same]

/-! ### OVERTEMP and SENSOR -/

section
variable {temperature : Reading} {carried n v : Nat}

theorem Case.hotSample_cool (valid : temperature = .valid v) (cool : v + 50 ≤ rec.tMax) :
    c.hotSample z rec temperature carried n = c.resolve := by
  simp [Case.hotSample, valid, cool]

theorem Case.hotSample_hot (held : temperature = .valid v ∨ temperature = .stale v) (hot : rec.tMax + 30 ≤ v) :
    c.hotSample z rec temperature carried n
      = if 3 ≤ n + 1 then c.goto (.overtemp z carried) .manual .none none none
        else { c with counter := some (n + 1) } := by
  have not_cool : ¬v + 50 ≤ rec.tMax := by omega
  obtain rfl | rfl := held <;> simp [Case.hotSample, hot, not_cool]

theorem Case.hotSample_between (not_cool : ¬∃ v, temperature = .valid v ∧ v + 50 ≤ rec.tMax)
    (not_hot : ¬∃ v, (temperature = .valid v ∨ temperature = .stale v) ∧ rec.tMax + 30 ≤ v) :
    c.hotSample z rec temperature carried n = { c with counter := some 0 } := by
  cases temperature with
  | unknown => rfl
  | valid v =>
    have warm : ¬v + 50 ≤ rec.tMax := fun cool => not_cool ⟨v, rfl, cool⟩
    have mild : ¬rec.tMax + 30 ≤ v := fun hot => not_hot ⟨v, .inl rfl, hot⟩
    simp [Case.hotSample, warm, mild]
  | stale v =>
    have mild : ¬rec.tMax + 30 ≤ v := fun hot => not_hot ⟨v, .inr rfl, hot⟩
    simp [Case.hotSample, mild]

end

theorem Case.sensorSample_valid (v n : Nat) :
    c.sensorSample (.valid v) n = if 8 ≤ n + 1 then c.resolve else { c with counter := some (n + 1) } := rfl

theorem Case.sensorSample_unread {reading : Reading} (h : ∀ v, reading ≠ .valid v) (n : Nat) :
    c.sensorSample reading n = { c with counter := some 0 } := by
  cases reading with
  | valid v => exact absurd rfl (h v)
  | _ => rfl

/-! ### The sample by kind -/

section
variable {n : Nat} (count : c.counter = some n)
include count

theorem Case.sample_heaterOpen {k sum : Nat} {a b : Bool} (proc : c.proc = .heaterOpen z k a b sum)
    (state : c.state = .isolating) :
    c.sample z rec lines r s
      = (c.testSample z rec (if c.step = .testB then lines.drivenB z else lines.drivenA z) r.current k a b sum n,
          false) := by
  simp [Case.sample, proc, state, count]

theorem Case.sample_heaterStuck {carried low : Nat} (proc : c.proc = .heaterStuck z carried low)
    (state : c.state = .isolating) : c.sample z rec lines r s = c.stuckSample z rec r.current carried low n := by
  simp [Case.sample, proc, state, count]

theorem Case.sample_overtemp {carried : Nat} (proc : c.proc = .overtemp z carried) (state : c.state = .acting) :
    c.sample z rec lines r s = (c.hotSample z rec r.temp carried n, false) := by
  simp [Case.sample, proc, state, count]

theorem Case.sample_sensor {q : Quantity} (proc : c.proc = .sensor z q) (state : c.state = .degraded) :
    c.sample z rec lines r s = (c.sensorSample (r.get q) n, false) := by
  simp [Case.sample, proc, state, count]

end

end

/-! ### The statement -/

/-- Settles O21: what a delivery counts and changes, then what a sample makes of the cases that count. -/
theorem deliveredDetectionsCount : Obligations.DeliveredDetectionsCount := by
  unfold Obligations.DeliveredDetectionsCount
  refine ⟨fun s d c sound mem takes => ?_, fun s c z rec lines r n count => ?_⟩
  · intro counted becomes
    have changed := State.detect_changed sound mem takes
    obtain ⟨x, hx, bare⟩ := changed.record
    have id : x.id = c.id := (Case.SameRank.of_bare bare).id.trans (c.recurred.deliver_counted d _).1
    have recurrence : x.recurrence = min (c.recurrence + 1) 255 :=
      (show x.bare.recurrence = _ by rw [bare]; exact (c.recurred.deliver_counted d _).2)
    have becomes_of : ∀ new, c.recurred.deliver d s.pmc.limits = new → becomes new :=
      fun new same => ⟨x, hx, by rw [bare, same]⟩
    refine ⟨⟨x, hx, id, recurrence⟩, fun claims quiet => ?_, fun src leaking un refs z ref v proc tank fresh => ?_,
      fun src leaking un refs proc pan state => ?_, fun z p a g proc state => ?_⟩
    · have only : c.recurred.OnlyCounts d := quiet
      rw [State.detect_counts sound claims mem takes (Case.deliver_of_onlyCounts only _)]
      rfl
    · subst tank
      have drains := Case.deliver_tank_drains (c := c.recurred) (l := s.pmc.limits) (ref := ref) (v := v) proc fresh
      have joins := Case.deliver_tank_manual (c := c.recurred) (l := s.pmc.limits) (ref := ref) (v := v) proc fresh
      refine ⟨fun state => becomes_of _ (drains state), fun state => becomes_of _ (joins state), fun other => ?_, ?_⟩
      · exact changed.marked_by_tank (c := c.recurred) proc fresh (Case.standing_of_takes takes) other
      · rw [changed.rt, Rt.caseChanged_of_tank (c := c.recurred) proc fresh, Rt.linkAll_if]
        rfl
    · subst pan
      exact ⟨becomes_of _ (Case.deliver_pan_verifying (c := c.recurred) proc state),
        by rw [changed.rt, Rt.caseChanged_of_pan (c := c.recurred) proc state]; rfl⟩
    · obtain ⟨p', rfl⟩ : ∃ p', d = .filter z p' := Detection.eq_filter_of_key (by
        have key : c.proc.key = d.key := by simpa using (Bool.and_eq_true_iff.mp takes).2
        rw [← key, proc]
        rfl)
      have failed := Case.deliver_filter_verifying (c := c.recurred) (p := p') (l := s.pmc.limits) proc z state
      exact ⟨becomes_of _ failed,
        by rw [changed.rt, failed, Rt.caseChanged_of_failed (c := c.recurred) proc state, Rt.linkZone_manual_if]; rfl⟩
  · intro out ended manual
    refine ⟨fun k a b sum proc state steps => ?_, fun i low proc state => ?_, fun k proc state => ?_,
      fun q proc state => ?_⟩
    · intro driven
      have sampled : out = (c.testSample z rec driven r.current k a b sum n, false) := by
        have element : (if c.step = .testB then lines.drivenB z else lines.drivenA z) = driven := by
          obtain step | step := steps <;> simp [driven, step]
        rw [← element]
        exact Case.sample_heaterOpen count proc state
      refine ⟨fun idle => by rw [sampled, Case.testSample_uncounted idle], fun v on held => ?_⟩
      intro low
      refine ⟨fun more => by rw [sampled, Case.testSample_counts on held more], fun last step => ?_,
        fun last step => ⟨fun opens => ?_, fun closedA closedB => ?_⟩⟩
      · rw [sampled, Case.testSample_endsA on held last step, Case.testElement, Case.goto, ← state]
        rfl
      · have found : (a || elementOpen rec (sum + v)) = true := by
          obtain rfl | isLow := opens
          · rfl
          · rw [show elementOpen rec (sum + v) = true from isLow, Bool.or_true]
        rw [sampled, Case.testSample_endsB on held last step, Case.endTests, if_pos found]
        rfl
      · have sound : ¬(a || elementOpen rec (sum + v)) = true := by
          rw [closedA, show elementOpen rec (sum + v) = false from closedB]
          decide
        rw [sampled, Case.testSample_endsB on held last step, Case.endTests, if_neg sound]
        rfl
    · intro below low' up down
      have sampled : out = _ := (Case.sample_heaterStuck count proc state).trans (Case.stuckSample_eq up down)
      refine ⟨fun run => ?_, fun short last => ?_, fun short more => ?_⟩
      · rw [sampled, if_pos run]
        rfl
      · rw [sampled, if_neg (by omega), if_pos last]
        rfl
      · rw [sampled, if_neg (by omega), if_neg (by omega)]
    · intro hot cool
      have sampled : out = (c.hotSample z rec r.temp k n, false) := Case.sample_overtemp count proc state
      refine ⟨fun ⟨v, valid, low⟩ => ?_, fun ⟨v, held, high⟩ last => ?_, fun ⟨v, held, high⟩ more => ?_,
        fun not_cool not_hot => ?_⟩
      · rw [sampled, Case.hotSample_cool valid low]
        rfl
      · rw [sampled, Case.hotSample_hot held high, if_pos last]
        rfl
      · rw [sampled, Case.hotSample_hot held high, if_neg (by omega)]
      · rw [sampled, Case.hotSample_between not_cool not_hot]
    · have sampled : out = (c.sensorSample (r.get q) n, false) := Case.sample_sensor count proc state
      refine ⟨fun v valid => ?_, fun unread => by rw [sampled, Case.sensorSample_unread unread]⟩
      rw [sampled, valid, Case.sensorSample_valid]
      split <;> rfl

end Sys2Proof.Machine
end

section
/-! PROOF. A detection of a free key opens a case (R121, R127, R135, R149, R152, R154). -/

namespace Sys2Proof.Machine

section
variable {s : State} {d : Detection}

/-! ### The record that opens -/

theorem openingCase_counts (id : Nat) (uptime : Word32) (lines : Lines) (pmc : Pmc) (smp : Smp) :
    (openingCase d id uptime lines pmc smp).recurrence = 0
      ∧ (openingCase d id uptime lines pmc smp).openedAt = uptime := by
  cases d with
  | heaterOpen z k current =>
    simp only [openingCase]
    split <;> exact ⟨rfl, rfl⟩
  | _ => exact ⟨rfl, rfl⟩

/-- The next case id is taken where no case carries it (R121). -/
theorem freeCaseId_of_free {table : List Case} {id : Nat} (fuel : Nat) (h : ∀ o ∈ table, o.id ≠ id) :
    freeCaseId table fuel id = id := by
  cases fuel with
  | zero => rfl
  | succ fuel => exact if_neg (by simpa using h)

/-- A HEATER_OPEN case opens DEGRADED, on the one element driven at the opening (R149). -/
theorem openingRecord_one_driven {z : Zone} {k i : Nat} (one : k = 1) (h : s.lg.drivenA z ≠ s.lg.drivenB z) :
    (s.openingRecord (.heaterOpen z k i)).proc = .heaterOpen z k (s.lg.drivenA z) (s.lg.drivenB z) 0
      ∧ (s.openingRecord (.heaterOpen z k i)).state = .degraded
      ∧ (s.openingRecord (.heaterOpen z k i)).step = .none
      ∧ (s.openingRecord (.heaterOpen z k i)).counter = none := by
  have driven : (k = 1 && s.lg.driven z = 1) = true := by
    cases a : s.lg.drivenA z <;> cases b : s.lg.drivenB z <;> simp_all [Lines.driven]
  have bare : s.openingBare (.heaterOpen z k i) = _ := if_pos driven
  simp only [State.openingRecord, bare]
  exact ⟨rfl, rfl, rfl, rfl⟩

/-- Else it opens with the test of element A (R149). -/
theorem openingRecord_tests {z : Zone} {k i : Nat} (h : k ≠ 1 ∨ s.lg.drivenA z = s.lg.drivenB z) :
    (s.openingRecord (.heaterOpen z k i)).proc = .heaterOpen z k false false 0
      ∧ (s.openingRecord (.heaterOpen z k i)).state = .isolating
      ∧ (s.openingRecord (.heaterOpen z k i)).step = .testA
      ∧ (s.openingRecord (.heaterOpen z k i)).counter = some 0 := by
  have driven : ¬(k = 1 && s.lg.driven z = 1) = true := by
    obtain other | same := h
    · simp [other]
    · cases b : s.lg.drivenB z <;> simp [Lines.driven, same, b]
  have bare : s.openingBare (.heaterOpen z k i) = _ := if_neg driven
  simp only [State.openingRecord, bare]
  exact ⟨rfl, rfl, rfl, rfl⟩

/-- The lines a new case is to have BLOCKs on (R127 asks for the pumps among them). -/
theorem openingRecord_blocks_no_pump (leak : d.key ≠ .leak) (filter : ∀ z, d.key ≠ .filter z) (w : Zone) :
    (s.openingRecord d).blocksPump w = false := by
  have none : ∀ {blocks}, (s.openingRecord d).Wants blocks [] → LineId.pump w ∉ blocks →
      (s.openingRecord d).blocksPump w = false := fun wants absent => by simp [wants.blocksPump, absent]
  cases d with
  | leakPan => exact absurd rfl leak
  | leakTank => exact absurd rfl leak
  | filter z => exact absurd rfl (filter z)
  | heaterOpen z k i =>
    by_cases one : k = 1 ∧ s.lg.drivenA z ≠ s.lg.drivenB z
    · obtain ⟨proc, state, -, -⟩ := openingRecord_one_driven (i := i) one.1 one.2
      exact none (Case.wants_heaterOpen_degraded proc state)
        (by cases s.lg.drivenA z <;> cases s.lg.drivenB z <;> simp)
    · obtain ⟨proc, state, step, -⟩ := openingRecord_tests (s := s) (z := z) (k := k) (i := i) (by tauto)
      exact none (Case.wants_heaterOpen_isolating proc state) (by simp [step])
  | heaterStuck z i => exact none (Case.wants_heaterStuck rfl (.inl rfl)) (by simp)
  | overtemp z v => exact none (Case.wants_overtemp_acting rfl rfl) (by simp)
  | sensor z q => exact none (Case.wants_sensor (.inl ⟨z, q, rfl⟩)) (by simp)
  | travel => exact none (Case.wants_sensor (.inr rfl)) (by simp)

/-! ### The reports of an opening -/

section
variable {rt : Rt} {new : Case} {zones : Four ZoneSlot} {travel : Word32}

theorem Rt.caseOpened_of_leak (leak : new.leakHandling = true) (other : d ≠ .travel) :
    rt.caseOpened d new zones travel = rt.linkAll new.id := by
  simp [Rt.caseOpened, leak, other, Rt.linkAll_linkPumps]

theorem Case.gainsPump_none (new : Case) (z : Zone) : Case.gainsPump none new z = new.blocksPump z := by
  simp [Case.gainsPump]

theorem Rt.caseOpened_of_filter {z : Zone} (quiet : new.leakHandling = false) (other : d ≠ .travel)
    (pump : ∀ w, new.blocksPump w = decide (w = z)) :
    rt.caseOpened d new zones travel = rt.linkZone (zones.get z).slot travel new.id := by
  simp [Rt.caseOpened, quiet, other, Rt.linkPumps_one fun w => (new.gainsPump_none w).trans (pump w)]

theorem Rt.caseOpened_of_no_pump (quiet : new.leakHandling = false) (pump : ∀ w, new.blocksPump w = false) :
    rt.caseOpened d new zones travel = if d = .travel then rt.travelLost else rt := by
  simp [Rt.caseOpened, quiet, Rt.linkPumps_none fun w => (new.gainsPump_none w).trans (pump w)]

end

/-! ### What an opening leaves -/

theorem State.detect_opens (room : s.cm.table.length < 8) (free : ∀ c ∈ s.cm.table, c.takes d.key = false) :
    s.detect d = s.openCase d := by
  rw [State.detect, find?_takes_eq_none free]
  exact if_pos room

section
variable (sound : s.TableSound) (room : s.cm.table.length < 8) (free : ∀ c ∈ s.cm.table, c.takes d.key = false)
include sound room free

theorem State.openCase_mem : ∃ b, { s.openingRecord d with announce := b } ∈ (s.openCase d).cm.table := by
  have once := (s.withOpened_sound sound room (find?_takes_eq_none free)).2.1
  obtain ⟨q, opened, same⟩ := s.openCase_stages d
  obtain ⟨old, mem, bare⟩ := opened.mem once
  rw [same]
  exact State.announceCase_mem mem (Case.SameRank.of_bare bare).id.symm (s.openingRecord_spec d).2.2

theorem State.openCase_keepsOthers : (s.openCase d).KeepsOtherCases s (s.openingRecord d).id := by
  have once := (s.withOpened_sound sound room (find?_takes_eq_none free)).2.1
  obtain ⟨q, opened, same⟩ := s.openCase_stages d
  intro o mem other stands
  obtain ⟨x, hx, bare⟩ := State.evaluateSuspension_keepsCases once o (List.mem_append_left _ mem) stands
  rw [← opened.cm] at hx
  have own : x.id ≠ (s.openingRecord d).id := by rwa [(Case.SameRank.of_bare bare).id]
  exact ⟨x, by rw [same]; exact ((q.announceCase_changesOnly _).others x own).mpr hx, bare⟩

end

variable (s d)

theorem State.openCase_nextId :
    (s.openCase d).cm.nextId = if 255 ≤ (s.openingRecord d).id then 1 else (s.openingRecord d).id + 1 := by
  obtain ⟨q, opened, same⟩ := s.openCase_stages d
  rw [same, State.trigger_cm, State.announceCase_nextId, opened.cm, State.evaluateSuspension_nextId]
  rfl

theorem State.openCase_trigger : (s.openCase d).ck.trigger = true := by
  obtain ⟨q, -, same⟩ := s.openCase_stages d
  rw [same]
  rfl

theorem State.openCase_rt :
    (s.openCase d).rt = s.rt.caseOpened d (s.openingRecord d) s.pmc.zones s.smp.travel := by
  obtain ⟨q, opened, same⟩ := s.openCase_stages d
  rw [same, State.trigger_rt, State.announceCase_rt, opened.rt]

theorem State.openCase_marker {z : Zone} (h : z ∈ (s.openingRecord d).marks) :
    (s.openingRecord d).id ∈ ((s.openCase d).pmc.zones.get z).marker := by
  obtain ⟨q, opened, same⟩ := s.openCase_stages d
  rw [same, State.trigger_pmc, State.announceCase_pmc, opened.pmc, State.addMarkers_marker]
  exact .inr ⟨rfl, h⟩

/-- The claims of a new case that has BLOCKs only (table 8.10). -/
theorem State.openCase_claimOf {blocks : List LineId} (h : (s.openingRecord d).Wants blocks []) (id : LineId) :
    (s.openCase d).lg.claimOf (.ofCase (s.openingRecord d).id) id
      = if id ∈ blocks then some .block else none := by
  obtain ⟨q, opened, same⟩ := s.openCase_stages d
  rw [same, State.trigger_lg, State.announceCase_lg, opened.claims, h.posted_on]
  simp

end

/-! ### The racks of an opening -/

/-- What becomes of a rack as a case opens (R77, R79, R127). -/
def Detection.report (s : State) (id : Nat) (d : Detection) (r : Rack) : Rack :=
  match d with
  | .leakPan | .leakTank _ _ _ => r.link id
  | .filter z _ => if r.inZone (s.pmc.zones.get z).slot s.smp.travel then r.link id else r
  | .travel => r.lose
  | _ => r

/-- An opening that blocks no pump and handles no leak reports at most the loss of the racks (R79). -/
theorem openingRecord_reports_no_link {s : State} {d : Detection} (leak : d.key ≠ .leak) (filter : ∀ z, d.key ≠ .filter z) :
    s.rt.caseOpened d (s.openingRecord d) s.pmc.zones s.smp.travel
      = if d = .travel then s.rt.travelLost else s.rt := by
  have quiet : (s.openingRecord d).proc.kind ≠ .leak := by
    rw [← Proc.key_kind, (s.openingRecord_spec d).2.1]
    cases key : d.key with
    | leak => exact absurd key leak
    | _ => nofun
  exact Rt.caseOpened_of_no_pump (by simp [Case.leakHandling, quiet]) (openingRecord_blocks_no_pump leak filter)

theorem State.openCase_reports (s : State) (d : Detection) :
    (s.openCase d).rt = { s.rt with queue := s.rt.queue.map (d.report s (s.openingRecord d).id) } := by
  have unchanged : s.rt = { s.rt with queue := s.rt.queue.map fun r => r } := by simp
  rw [State.openCase_rt]
  cases d with
  | leakPan => exact Rt.caseOpened_of_leak rfl nofun
  | leakTank => exact Rt.caseOpened_of_leak rfl nofun
  | filter z p =>
    refine Rt.caseOpened_of_filter (z := z) rfl nofun fun w => ?_
    have wants : (s.openingRecord (.filter z p)).Wants _ _ := Case.wants_filter_acting rfl rfl
    simp [wants.blocksPump]
  | travel => exact openingRecord_reports_no_link nofun nofun
  | _ => exact Eq.trans (openingRecord_reports_no_link nofun nofun) unchanged

/-- Settles O19: the parts of an opening, then the opening record and the claims kind by kind. -/
theorem detectionOpensACase : Obligations.DetectionOpensACase := by
  unfold Obligations.DetectionOpensACase
  intro s d sound room free
  obtain ⟨id, key, -⟩ := s.openingRecord_spec d
  obtain ⟨recurrence, openedAt⟩ : (s.openingRecord d).recurrence = 0 ∧ (s.openingRecord d).openedAt = s.cm.uptime :=
    openingCase_counts ..
  have racks := s.openCase_reports d
  obtain ⟨b, mem⟩ := State.openCase_mem sound room free
  rw [State.detect_opens room free]
  refine ⟨{ s.openingRecord d with announce := b }, mem, key, recurrence, openedAt,
    fun o ho own => State.openingRecord_fresh (d := d) room (own ▸ List.mem_map_of_mem ho),
    fun unused => id.trans (freeCaseId_of_free 255 unused), s.openCase_nextId d, s.openCase_trigger d,
    State.openCase_keepsOthers sound room free, racks.trans (by cases d <;> rfl), ?_, ?_, ?_, ?_, ?_, ?_, ?_, ?_⟩
  · rintro rfl
    refine ⟨rfl, rfl, rfl, ?_, fun line => ?_⟩
    · intro un refs
      have unassessed : leakUnassessed s.pmc.zones s.smp.channels = un := leakUnassessed_eq fun z => by
        cases (s.pmc.zones.get z).slot <;> cases (s.smp.channels.get z).level.reading <;> rfl
      have references : leakReferences s.pmc.zones s.smp.channels = refs := leakReferences_eq fun z => by
        cases (s.pmc.zones.get z).slot <;> cases (s.smp.channels.get z).level.reading <;> rfl
      rw [← unassessed, ← references]
      rfl
    · have claims := s.openCase_claimOf .leakPan (Case.wants_leak_isolating rfl rfl) line
      rw [claims]
      cases line <;> simp [Four.mem_indices]
  · rintro z ref v rfl
    have only : zoneOnly z = Four.ofFn fun z' => decide (z' = z) := by fin_cases z <;> rfl
    refine ⟨rfl, rfl, rfl, ?_, s.openCase_marker _ (Case.mem_marks_of_leaking rfl (.inl rfl) ?_)⟩
    · rw [← only]
      rfl
    · fin_cases z <;> rfl
  · rintro z p rfl
    exact ⟨rfl, rfl, rfl, rfl⟩
  · rintro z k i rfl
    refine ⟨fun one driven => ?_, fun other => ?_⟩
    · obtain ⟨proc, state, step, counter⟩ := openingRecord_one_driven (i := i) one driven
      have claims := s.openCase_claimOf _ (Case.wants_heaterOpen_degraded proc state)
      refine ⟨state, step, counter, proc, ?_, ?_⟩
      · rw [claims]
        cases s.lg.drivenA z <;> cases s.lg.drivenB z <;> simp
      · rw [claims]
        cases s.lg.drivenA z <;> cases s.lg.drivenB z <;> simp
    · obtain ⟨proc, state, step, counter⟩ := openingRecord_tests (i := i) other
      have claims := s.openCase_claimOf _ (Case.wants_heaterOpen_isolating proc state)
      exact ⟨state, step, counter, proc, by simp [claims, step], by simp [claims, step]⟩
  · rintro z i rfl
    exact ⟨rfl, rfl, rfl, rfl, rfl, fun line => by
      simp [s.openCase_claimOf (.heaterStuck z i) (Case.wants_heaterStuck rfl (.inl rfl))]⟩
  · rintro z k rfl
    exact ⟨rfl, rfl, rfl, rfl, rfl, fun line => by
      simp [s.openCase_claimOf (.overtemp z k) (Case.wants_overtemp_acting rfl rfl)]⟩
  · rintro z q rfl
    exact ⟨rfl, rfl, rfl, rfl, rfl⟩
  · rintro rfl
    exact ⟨rfl, rfl, rfl, rfl, rfl, racks⟩

end Sys2Proof.Machine
end

section
/-! PROOF. The expiry of a case's step timer (R120, R125, R134): whose it is, that a timer with time left does not
expire, and what the expiry makes of the case. -/

namespace Sys2Proof.Machine

/-! ### The case of an expiry -/

section
variable {s : State} (sound : s.TableSound) {k : Key} {c : Case} (mem : c ∈ s.cm.table) (takes : c.takes k = true)
include sound mem takes

/-- Of a key there is one case at most (R120), so a search that asks for the key finds this case or none. -/
theorem State.TableSound.find_of_takes {p : Case → Bool} (only : ∀ o, p o = true → o.takes k = true) :
    s.cm.table.find? p = if p c then some c else none := by
  have one := sound.2.2 k
  rw [List.countP_eq_length_filter] at one
  have same : ∀ o ∈ s.cm.table, p o = true → o = c := fun o ho h =>
    eq_of_mem_of_length_le_one one (List.mem_filter.mpr ⟨ho, only o h⟩) (List.mem_filter.mpr ⟨mem, takes⟩)
  cases found : s.cm.table.find? p with
  | none => simp [List.find?_eq_none.mp found c mem]
  | some o =>
    obtain rfl := same o (List.mem_of_find?_eq_some found) (List.find?_some found)
    simp [List.find?_some found]

/-- A case whose timer stands at 0 is the one that expires (R134). -/
theorem State.expiring_of_due {state : CaseState} {step : Step} (hstate : c.state = state) (hstep : c.step = step)
    (free : c.suspended = false) (due : c.timer = some 0) : s.expiring k state step = some c := by
  have stands := Case.standing_of_takes takes
  rw [State.expiring, sound.find_of_takes mem takes fun o h => by simp_all]
  simp [takes, Case.canExpire, stands, hstate, hstep, free, due]

/-- With time left on the timer of its case a key has nothing to expire (R134). -/
theorem State.expiring_of_running {ms : Nat} (running : c.timer = some (ms + 1)) (state : CaseState) (step : Step) :
    s.expiring k state step = none := by
  rw [State.expiring, sound.find_of_takes mem takes fun o h => by simp_all]
  simp [Case.canExpire, running]

end

/-! ### The commands -/

section
variable {s : State} (live : s.live = true)
include live

theorem exec_localiseExpiry : exec .localiseExpiry s = .next s.localiseExpiry := by
  simp [exec, execLocaliseExpiry, live]

theorem exec_drainTimeoutExpiry : exec .drainTimeoutExpiry s = .next s.drainExpiry := by
  simp [exec, execDrainTimeoutExpiry, live]

theorem exec_leakVerifyExpiry : exec .leakVerifyExpiry s = .next s.leakVerifyExpiry := by
  simp [exec, execLeakVerifyExpiry, live]

theorem exec_leakWatchExpiry :
    exec .leakWatchExpiry s
      = .next (if s.cm.leakWatch = some 0 then s.setCm { s.cm with leakWatch := none } else s) := by
  simp [exec, execLeakWatchExpiry, live]

theorem exec_purgeExpiry (z : Zone) : exec (.purgeExpiry z) s = .next (s.purgeExpiry z) := by
  simp [exec, execPurgeExpiry, live]

theorem exec_refillExpiry (z : Zone) : exec (.refillExpiry z) s = .next (s.refillExpiry z) := by
  simp [exec, execRefillExpiry, live]

end

/-! ### What an expiry makes of its case -/

theorem State.CaseChanged.commit {t s : State} {old new : Case} (h : t.CaseChanged s old new) :
    t.commit.CaseChanged s old new :=
  ⟨by simpa using h.record, h.others.congr (by simp), by simpa using h.rt, by simpa using h.pmc,
    by simpa using h.smp⟩

section
variable {t s : State} {old new : Case} (h : t.CaseChanged s old new)
include h

theorem State.CaseChanged.mode : t.pmc.mode = s.pmc.mode := by rw [h.pmc, State.addMarkers_mode]

theorem State.CaseChanged.limits : t.pmc.limits = s.pmc.limits := by rw [h.pmc, State.addMarkers_limits]

end

/-- A case whose timer expires takes its new record, and the event ends (R134). -/
theorem State.changeCase_commit_changed {s : State} (once : (s.cm.table.map (·.id)).Nodup) {c new : Case}
    (mem : c ∈ s.cm.table) (id : new.id = c.id) (stands : new.isResolved = false) :
    (s.changeCase c new).commit.CaseChanged s c new ∧ (s.changeCase c new).commit.SameOutside s :=
  ⟨(State.changeCase_changed once mem id stands c).commit, by simp [State.SameOutside]⟩

/-- The claims of a case that has changed are those of its new record, where its state is kept: no suspension is
evaluated then (R57, R124, R134). -/
theorem State.changeCase_claimOf (s : State) {old new : Case} (same : old.state = new.state) (l : LineId) :
    (s.changeCase old new).lg.claimOf (.ofCase new.id) l = new.posted.on l := by
  have quiet : (old.state != new.state) = false := by simp [same]
  rw [State.changeCase, State.settleAfter, quiet, if_neg (by decide), State.alterCase]
  simp only [quiet, Bool.false_and, Bool.false_or, Bool.false_eq_true, if_false, apply_ite State.lg,
    State.announceCase_lg, ite_self, State.addMarkers_claimOf_case, State.linkGainedPumps_lg, State.applySets_lg,
    Lines.claimOf_applySets_one, if_true]

end Sys2Proof.Machine
end

section
/-! PROOF. LOCALISE_EXPIRY (R78, R127, R137 to R140): what the judgement finds, the racks, and the tanks taken out of
service. -/

namespace Sys2Proof.Machine

/-! ### Zones that a case marks -/

theorem SlotState.takenOff_isOnline (slot : SlotState) : slot.takenOff.isOnline = false := by
  cases slot <;> rfl

/-- A zone that a case marks anew is out of service (R3). -/
theorem State.addMarker_takesOff {s : State} {id : Nat} {z : Zone} (fresh : id ∉ (s.pmc.zones.get z).marker) :
    ((s.addMarker id z).pmc.zones.get z).slot.isOnline = false := by
  simp only [State.addMarker, List.contains_eq_mem, fresh, decide_false, Bool.false_eq_true, if_false]
  split
  · simp [State.takeOff_pmc, SlotState.takenOff_isOnline]
  next off => simpa using off

/-- A marker puts no zone into service (R3). -/
theorem State.addMarker_keepsOff {s : State} {w : Zone} (off : (s.pmc.zones.get w).slot.isOnline = false) (id : Nat)
    (z : Zone) : ((s.addMarker id z).pmc.zones.get w).slot.isOnline = false := by
  simp only [State.addMarker]
  by_cases own : w = z
  · subst own
    repeat' split
    · exact off
    · simp [State.takeOff_pmc, SlotState.takenOff_isOnline]
    · simpa using off
  · repeat' split
    · exact off
    · simpa [State.takeOff_pmc, own] using off
    · simpa [own] using off

theorem State.addMarkers_keepsOff {s : State} {w : Zone} (off : (s.pmc.zones.get w).slot.isOnline = false) (id : Nat)
    (zs : List Zone) : ((zs.foldl (State.addMarker id) s).pmc.zones.get w).slot.isOnline = false := by
  induction zs generalizing s with
  | nil => exact off
  | cons z zs ih => exact ih (State.addMarker_keepsOff off id z)

theorem State.addMarkers_takesOff {s : State} {id : Nat} {zs : List Zone} {w : Zone} (marked : w ∈ zs)
    (fresh : id ∉ (s.pmc.zones.get w).marker) :
    ((zs.foldl (State.addMarker id) s).pmc.zones.get w).slot.isOnline = false := by
  induction zs generalizing s with
  | nil => cases marked
  | cons z zs ih =>
    rw [List.foldl_cons]
    by_cases own : w = z
    · subst own
      exact State.addMarkers_keepsOff (State.addMarker_takesOff fresh) id zs
    · refine ih ((List.mem_cons.mp marked).resolve_left own) ?_
      rw [State.addMarker_marker]
      exact fun h => h.elim fresh fun ⟨_, here⟩ => own here

/-- A change of a case to a record that marks a zone, which the old record did not mark (R3, R138, R147). -/
theorem State.CaseChanged.takesOff {t s : State} {old new : Case} (h : t.CaseChanged s old new)
    (unmarked : old.marks = []) {z : Zone} (marks : z ∈ new.marks) :
    new.id ∈ (t.pmc.zones.get z).marker
      ∧ (new.id ∉ (s.pmc.zones.get z).marker → (t.pmc.zones.get z).slot.isOnline = false) := by
  have gained : z ∈ old.gainedMarks new := by simpa [Case.gainedMarks, unmarked] using marks
  rw [h.pmc]
  exact ⟨(s.addMarkers_marker new.id _ z new.id).mpr (.inr ⟨rfl, gained⟩), State.addMarkers_takesOff gained⟩

/-! ### The judgement -/

/-- The leaking tanks after the judgement: those there were, and those that have fallen (R137). -/
def leakFound (s : State) (leaking : ZoneSet) (refs : Four (Option Nat)) : ZoneSet :=
  Four.ofFn fun z => leaking.get z || (leakingTanks s refs).get z

section
variable {c : Case} {src : LeakSource} {leaking un : ZoneSet} {refs : Four (Option Nat)}
  (proc : c.proc = .leak src leaking un refs)
include proc

theorem Case.judgeLeak_eq (s : State) :
    c.judgeLeak s
      = if zoneSetAny (leakFound s leaking refs) then
          c.drainTanks src (leakFound s leaking refs) (unjudgedTanks s refs un) s.pmc.limits
        else if s.smp.panWet || s.cm.leakWatch.isSome then
          c.leakManual src (leakFound s leaking refs) (unjudgedTanks s refs un)
        else c.leakVerify src (unjudgedTanks s refs un) s.pmc.limits := by
  rw [Case.judgeLeak, proc]
  rfl

theorem Case.judgeLeak_stands (s : State) : (c.judgeLeak s).isResolved = false := by
  rw [Case.judgeLeak_eq proc]
  repeat' split
  all_goals rfl

theorem Case.takes_leak (stands : c.isResolved = false) : c.takes .leak = true := by
  simp [Case.takes, stands, proc, Proc.key]

/-- A case that isolates a leak marks no zone (R138). -/
theorem Case.marks_leak_isolating (state : c.state = .isolating) : c.marks = [] := by
  simp [Case.marks, proc, state]

/-- The racks after the judgement: all linked where the case drains, those linked held where it goes MANUAL (R77, R78,
R127). -/
theorem Rt.caseChanged_of_judged (rt : Rt) (state : c.state = .isolating) (s : State) (zones : Four ZoneSlot)
    (travel : Word32) :
    rt.caseChanged c (c.judgeLeak s) zones travel
      = { rt with
          queue := rt.queue.map fun r =>
            if zoneSetAny (leakFound s leaking refs) then r.link c.id
            else if s.smp.panWet || s.cm.leakWatch.isSome then r.holdFor c.id
            else r } := by
  have isolating := Case.wants_leak_isolating proc state
  rw [Case.judgeLeak_eq proc]
  split
  next leaks =>
    rw [Rt.caseChanged_of_leak (by simp [state, Case.drainTanks, Case.goto]) rfl]
    rfl
  next =>
    split
    next wet =>
      have manual : (c.leakManual src (leakFound s leaking refs) (unjudgedTanks s refs un)).Wants _ _ :=
        Case.wants_leak_manual rfl rfl
      rw [Rt.caseChanged_of_manual (by simp [state, Case.leakManual, Case.goto]) rfl,
        Rt.linkPumps_none (Case.gainsPump_false isolating manual (by simp))]
      rfl
    next dry =>
      have verifying : (c.leakVerify src (unjudgedTanks s refs un) s.pmc.limits).Wants _ _ :=
        Case.wants_leak_verifying rfl rfl
      rw [Rt.caseChanged_of_pumps (.inr rfl) (.inr (by simp [Case.leakVerify, Case.goto])),
        Rt.linkPumps_none (Case.gainsPump_false isolating verifying (by simp))]
      simp

/-- A leaking tank that is found is marked, the case draining (R138). -/
theorem Case.mem_judgeLeak_marks {s : State} {z : Zone} (leaks : (leakFound s leaking refs).get z = true) :
    z ∈ (c.judgeLeak s).marks := by
  have any : zoneSetAny (leakFound s leaking refs) = true := (zoneSetAny_iff _).mpr ⟨z, leaks⟩
  rw [Case.judgeLeak_eq proc, if_pos any]
  exact Case.mem_marks_of_leaking rfl (.inl rfl) leaks

end

/-- Settles O24: the judgement's record, and what a change to it makes of racks and zones. -/
theorem localiseExpiryJudges : Obligations.LocaliseExpiryJudges := by
  unfold Obligations.LocaliseExpiryJudges
  intro s c src leaking un refs live sound mem proc state step free due found un' procAfter
  have stands : c.isResolved = false := by simp [Case.isResolved, state]
  have takes := Case.takes_leak proc stands
  have expires : s.localiseExpiry = (s.changeCase c (c.judgeLeak s)).commit := by
    simp only [State.localiseExpiry, State.expiring_of_due sound mem takes state step free due]
  have id := (c.judgeLeak_same s).1
  obtain ⟨changed, outside⟩ := State.changeCase_commit_changed sound.2.1 mem id (Case.judgeLeak_stands proc s)
  obtain ⟨x, hx, bare⟩ := changed.record
  have foundEq : leakFound s leaking refs = found := congrArg Four.ofFn (funext fun z =>
    congrArg (leaking.get z || ·) (Four.get_ofFn _ z))
  have unEq : unjudgedTanks s refs un = un' := congrArg Four.ofFn (funext fun z => by
    cases (s.smp.channels.get z).level.reading <;> rfl)
  refine ⟨_, by rw [exec_localiseExpiry live, expires], by simpa [id] using changed.others, ?_, changed.smp,
    changed.mode, changed.limits, outside, x, hx, ?_, fun z leaks => ?_⟩
  · rw [changed.rt, Rt.caseChanged_of_judged proc s.rt state, foundEq]
  · rw [bare, Case.judgeLeak_eq proc, foundEq, unEq]
    rfl
  · have marked := changed.takesOff (Case.marks_leak_isolating proc state)
      (Case.mem_judgeLeak_marks proc (foundEq ▸ leaks))
    rwa [id] at marked

end Sys2Proof.Machine
end

section
/-! PROOF. The timers of the leak procedure (R138, R140, R141) and its zone samples (R136, R138). -/

namespace Sys2Proof.Machine

/-! ### The leak watch -/

theorem State.announceCase_leakWatch (s : State) (c : Case) : (s.announceCase c).cm.leakWatch = s.cm.leakWatch := by
  unfold State.announceCase State.serveCase
  simp only
  repeat' split
  all_goals rfl

/-- The end of a case leaves the leak watch (R128). -/
theorem State.resolveCase_leakWatch {c : Case} (stands : c.isResolved = false) (s : State) :
    (s.resolveCase c).cm.leakWatch = s.cm.leakWatch := by
  rw [State.resolveCase_eq stands]
  refine State.evaluateSuspension_induct (P := fun t => t.cm.leakWatch = s.cm.leakWatch) (fun _ _ h => h)
    (fun _ _ h => h) (fun t d h => (t.announceCase_leakWatch d).trans h) ?_
  rw [State.caseResolved, State.trigger_cm, State.announceCase_leakWatch]
  rfl

/-! ### The expiries -/

section
variable {c : Case} {src : LeakSource} {leaking un : ZoneSet} {refs : Four (Option Nat)}
  (proc : c.proc = .leak src leaking un refs)
include proc

/-- A LEAK case that goes from ACTING to MANUAL has blocked every pump before: the MANUAL report alone (R78, R127). -/
theorem Rt.caseChanged_of_drained (rt : Rt) (state : c.state = .acting) (zones : Four ZoneSlot) (travel : Word32) :
    rt.caseChanged c (c.leakManual src leaking un) zones travel = rt.manual c.id := by
  have manual : (c.leakManual src leaking un).Wants _ _ := Case.wants_leak_manual rfl rfl
  rw [Rt.caseChanged_of_manual (by simp [state, Case.leakManual, Case.goto]) rfl,
    Rt.linkPumps_none (Case.gainsPump_false (Case.wants_leak_acting proc state) manual (by simp))]
  rfl

end

/-! ### Zone samples -/

/-- A tank is drained: its level stands at or below its level_empty (R138). -/
theorem tankDrained_iff (s : State) (z : Zone) :
    tankDrained s z = true
      ↔ ∃ v rec,
          ((s.smp.channels.get z).level.reading = .valid v ∨ (s.smp.channels.get z).level.reading = .stale v)
            ∧ (s.pmc.zones.get z).slot.record = some rec ∧ v ≤ rec.levelEmpty := by
  simp only [← Reading.judged_eq_some, tankDrained]
  split
  next v rec level slot => simp [level, slot]
  next unread =>
    constructor
    · exact fun h => by cases h
    · rintro ⟨v, rec, level, slot, -⟩
      exact absurd slot (unread v rec level)

section
variable {c : Case} {z : Zone} {rec : ZoneRecord} {lines : Lines} {r : Quad Reading} {s : State} {src : LeakSource}
  {leaking un : ZoneSet} {refs : Four (Option Nat)}

/-- A drain that opens before the judgement ends the assessment of its tank (R136). -/
theorem Case.isolateSample_drained {ref : Nat} (held : refs.get z = some ref) (drains : lines.drive (.drain z) = true) :
    c.isolateSample z lines src leaking un refs
      = { c with proc := .leak src leaking (un.set z true) (refs.set z none) } := by
  simp [Case.isolateSample, held, drains, zoneAdd]

theorem Case.isolateSample_kept (h : refs.get z = none ∨ lines.drive (.drain z) = false) :
    c.isolateSample z lines src leaking un refs = c := by
  obtain unheld | closed := h
  · simp [Case.isolateSample, unheld]
  · simp [Case.isolateSample, closed]

/-- A sample of a leaking tank, judged by whether all the leaking tanks are drained (R138). -/
theorem Case.drainSample_eq :
    c.drainSample z s src leaking un
      = if leaking.get z = true ∧ ∀ w : Zone, leaking.get w = true → tankDrained s w = true then
          c.leakManual src leaking un
        else c := by
  simp [Case.drainSample, mem_zonesIn]

variable (proc : c.proc = .leak src leaking un refs)
include proc

theorem Case.sample_leak_isolating (state : c.state = .isolating) :
    c.sample z rec lines r s = (c.isolateSample z lines src leaking un refs, false) := by
  simp [Case.sample, proc, state]

theorem Case.sample_leak_acting (state : c.state = .acting) :
    c.sample z rec lines r s = (c.drainSample z s src leaking un, false) := by
  simp [Case.sample, proc, state]

/-- In VERIFYING and in MANUAL a LEAK case takes nothing from a sample (R139, R140). -/
theorem Case.sample_leak_idle (state : c.state = .verifying ∨ c.state = .manual) :
    c.sample z rec lines r s = (c, false) := by
  obtain state | state := state <;> simp [Case.sample, proc, state]

end

/-- Settles O25: the timers of the case, the leak watch, and the samples by state. -/
theorem leakTimersExpire : Obligations.LeakTimersExpire := by
  unfold Obligations.LeakTimersExpire
  refine ⟨fun s c src leaking un refs live sound mem proc free stands => ?_, fun s live => ?_,
    fun s c z rec lines r src leaking un refs proc => ?_⟩
  · have takes := Case.takes_leak proc stands
    refine ⟨fun ms running => ?_, fun due state step => ?_, fun due state step => ?_⟩
    · have still := State.expiring_of_running sound mem takes running
      simp only [exec_localiseExpiry live, exec_drainTimeoutExpiry live, exec_leakVerifyExpiry live,
        State.localiseExpiry, State.drainExpiry, State.leakVerifyExpiry, still, and_self]
    · have expires : s.drainExpiry = (s.changeCase c (c.leakManual src leaking un)).commit := by
        simp only [State.drainExpiry, State.expiring_of_due sound mem takes state step free due, Case.toLeakManual,
          proc]
      obtain ⟨changed, outside⟩ :=
        State.changeCase_commit_changed sound.2.1 mem (new := c.leakManual src leaking un) rfl rfl
      exact ⟨_, by rw [exec_drainTimeoutExpiry live, expires], changed.others,
        by rw [changed.rt, Rt.caseChanged_of_drained proc s.rt state]; rfl, changed.smp, outside, changed.record⟩
    · have expires : s.leakVerifyExpiry = (s.startLeakWatch.resolveCase c).commit := by
        simp only [State.leakVerifyExpiry, State.expiring_of_due sound mem takes state step free due]
      have ended := State.resolveCase_ended (s := s.startLeakWatch) mem stands
      have others := State.resolveCase_keepsOthers (s := s.startLeakWatch) sound.2.1 stands
      refine ⟨_, by rw [exec_leakVerifyExpiry live, expires], ended.congr (fun l => by simp) (by simp) (by simp) rfl,
        others.congr (by simp), ?_, ?_, ?_, ?_⟩
      · exact (congrArg Cm.leakWatch (State.commit_cm _)).trans (State.resolveCase_leakWatch stands _)
      · exact (State.commit_rt _).trans (State.resolveCase_rt stands)
      · exact (State.commit_smp _).trans (State.resolveCase_smp _ c)
      · simp [State.SameOutside, State.startLeakWatch]
  · rw [exec_leakWatchExpiry live]
    exact ⟨fun due => by rw [if_pos due]; rfl, fun other => by rw [if_neg other]⟩
  · intro out drained
    have drainedEq : drained ↔ ∀ w : Zone, leaking.get w = true → tankDrained s w = true := by
      simp only [drained, tankDrained_iff]
    refine ⟨fun state ⟨ref, held⟩ drains => ?_, fun state closed => ?_, fun state leaks all => ?_,
      fun state other => ?_, fun state => Case.sample_leak_idle proc state⟩
    · exact (Case.sample_leak_isolating proc state).trans
        (congrArg (·, false) (Case.isolateSample_drained held drains))
    · exact (Case.sample_leak_isolating proc state).trans (congrArg (·, false) (Case.isolateSample_kept closed))
    · exact (Case.sample_leak_acting proc state).trans
        (congrArg (·, false) (Case.drainSample_eq.trans (if_pos ⟨leaks, drainedEq.mp all⟩)))
    · have goesOn : ¬(leaking.get z = true ∧ ∀ w : Zone, leaking.get w = true → tankDrained s w = true) :=
        fun ⟨leaks, all⟩ => other.elim (fun sound => by simp [leaks] at sound) fun more => more (drainedEq.mpr all)
      exact (Case.sample_leak_acting proc state).trans
        (congrArg (·, false) (Case.drainSample_eq.trans (if_neg goesOn)))

end Sys2Proof.Machine
end

section
/-! PROOF. What a zone sample can make of a case (R123, R134, R136, R138, R145, R146, R150 to R156), procedure by
procedure. -/

namespace Sys2Proof.Machine

/-- A case with new findings. -/
def Case.withProc (c : Case) (p : Proc) : Case := { c with proc := p }

/-- A sample makes this of a case: it ends only by going RESOLVED as it stands, its findings apart; it gains no BLOCK
on a pump; it enters neither ISOLATING nor ACTING in a LEAK case; and where the machine is to halt it is in MANUAL. -/
structure Case.Samples (c : Case) (out : Case × Bool) : Prop where
  ends : c.isResolved = false → out.1.isResolved = true →
    out.2 = false ∧ ∃ p, out.1 = (c.withProc p).resolve
  pumps : ∀ w, Case.gainsPump (some c) out.1 w = false
  leak : c.state = out.1.state ∨ out.1.leakHandling = false
  halts : out.2 = true → out.1.state = .manual

section
variable {c new : Case}

/-- A record that blocks no pump gains none (R127). -/
theorem Case.gainsPump_of_none {blocks forces : List LineId} (wants : new.Wants blocks forces)
    (pumpless : ∀ w : Zone, LineId.pump w ∉ blocks) (old : Option Case) (w : Zone) :
    Case.gainsPump old new w = false := by
  simp [Case.gainsPump, wants.blocksPump, pumpless]

/-- An element under test blocks the other element alone (R149, R150). -/
theorem Case.gainsPump_of_test {z : Zone} {k sum : Nat} {a b : Bool} (proc : new.proc = .heaterOpen z k a b sum)
    (state : new.state = .isolating) (old : Option Case) (w : Zone) : Case.gainsPump old new w = false :=
  Case.gainsPump_of_none (Case.wants_heaterOpen_isolating proc state) (fun w => by split <;> simp) old w

/-- A record that keeps the state of its case. -/
theorem Case.Samples.stays (state : new.state = c.state) (pumps : ∀ w, Case.gainsPump (some c) new w = false) :
    c.Samples (new, false) where
  ends stands resolved := by simp_all [Case.isResolved]
  pumps := pumps
  leak := .inl state.symm
  halts h := by cases h

/-- The record of the case itself. -/
theorem Case.Samples.same (c : Case) : c.Samples (c, false) := .stays rfl c.gainsPump_self

/-- A record with another count. -/
theorem Case.Samples.counts (c : Case) (n : Nat) : c.Samples ({ c with counter := some n }, false) :=
  .stays rfl fun w => c.gainsPump_self w

/-- A case that goes RESOLVED. -/
theorem Case.Samples.resolves (c : Case) (p : Proc) : c.Samples ((c.withProc p).resolve, false) where
  ends _ _ := ⟨rfl, p, rfl⟩
  pumps := Case.gainsPump_of_none (Case.wants_of_resolved rfl) (by simp) (some c)
  leak := .inr (Case.resolve_leakHandling _)
  halts h := by cases h

/-- A case that enters another state of its procedure, with no pump blocked. -/
theorem Case.Samples.enters {b : Bool} {blocks forces : List LineId} (wants : new.Wants blocks forces)
    (pumpless : ∀ w : Zone, LineId.pump w ∉ blocks)
    (state : new.state = .manual ∨ new.state = .verifying ∨ new.state = .degraded)
    (halts : b = true → new.state = .manual) : c.Samples (new, b) where
  ends _ resolved := by
    obtain state | state | state := state <;> simp [Case.isResolved, state] at resolved
  pumps := Case.gainsPump_of_none wants pumpless (some c)
  leak := .inr (by obtain state | state | state := state <;> simp [Case.leakHandling, state, CaseState.suspends])
  halts := halts

end

section
variable (z : Zone) (rec : ZoneRecord) (lines : Lines) (s : State) {c : Case}

theorem Case.isolateSample_samples {src : LeakSource} {leaking un : ZoneSet} {refs : Four (Option Nat)}
    (proc : c.proc = .leak src leaking un refs) (state : c.state = .isolating) :
    c.Samples (c.isolateSample z lines src leaking un refs, false) := by
  unfold Case.isolateSample
  split
  · exact .stays rfl (Case.gainsPump_false (Case.wants_leak_isolating proc state)
      (Case.wants_leak_isolating rfl state) fun _ blocked => blocked)
  · exact .same c

theorem Case.drainSample_samples (src : LeakSource) (leaking un : ZoneSet) :
    c.Samples (c.drainSample z s src leaking un, false) := by
  unfold Case.drainSample
  split
  · exact .enters (Case.wants_leak_manual rfl rfl) (by simp) (.inl rfl) fun h => by cases h
  · exact .same c

theorem Case.refillSample_samples (level : Reading) (pressure attempt : Nat) (l : Limits) :
    c.Samples (c.refillSample z rec level pressure attempt l, false) := by
  unfold Case.refillSample
  repeat' split
  · exact .enters (Case.wants_filter_verifying rfl rfl) (by simp) (.inr (.inl rfl)) fun h => by cases h
  · exact .same c
  · exact .same c

theorem Case.verifySample_samples (goal n : Nat) : c.Samples (c.verifySample goal n, false) := by
  unfold Case.verifySample
  split
  · exact .resolves c c.proc
  · exact .counts c _

theorem Case.testSample_samples {k sum : Nat} {a b : Bool} (state : c.state = .isolating) (driven : Bool)
    (current : Reading) (n : Nat) : c.Samples (c.testSample z rec driven current k a b sum n, false) := by
  unfold Case.testSample
  repeat' split
  next v _ _ =>
    exact .stays rfl (Case.gainsPump_of_test
      (new := { c with proc := .heaterOpen z k a b (sum + v), counter := some (n + 1) }) rfl state _)
  · unfold Case.endTests
    split
    · exact .enters (Case.wants_heaterOpen_degraded rfl rfl) (by simp) (.inr (.inr rfl)) fun h => by cases h
    · exact .resolves c _
  · exact .stays state.symm (Case.gainsPump_of_test rfl rfl _)
  · exact .same c

theorem Case.stuckSample_samples (state : c.state = .isolating) (current : Reading) (carried low n : Nat) :
    c.Samples (c.stuckSample z rec current carried low n) := by
  unfold Case.stuckSample
  extract_lets run
  repeat' split
  · exact .enters (Case.wants_heaterStuck rfl (.inr rfl)) (by simp) (.inl rfl) fun _ => rfl
  · exact .enters (Case.wants_heaterStuck rfl (.inr rfl)) (by simp) (.inl rfl) fun _ => rfl
  · exact .stays rfl (Case.gainsPump_of_none (Case.wants_heaterStuck
      (c := { c with proc := .heaterStuck z carried run, counter := some (n + 1) }) rfl (.inl state)) (by simp) _)

theorem Case.hotSample_samples (temperature : Reading) (carried n : Nat) :
    c.Samples (c.hotSample z rec temperature carried n, false) := by
  have manual : c.Samples (c.goto (.overtemp z carried) .manual .none none none, false) :=
    .enters (Case.wants_overtemp_manual rfl rfl) (by simp) (.inl rfl) fun h => by cases h
  unfold Case.hotSample
  repeat' split
  · exact .counts c 0
  · exact .resolves c c.proc
  · exact manual
  · exact .counts c _
  · exact .counts c 0
  · exact manual
  · exact .counts c _
  · exact .counts c 0

theorem Case.sensorSample_samples (reading : Reading) (n : Nat) : c.Samples (c.sensorSample reading n, false) := by
  unfold Case.sensorSample
  repeat' split
  · exact .resolves c c.proc
  · exact .counts c _
  · exact .counts c 0

/-- What a zone sample makes of any case (R134). -/
theorem Case.sample_samples (r : Quad Reading) : c.Samples (c.sample z rec lines r s) := by
  unfold Case.sample
  split
  next proc state => exact Case.isolateSample_samples z lines proc state
  next => exact Case.drainSample_samples ..
  next =>
    split
    · exact Case.refillSample_samples ..
    · exact .same c
  next =>
    split
    · exact Case.verifySample_samples ..
    · exact .same c
  next state =>
    split
    · exact Case.testSample_samples z rec state ..
    · exact .same c
  next state =>
    split
    · exact Case.stuckSample_samples z rec state ..
    · exact .same c
  next =>
    split
    · exact Case.hotSample_samples ..
    · exact .same c
  next =>
    split
    · exact Case.sensorSample_samples ..
    · exact .same c
  · exact .same c

end

end Sys2Proof.Machine
end

section
/-! PROOF. A zone sample as the event of one case (R20, R124, R134, R152): the record, the other cases, the racks, the
end of the case, and the halt on a current that is not isolated. -/

namespace Sys2Proof.Machine

/-! ### A change before suspension is evaluated -/

/-- What a change of a case has made before suspension is evaluated (R127, R131, R134): its record, unless it has gone
RESOLVED, no other record, the reports to the Rack Tracker and the markers. -/
structure State.CaseAltered (q s : State) (old new : Case) : Prop where
  changes : ChangesOnly new.id q.cm.table s.cm.table
  record : new.isResolved = false → ∃ b, { new with announce := b } ∈ q.cm.table
  rt : q.rt = s.rt.caseChanged old new s.pmc.zones s.smp.travel
  pmc : q.pmc = ((old.gainedMarks new).foldl (State.addMarker new.id) s).pmc

theorem State.alterCase_altered {s : State} {stored new : Case} (mem : stored ∈ s.cm.table) (id : new.id = stored.id)
    (old : Case) : (s.alterCase old new).CaseAltered s old new := by
  obtain ⟨q, taken, stages⟩ := s.alterCase_stages old new
  have stays : new ∈ q.cm.table := taken.mem mem id
  have put : ChangesOnly new.id q.cm.table s.cm.table := by
    rw [taken.cm]
    exact replaceCase_changesOnly s.cm.table new
  have kept : q.CaseAltered s old new := ⟨put, fun _ => ⟨new.announce, stays⟩, taken.rt, taken.zones⟩
  have announced : (q.announceCase new).CaseAltered s old new :=
    ⟨(q.announceCase_changesOnly new).trans put, fun stands => State.announceCase_mem stays rfl stands,
      by rw [State.announceCase_rt, taken.rt], by rw [State.announceCase_pmc, taken.zones]⟩
  rw [stages]
  repeat' split
  · exact ⟨announced.changes, announced.record, announced.rt, announced.pmc⟩
  · exact announced
  · exact kept

theorem State.addMarker_haltCause (s : State) (id : Nat) (z : Zone) :
    (s.addMarker id z).pmc.haltCause = s.pmc.haltCause := by
  simp only [State.addMarker]
  repeat' split
  · rfl
  · rw [State.takeOff_pmc]
    rfl
  · rfl

theorem State.addMarkers_haltCause (s : State) (id : Nat) (zs : List Zone) :
    (zs.foldl (State.addMarker id) s).pmc.haltCause = s.pmc.haltCause := by
  induction zs generalizing s with
  | nil => rfl
  | cons z zs ih => rw [List.foldl_cons, ih, State.addMarker_haltCause]

/-! ### The case that takes the sample -/

/-- A case moves on by its own procedure from the state with its markers, or, going RESOLVED, from that without them
(R3, R57). -/
theorem State.advanceCase_eq (s : State) (old new : Case) :
    s.advanceCase old new
      = (if new.isResolved && !old.isResolved then s.removeMarkers old.id else s).alterCase old new := by
  unfold State.advanceCase
  split <;> rfl

/-- The racks when a case has taken a sample: those linked are held where it enters MANUAL, and nothing else (R78,
R127). -/
theorem Rt.caseChanged_of_samples {c : Case} {out : Case × Bool} (h : c.Samples out) (id : out.1.id = c.id) (rt : Rt)
    (zones : Four ZoneSlot) (travel : Word32) :
    rt.caseChanged c out.1 zones travel
      = { rt with
          queue := rt.queue.map fun x =>
            if c.state ≠ .manual ∧ out.1.state = .manual then x.holdFor c.id else x } := by
  by_cases enters : c.state ≠ .manual ∧ out.1.state = .manual
  · obtain ⟨before, manual⟩ := enters
    rw [Rt.caseChanged_of_manual (by rwa [manual]) manual, Rt.linkPumps_none h.pumps, id]
    simp [Rt.manual, before, manual]
  · have elsewhere : c.state = out.1.state ∨ out.1.state ≠ .manual := by
      by_cases manual : out.1.state = .manual
      · exact .inl (by rw [manual]; by_contra before; exact enters ⟨before, manual⟩)
      · exact .inr manual
    rw [Rt.caseChanged_of_pumps h.leak elsewhere, Rt.linkPumps_none h.pumps]
    simp [enters]

/-- What a sample has made of a state before suspension is evaluated. -/
structure State.Sampled (q s : State) (c : Case) (out : Case × Bool) : Prop where
  changes : ChangesOnly c.id q.cm.table s.cm.table
  record : out.1.isResolved = false → ∃ b, { out.1 with announce := b } ∈ q.cm.table
  rt : q.rt = { s.rt with
    queue := s.rt.queue.map fun x =>
      if c.state ≠ .manual ∧ out.1.state = .manual then x.holdFor c.id else x }
  mode : q.pmc.mode = s.pmc.mode
  cause : q.pmc.haltCause = s.pmc.haltCause

theorem State.advanceCase_sampled {s : State} {c : Case} (mem : c ∈ s.cm.table) {out : Case × Bool}
    (h : c.Samples out) (id : out.1.id = c.id) : (s.advanceCase c out.1).Sampled s c out := by
  rw [State.advanceCase_eq]
  have sampled : ∀ q : State, q.cm = s.cm → q.rt = s.rt → q.pmc.mode = s.pmc.mode →
      q.pmc.haltCause = s.pmc.haltCause → (q.alterCase c out.1).Sampled s c out := fun q cm rt mode cause => by
    obtain ⟨changes, record, racks, pmc⟩ := State.alterCase_altered (s := q) (cm ▸ mem) id c
    exact ⟨by rwa [id, cm] at changes, record, by rw [racks, rt, Rt.caseChanged_of_samples h id],
      by rw [pmc, State.addMarkers_mode, mode], by rw [pmc, State.addMarkers_haltCause, cause]⟩
  split
  · exact sampled _ rfl rfl rfl rfl
  · exact sampled _ rfl rfl rfl rfl

/-! ### The end of the case -/

/-- A case becomes RESOLVED from any record of its state: its claims leave the lines and it is announced (R57, R131). -/
theorem State.alterCase_resolves {old c : Case} (stands : old.isResolved = false) (s : State) :
    s.alterCase old c.resolve
      = (((s.putCase c.resolve).applySets [(.ofCase c.id, [])]).announceCase c.resolve).trigger := by
  have entered : (old.state != c.resolve.state) = true := by simpa [Case.isResolved, Case.resolve] using stands
  have not_manual : c.resolve.state ≠ .manual := by simp [Case.resolve]
  simp [State.alterCase, entered, not_manual, Case.resolve_posted, Case.resolve_leakHandling,
    Case.gainedMarks, Case.resolve_marks, State.linkGainedPumps_of_posted_nil (Case.resolve_posted c)]
  rfl

/-- New findings of a case that goes RESOLVED at once change no more than its record (R118). -/
theorem State.caseResolved_putCase (s : State) (c : Case) : (s.putCase c).caseResolved c = s.caseResolved c := by
  have put : ((s.putCase c).removeMarkers c.id).putCase c.resolve = (s.removeMarkers c.id).putCase c.resolve := by
    simp [State.putCase, State.removeMarkers, State.setCm, State.setPmc,
      replaceCase_replaceCase s.cm.table (c := c) (d := c.resolve) rfl]
  rw [State.caseResolved, State.caseResolved, put]

section
variable {s : State} {c : Case} (stands : c.isResolved = false) (p : Proc)
include stands

/-- A case whose procedure ends it, its last findings in its record, goes RESOLVED as by itself (R128, R134). -/
theorem State.advanceCase_resolves :
    (s.advanceCase c (c.withProc p).resolve).settleAfter c (c.withProc p).resolve
      = (s.putCase (c.withProc p)).resolveCase (c.withProc p) := by
  have moved : s.advanceCase c (c.withProc p).resolve = s.caseResolved (c.withProc p) := by
    have ends : ((c.withProc p).resolve.isResolved && !c.isResolved) = true := by rw [stands]; rfl
    rw [State.advanceCase_eq, if_pos ends, State.alterCase_resolves stands]
    rfl
  have entered : (c.state != (c.withProc p).resolve.state) = true := by
    simpa [Case.isResolved, Case.resolve] using stands
  rw [moved, State.settleAfter, if_pos entered, State.resolveCase_eq (c := c.withProc p) stands,
    State.caseResolved_putCase]

theorem State.advanceCase_ended (mem : c ∈ s.cm.table) :
    ((s.advanceCase c (c.withProc p).resolve).settleAfter c (c.withProc p).resolve).CaseEnded s c.id := by
  rw [State.advanceCase_resolves stands]
  have put : c.withProc p ∈ (s.putCase (c.withProc p)).cm.table := mem_replaceCase.mpr (.inl ⟨rfl, c, mem, rfl⟩)
  exact (State.resolveCase_ended put stands).congr (fun _ => rfl) rfl rfl rfl

end

/-! ### The halt -/

theorem State.enterHalt_of_running {s : State} (halt : s.pmc.mode ≠ .halt) (starting : s.pmc.mode ≠ .starting)
    (cause : HaltCause) : s.enterHalt cause = s.enterMode .halt cause := by
  unfold State.enterHalt
  split
  next h => exact absurd h halt
  next h => exact absurd h starting
  · rfl

/-- In HALT every line has the MODE claim (R15). -/
theorem State.enterHalt_claimOf_mode {s : State} (halt : s.pmc.mode ≠ .halt) (starting : s.pmc.mode ≠ .starting)
    (cause : HaltCause) (id : LineId) : (s.enterHalt cause).lg.claimOf .mode id = some .block := by
  rw [State.enterHalt_of_running halt starting, State.enterMode_claimOf_mode, modeClaims_on]
  simp

/-! ### The event -/

/-- The state after a case has taken a sample, and the machine has halted on it or not. -/
def State.sampleTaken (s : State) (c : Case) (out : Case × Bool) : State :=
  if out.2 then (s.advanceCase c out.1).enterHalt .unisolatedHeat else s.advanceCase c out.1

theorem State.caseSample_of_mem {s : State} (once : (s.cm.table.map (·.id)).Nodup) {c : Case} (mem : c ∈ s.cm.table)
    (free : c.suspended = false) (z : Zone) (rec : ZoneRecord) (lines : Lines) (r : Quad Reading) :
    s.caseSample z rec lines r c.id
      = ((s.sampleTaken c (c.sample z rec lines r s)).settleAfter c (c.sample z rec lines r s).1).commit := by
  rw [State.caseSample, findCase_of_mem once mem]
  simp [free, State.sampleTaken]

section
variable {s : State} {c : Case} {out : Case × Bool}

theorem State.sampleTaken_cm : (s.sampleTaken c out).cm = (s.advanceCase c out.1).cm := by
  unfold State.sampleTaken
  split <;> simp

theorem State.sampleTaken_rt : (s.sampleTaken c out).rt = (s.advanceCase c out.1).rt := by
  unfold State.sampleTaken
  split <;> simp

theorem State.sampleTaken_kept : (s.sampleTaken c out).smp = s.smp ∧ (s.sampleTaken c out).SameOutside s := by
  unfold State.sampleTaken State.advanceCase
  repeat' split
  all_goals simp [State.SameOutside]

variable (once : (s.cm.table.map (·.id)).Nodup) (mem : c ∈ s.cm.table) (samples : c.Samples out)
  (id : out.1.id = c.id)
include once mem samples id

theorem State.sampleTaken_once : ((s.sampleTaken c out).cm.table.map (·.id)).Nodup := by
  rw [State.sampleTaken_cm]
  exact once.sublist (State.advanceCase_sampled mem samples id).changes.ids

/-- The cases outside RESOLVED when suspension has been evaluated: the other ones as they stood, and that of the sample
with its new record (R124, R134). -/
theorem State.sampleTaken_settled :
    ((s.sampleTaken c out).settleAfter c out.1).KeepsOtherCases s c.id
      ∧ (out.1.isResolved = false →
          ∃ x ∈ ((s.sampleTaken c out).settleAfter c out.1).cm.table, x.bare = out.1.bare) := by
  have sampled := State.advanceCase_sampled mem samples id
  have keeps := State.settleAfter_keepsCases (State.sampleTaken_once once mem samples id) c out.1
  rw [State.sampleTaken_cm] at keeps
  refine ⟨fun o ho other stands => keeps o ((sampled.changes.others o other).mpr ho) stands, fun stands => ?_⟩
  obtain ⟨b, record⟩ := sampled.record stands
  exact keeps { out.1 with announce := b } record stands

/-- An unisolated current: the machine halts, and suspends every case (R20, R124, R152). -/
theorem State.sampleTaken_halted (halts : out.2 = true) (moved : out.1.state ≠ c.state) (halt : s.pmc.mode ≠ .halt)
    (starting : s.pmc.mode ≠ .starting) :
    let t := (s.sampleTaken c out).settleAfter c out.1
    t.pmc.mode = .halt ∧ t.pmc.haltCause = .unisolatedHeat ∧ (∀ l, t.lg.claimOf .mode l = some .block)
      ∧ ∀ x ∈ t.cm.table, x.isResolved = false → x.suspended = true := by
  intro t
  have sampled := State.advanceCase_sampled mem samples id
  have running : (s.advanceCase c out.1).pmc.mode ≠ .halt := by rwa [sampled.mode]
  have started : (s.advanceCase c out.1).pmc.mode ≠ .starting := by rwa [sampled.mode]
  have taken : s.sampleTaken c out = (s.advanceCase c out.1).enterHalt .unisolatedHeat := if_pos halts
  have evaluated : t = (s.sampleTaken c out).evaluateSuspension := if_pos (by simpa using moved.symm)
  have pmc : t.pmc = ((s.advanceCase c out.1).enterMode .halt .unisolatedHeat).pmc := by
    rw [evaluated, State.evaluateSuspension_pmc, taken, State.enterHalt_of_running running started]
  rw [State.enterMode_pmc] at pmc
  refine ⟨by rw [pmc], by rw [pmc], fun l => ?_, fun x hx stands => ?_⟩
  · rw [evaluated, (State.evaluateSuspension_onlyCases _).claims .mode l (by simp), taken,
      State.enterHalt_claimOf_mode running started]
  · have settled : t.SuspensionSettled := by
      rw [evaluated]
      exact State.evaluateSuspension_settled (State.sampleTaken_once once mem samples id)
    rw [settled x hx]
    simp [Case.heldBack, stands, pmc]

end

end Sys2Proof.Machine
end

section
/-! PROOF. The filter procedure (R144 to R147): its zone samples, its timers, and the statement with the sample of any
case. -/

namespace Sys2Proof.Machine

section
variable {c : Case} {z : Zone} {p a g : Nat}

/-! ### Zone samples -/

section
variable {rec : ZoneRecord} {lines : Lines} {r : Quad Reading} {s : State}

/-- The tank of a FILTER case is refilled: its level stands at level_setpoint or above (R145). -/
def Refilled (rec : ZoneRecord) (level : Reading) : Prop :=
  ∃ v, (level = .valid v ∨ level = .stale v) ∧ rec.levelSetpoint ≤ v

theorem Case.refillSample_full {level : Reading} {l : Limits} (full : Refilled rec level) :
    c.refillSample z rec level p a l = c.filterVerify z p a l := by
  obtain ⟨v, held, high⟩ := full
  simp [Case.refillSample, Reading.judged_eq_some.mpr held, high]

theorem Case.refillSample_low {level : Reading} {l : Limits} (low : ¬Refilled rec level) :
    c.refillSample z rec level p a l = c := by
  unfold Case.refillSample
  split
  next v held => exact if_neg fun high => low ⟨v, Reading.judged_eq_some.mp held, high⟩
  · rfl

variable (proc : c.proc = .filter z p a g)
include proc

theorem Case.sample_filter_refill (state : c.state = .acting) (step : c.step = .refill) :
    c.sample z rec lines r s = (c.refillSample z rec r.level p a s.pmc.limits, false) := by
  simp [Case.sample, proc, state, step]

/-- A FILTER case in PURGE takes nothing from a sample (R144). -/
theorem Case.sample_filter_purge (state : c.state = .acting) (step : c.step ≠ .refill) :
    c.sample z rec lines r s = (c, false) := by
  simp [Case.sample, proc, state, step]

theorem Case.sample_filter_verifying (state : c.state = .verifying) {n : Nat} (count : c.counter = some n) :
    c.sample z rec lines r s = (c.verifySample g n, false) := by
  simp [Case.sample, proc, state, count]

theorem Case.sample_filter_manual (state : c.state = .manual) : c.sample z rec lines r s = (c, false) := by
  simp [Case.sample, proc, state]

end

/-! ### The timers -/

/-- A FILTER case at the end of its last attempt (R147). -/
def Case.giveUp (c : Case) (z : Zone) (pressure attempt : Nat) : Case :=
  c.goto (.filter z pressure (attempt + 1) 0) .manual .none none none

/-- A failed attempt: the case purges again, or gives up (R147). -/
theorem Case.failAttempt_eq (c : Case) (z : Zone) (p a : Nat) (l : Limits) :
    c.failAttempt z p a l = if a + 1 < l.maxAttempts then c.purge z p (a + 1) l else c.giveUp z p a := rfl

section
variable (proc : c.proc = .filter z p a g)
include proc

theorem Case.takes_filter (stands : c.isResolved = false) : c.takes (.filter z) = true := by
  simp [Case.takes, stands, proc, Proc.key]

/-- A FILTER case that stays in ACTING reports no pump: it has blocked its own before (R127). -/
theorem Rt.caseChanged_of_acting (rt : Rt) (state : c.state = .acting) {new : Case} {p' a' g' : Nat}
    (after : new.proc = .filter z p' a' g') (stays : new.state = .acting) (zones : Four ZoneSlot) (travel : Word32) :
    rt.caseChanged c new zones travel = rt := by
  have same : c.state = new.state := state.trans stays.symm
  rw [Rt.caseChanged_of_pumps (.inl same) (.inl same), Rt.linkPumps_none (Case.gainsPump_false
    (Case.wants_filter_acting proc state) (Case.wants_filter_acting after stays) (by simp))]

/-- A FILTER case that gives up: the MANUAL report alone (R78, R127, R147). -/
theorem Rt.caseChanged_of_given_up (rt : Rt) (state : c.state = .acting) (zones : Four ZoneSlot) (travel : Word32) :
    rt.caseChanged c (c.giveUp z p a) zones travel = rt.manual c.id := by
  have manual : (c.giveUp z p a).Wants _ _ := Case.wants_filter_manual rfl rfl
  rw [Rt.caseChanged_of_manual (by simp [state, Case.giveUp, Case.goto]) rfl, Rt.linkPumps_none
    (Case.gainsPump_false (Case.wants_filter_acting proc state) manual (by simp))]
  rfl

end

/-- A FILTER case has gone on in ACTING, its timer expired: the other cases, the racks and the sampler as they were, the
claims of its new step, its new record (R127, R134, R144, R147). -/
structure State.FilterGoesOn (t s : State) (z : Zone) (c new : Case) : Prop where
  others : t.KeepsOtherCases s c.id
  rt : t.rt = s.rt
  force : t.lg.claimOf (.ofCase c.id) (if new.step = .refill then .fill z else .drain z) = some .force
  free : t.lg.claimOf (.ofCase c.id) (if new.step = .refill then .drain z else .fill z) = none
  block : ∀ l ∈ [LineId.conveyor, .pump z, .heatA z, .heatB z], t.lg.claimOf (.ofCase c.id) l = some .block
  smp : t.smp = s.smp
  outside : t.SameOutside s
  record : ∃ x ∈ t.cm.table, x.bare = new.bare

theorem State.changeCase_filterGoesOn {s : State} (once : (s.cm.table.map (·.id)).Nodup) (mem : c ∈ s.cm.table)
    (proc : c.proc = .filter z p a g) (state : c.state = .acting) (free : c.suspended = false) {new : Case}
    {p' a' g' : Nat} (after : new.proc = .filter z p' a' g') (stays : new.state = .acting)
    (same : new.id = c.id ∧ new.suspended = c.suspended) :
    (s.changeCase c new).commit.FilterGoesOn s z c new := by
  obtain ⟨id, flag⟩ := same
  obtain ⟨changed, outside⟩ :=
    State.changeCase_commit_changed once mem id (by simp [Case.isResolved, stays])
  have claims : ∀ l, (s.changeCase c new).commit.lg.claimOf (.ofCase c.id) l
      = if l ∈ [LineId.conveyor, .pump z, .heatA z, .heatB z] then some .block
        else if l ∈ [if new.step = .refill then LineId.fill z else .drain z] ∧ new.suspended = false then
          some .force
        else none := fun l => by
    rw [← (Case.wants_filter_acting after stays).posted_on, State.commit_lg, ← id,
      State.changeCase_claimOf s (state.trans stays.symm)]
  have flag : new.suspended = false := flag.trans free
  refine ⟨id ▸ changed.others, by rw [changed.rt, Rt.caseChanged_of_acting proc s.rt state after stays], ?_, ?_,
    fun l block => by rw [claims, if_pos block], changed.smp, outside, changed.record⟩
  · rw [claims]
    by_cases step : new.step = .refill <;> simp [step, flag]
  · rw [claims]
    by_cases step : new.step = .refill <;> simp [step]

end

/-- Settles O26: the sample of any case, the samples of a FILTER case by state, its timers by step. -/
theorem filterTimersExpire : Obligations.FilterTimersExpire := by
  unfold Obligations.FilterTimersExpire
  refine ⟨fun s c z rec lines r sound mem free stands => ?_, fun s c z p a g rec lines r proc => ?_,
    fun s c z p a g live sound mem proc state free => ?_⟩
  · intro out t
    have once := sound.2.1
    have samples : c.Samples out := Case.sample_samples z rec lines s r
    have id : out.1.id = c.id := (c.sample_continues z rec lines s r).id
    have sampled := State.advanceCase_sampled mem samples id
    have event : t = ((s.sampleTaken c out).settleAfter c out.1).commit :=
      State.caseSample_of_mem once mem free z rec lines r
    obtain ⟨others, record⟩ := State.sampleTaken_settled once mem samples id
    obtain ⟨smp, power, freeIndex, pending⟩ := State.sampleTaken_kept (s := s) (c := c) (out := out)
    rw [event]
    refine ⟨others.congr (by simp), by simpa using smp, by simp [State.SameOutside, power, freeIndex, pending], ?_,
      fun lasts => by simpa using record lasts, fun resolved => ?_, fun goesOn => ?_, fun halts halt starting => ?_⟩
    · rw [State.commit_rt, State.settleAfter_rt, State.sampleTaken_rt, sampled.rt]
    · obtain ⟨goesOn, findings, ends⟩ := samples.ends stands resolved
      have taken : s.sampleTaken c out = s.advanceCase c out.1 := if_neg (by simp [goesOn])
      rw [taken, ends]
      exact (State.advanceCase_ended stands findings mem).congr (fun l => by simp) (by simp) (by simp) rfl
    · have taken : s.sampleTaken c out = s.advanceCase c out.1 := if_neg (by simp [goesOn])
      rw [State.commit_pmc, State.settleAfter_pmc, taken]
      exact ⟨sampled.mode, sampled.cause⟩
    · have moved : out.1.state ≠ c.state := (c.sample_flag z rec lines r s).2 halts
      simpa using State.sampleTaken_halted once mem samples id halts moved halt starting
  · intro out full
    refine ⟨fun state step refilled => ?_, fun state other => ?_,
      fun n state count => ⟨fun more => ?_, fun last => ?_⟩, fun state => Case.sample_filter_manual proc state⟩
    · exact (Case.sample_filter_refill proc state step).trans (congrArg (·, false) (Case.refillSample_full refilled))
    · by_cases step : c.step = .refill
      · exact (Case.sample_filter_refill proc state step).trans
          (congrArg (·, false) (Case.refillSample_low (other.resolve_left fun purging => purging step)))
      · exact Case.sample_filter_purge proc state step
    · exact (Case.sample_filter_verifying proc state count).trans (congrArg (·, false) (if_neg (by omega)))
    · exact (Case.sample_filter_verifying proc state count).trans (congrArg (·, false) (if_pos last))
  · have once := sound.2.1
    have takes := Case.takes_filter proc (by simp [Case.isResolved, state])
    refine ⟨fun ms running => ?_, fun due => ⟨fun step => ?_, fun step again => ?_, fun step last => ?_⟩⟩
    · have still := State.expiring_of_running sound mem takes running
      simp only [exec_purgeExpiry live, exec_refillExpiry live, State.purgeExpiry, State.refillExpiry, still, and_self]
    · have expires : s.purgeExpiry z = (s.changeCase c (c.refill z p a s.pmc.limits)).commit := by
        simp only [State.purgeExpiry, State.expiring_of_due sound mem takes state step free due, Case.toRefill, proc]
      have goesOn := State.changeCase_filterGoesOn once mem proc state free (new := c.refill z p a s.pmc.limits) rfl rfl
        ⟨rfl, rfl⟩
      obtain ⟨x, hx, bare⟩ := goesOn.record
      refine ⟨_, by rw [exec_purgeExpiry live, expires], goesOn.others, goesOn.rt, goesOn.force, goesOn.free,
        goesOn.block _ (by simp), goesOn.block _ (by simp), goesOn.smp, goesOn.outside, x, hx, ?_⟩
      rw [bare, Case.refill, Case.goto, ← state]
      rfl
    · have expires : s.refillExpiry z = (s.changeCase c (c.purge z p (a + 1) s.pmc.limits)).commit := by
        simp only [State.refillExpiry, State.expiring_of_due sound mem takes state step free due, Case.toFailed, proc,
          Case.failAttempt_eq, again, if_true]
      have goesOn := State.changeCase_filterGoesOn once mem proc state free (new := c.purge z p (a + 1) s.pmc.limits)
        rfl rfl ⟨rfl, rfl⟩
      obtain ⟨x, hx, bare⟩ := goesOn.record
      refine ⟨_, by rw [exec_refillExpiry live, expires], goesOn.others, goesOn.rt, goesOn.force, goesOn.free,
        goesOn.smp, goesOn.outside, x, hx, ?_⟩
      rw [bare, Case.purge, Case.goto, ← state]
      rfl
    · have expires : s.refillExpiry z = (s.changeCase c (c.giveUp z p a)).commit := by
        simp only [State.refillExpiry, State.expiring_of_due sound mem takes state step free due, Case.toFailed, proc,
          Case.failAttempt_eq, Nat.not_lt.mpr last, if_false]
      obtain ⟨changed, outside⟩ := State.changeCase_commit_changed once mem (new := c.giveUp z p a) rfl rfl
      have unmarked : c.marks = [] := by simp [Case.marks, proc, state]
      exact ⟨_, by rw [exec_refillExpiry live, expires], changed.others,
        by rw [changed.rt, Rt.caseChanged_of_given_up proc s.rt state]; rfl,
        (changed.takesOff unmarked (List.mem_singleton_self z)).1, changed.smp, outside, changed.record⟩

end Sys2Proof.Machine
end

section
/-! PROOF. The generations stay below the next one (R163): what a write, its stages and the restore scan make of
them, and that every command keeps them so. -/

namespace Sys2Proof.Machine

/-! ### The store -/

/-- A generation stored, or in flight, stands below the next one (R163). -/
theorem Ck.generationsBelow_iff (ck : Ck) :
    ck.GenerationsBelow ↔
      (∀ (i : Fin 4) (sn : Snapshot), (ck.slots.get i).valid = some sn → sn.generation < ck.nextGeneration)
        ∧ ∀ stage sn target, ck.write = .busy stage sn target → sn.generation < ck.nextGeneration := by
  refine and_congr_right fun _ => ?_
  cases ck.write <;> simp

section
variable {ck now : Ck}

/-- The write has ended, and no slot has changed. -/
theorem Ck.GenerationsBelow.idle (h : ck.GenerationsBelow) (slots : now.slots = ck.slots)
    (next : now.nextGeneration = ck.nextGeneration) (write : now.write = .idle) : now.GenerationsBelow := by
  rw [Ck.generationsBelow_iff] at h ⊢
  rw [slots, next, write]
  exact ⟨h.1, nofun⟩

/-- One slot written and a write in flight, the next generation above both. -/
theorem Ck.GenerationsBelow.set_slot (h : ck.GenerationsBelow) {target : Fin 4} {contents : SlotContents}
    (slots : now.slots = ck.slots.set target contents) (next : ck.nextGeneration ≤ now.nextGeneration)
    (written : ∀ sn, contents.valid = some sn → sn.generation < now.nextGeneration)
    (write : ∀ stage sn target, now.write = .busy stage sn target → sn.generation < now.nextGeneration) :
    now.GenerationsBelow := by
  rw [Ck.generationsBelow_iff] at h ⊢
  refine ⟨fun i sn valid => ?_, write⟩
  rw [slots, Four.get_set] at valid
  split at valid
  · exact written sn valid
  · exact (h.1 i sn valid).trans_le next

/-- The generation in flight. -/
theorem Ck.GenerationsBelow.flight (h : ck.GenerationsBelow) {stage : WriteStage} {snap : Snapshot}
    {target : Fin 4} (writing : ck.write = .busy stage snap target) : snap.generation < ck.nextGeneration :=
  (ck.generationsBelow_iff.mp h).2 _ _ _ writing

theorem Ck.GenerationsBelow.startErase (h : ck.GenerationsBelow) {snap : Snapshot}
    (below : snap.generation < ck.nextGeneration) (target : Fin 4) :
    (ck.startErase snap target).GenerationsBelow :=
  h.set_slot rfl le_rfl nofun fun _ _ _ e => by cases e; exact below

theorem Ck.GenerationsBelow.eraseComplete (h : ck.GenerationsBelow) : ck.eraseComplete.GenerationsBelow := by
  unfold Ck.eraseComplete
  split
  next writing => exact h.set_slot rfl le_rfl nofun fun _ _ _ e => by cases e; exact h.flight writing
  · exact h

/-- A record that reads back valid is the snapshot it was programmed with (R159). -/
theorem SlotContents.eq_of_valid_record {snap sn : Snapshot} {check : BitVec 16}
    (h : (SlotContents.record snap check).valid = some sn) : sn = snap := by
  obtain ⟨same, -⟩ := SlotContents.valid_eq_some.mp h
  cases same
  rfl

theorem Ck.GenerationsBelow.programComplete (h : ck.GenerationsBelow) (damage : BitVec 16) :
    (ck.programComplete damage).GenerationsBelow := by
  unfold Ck.programComplete
  split
  next writing =>
    exact h.set_slot rfl le_rfl (fun sn valid => by rw [SlotContents.eq_of_valid_record valid]; exact h.flight writing)
      fun _ _ _ e => by cases e; exact h.flight writing
  · exact h

theorem Ck.GenerationsBelow.cut (h : ck.GenerationsBelow) : ck.cut.GenerationsBelow := by
  unfold Ck.cut
  split
  · exact h
  · exact h.idle rfl rfl rfl
  · exact h.set_slot rfl le_rfl nofun nofun

end

/-! ### What an operation keeps -/

/-- The generations of the store stay below the next one from `s` to `t` (R163). -/
def State.KeepsGenerations (t s : State) : Prop := s.ck.GenerationsBelow → t.ck.GenerationsBelow

theorem State.KeepsGenerations.refl (s : State) : s.KeepsGenerations s := id

theorem State.KeepsGenerations.trans {u t s : State} (hu : u.KeepsGenerations t) (ht : t.KeepsGenerations s) :
    u.KeepsGenerations s := hu ∘ ht

/-- An operation behind a test. -/
theorem State.KeepsGenerations.ite {u t s : State} {b : Prop} [Decidable b] (ht : t.KeepsGenerations s)
    (hu : u.KeepsGenerations t) : (if b then u else t).KeepsGenerations s := by
  split
  · exact hu.trans ht
  · exact ht

theorem State.KeepsGenerations.foldl {α : Type} {f : State → α → State} (hf : ∀ s a, (f s a).KeepsGenerations s)
    (s : State) (as : List α) : (as.foldl f s).KeepsGenerations s := by
  induction as generalizing s with
  | nil => exact .refl s
  | cons a as ih => exact (ih (f s a)).trans (hf s a)

/-- An operation that leaves the store, or does no more to it than raise its trigger (R162). -/
theorem State.KeepsGenerations.of_trigger {t s : State} {b : Bool} (ck : t.ck = { s.ck with trigger := b }) :
    t.KeepsGenerations s := fun h => by rw [ck]; exact h

theorem State.KeepsGenerations.of_ck {t s : State} (ck : t.ck = s.ck) : t.KeepsGenerations s :=
  .of_trigger (b := s.ck.trigger) ck

/-- A write starts with the next generation, and the one after it is next from then on (R163). -/
theorem State.startWrite_keepsGenerations (s : State) : s.startWrite.KeepsGenerations s := fun h => by
  unfold State.startWrite
  split
  · exact h
  · exact h.set_slot rfl (Nat.le_succ _) nofun fun _ _ _ e => by cases e; exact Nat.lt_succ_self _

theorem State.commit_keepsGenerations (s : State) : s.commit.KeepsGenerations s := by
  unfold State.commit
  split
  · simp only
    split
    · exact (State.startWrite_keepsGenerations _).trans (.of_trigger rfl)
    · exact id
    · exact id
  · exact .refl s

theorem State.KeepsGenerations.commit {t s : State} (h : t.KeepsGenerations s) : t.commit.KeepsGenerations s :=
  t.commit_keepsGenerations.trans h

/-! ### The completions of a write -/

theorem State.writeVerified_keepsGenerations (snap : Snapshot) (target : Fin 4) (s : State) :
    (s.writeVerified snap target).KeepsGenerations s := by
  have ended : ∀ ck : Ck, ck.slots = s.ck.slots → ck.nextGeneration = s.ck.nextGeneration → ck.write = .idle →
      (s.setCk ck).KeepsGenerations s := fun ck slots next idle h => h.idle slots next idle
  simp only [State.writeVerified]
  repeat' split
  · exact .trans (.of_ck (State.announceCheckpoint_ck _)) (ended _ rfl rfl rfl)
  · exact (State.startWrite_keepsGenerations _).trans (ended _ rfl rfl rfl)
  · exact ended _ rfl rfl rfl

/-- The failed slot and the next target take the same snapshot (R165). -/
theorem State.writeFailed_keepsGenerations {snap : Snapshot} {target : Fin 4} {s : State} {stage : WriteStage}
    (writing : s.ck.write = .busy stage snap target) : (s.writeFailed snap target).KeepsGenerations s := by
  intro h
  have below := h.flight writing
  have marked : Ck.GenerationsBelow
      { s.ck with
        bad := s.ck.bad.set target true
        slots := s.ck.slots.set target (.record snap (Config.failedSlotCheck s.freeIndex)) } :=
    h.set_slot rfl le_rfl (fun sn valid => by rw [SlotContents.eq_of_valid_record valid]; exact below)
      fun _ _ _ e => h.flight e
  simp only [State.writeFailed]
  split
  · exact marked.startErase below _
  · rw [State.announceCheckpoint_ck]
    exact marked.idle rfl rfl rfl

theorem State.verifyComplete_keepsGenerations (s : State) : s.verifyComplete.KeepsGenerations s := by
  unfold State.verifyComplete
  split
  next writing =>
    split
    · exact s.writeVerified_keepsGenerations _ _
    · exact State.writeFailed_keepsGenerations writing
  · exact .refl s

/-! ### The Case Manager and the mode -/

theorem State.announceCase_keepsGenerations (s : State) (c : Case) :
    (s.announceCase c).KeepsGenerations s := by
  unfold State.announceCase State.serveCase
  simp only
  repeat' split
  · exact id
  · exact id
  · exact id

theorem State.evaluateSuspension_keepsGenerations (s : State) : s.evaluateSuspension.KeepsGenerations s :=
  State.evaluateSuspension_induct (P := fun t => t.KeepsGenerations s) (fun _ _ h => h) (fun _ _ h => h)
    (fun t c h => (t.announceCase_keepsGenerations c).trans h) (.refl s)

theorem State.alterCase_keepsGenerations (s : State) (old new : Case) :
    (s.alterCase old new).KeepsGenerations s := by
  unfold State.alterCase
  extract_lets entered s1 s2 s3 s4 s5 s6
  have h2 : s2.KeepsGenerations s := .of_ck (State.linkGainedPumps_ck s1 _ _)
  have h3 : s3.KeepsGenerations s := h2.ite id
  have h4 : s4.KeepsGenerations s := .trans (.of_ck (State.addMarkers_ck s3 _ _)) h3
  have h5 : s5.KeepsGenerations s := h4.ite id
  have h6 : s6.KeepsGenerations s := h5.ite (s5.announceCase_keepsGenerations new)
  exact h6.ite id

theorem State.settleAfter_keepsGenerations (s : State) (old new : Case) :
    (s.settleAfter old new).KeepsGenerations s :=
  (State.KeepsGenerations.refl s).ite s.evaluateSuspension_keepsGenerations

theorem State.changeCase_keepsGenerations (s : State) (old new : Case) :
    (s.changeCase old new).KeepsGenerations s :=
  (State.settleAfter_keepsGenerations _ old new).trans (s.alterCase_keepsGenerations old new)

theorem State.resolveCase_keepsGenerations (s : State) (c : Case) : (s.resolveCase c).KeepsGenerations s :=
  State.changeCase_keepsGenerations (s.removeMarkers c.id) c c.resolve

theorem State.advanceCase_keepsGenerations (s : State) (old new : Case) :
    (s.advanceCase old new).KeepsGenerations s := by
  unfold State.advanceCase
  split
  · exact State.alterCase_keepsGenerations (s.removeMarkers old.id) old new
  · exact s.alterCase_keepsGenerations old new

theorem State.enterMode_keepsGenerations (s : State) (m : Mode) (cause : HaltCause) :
    (s.enterMode m cause).KeepsGenerations s := .of_trigger (s.enterMode_ck m cause)

theorem State.changeMode_keepsGenerations (s : State) (m : Mode) (cause : HaltCause) :
    (s.changeMode m cause).KeepsGenerations s :=
  (State.evaluateSuspension_keepsGenerations _).trans (s.enterMode_keepsGenerations m cause)

theorem State.enterHalt_keepsGenerations (s : State) (cause : HaltCause) :
    (s.enterHalt cause).KeepsGenerations s := by
  unfold State.enterHalt
  split
  · exact .refl s
  · exact .refl s
  · exact s.enterMode_keepsGenerations .halt cause

theorem State.automaticHalt_keepsGenerations (s : State) (cause : HaltCause) :
    (s.automaticHalt cause).KeepsGenerations s := by
  unfold State.automaticHalt
  split
  · exact .refl s
  · exact .refl s
  · exact s.changeMode_keepsGenerations .halt cause

theorem State.openCase_keepsGenerations (s : State) (d : Detection) : (s.openCase d).KeepsGenerations s := by
  unfold State.openCase
  extract_lets id bare new cm s1 s2 s3 s4 s5 s6 s7
  have h2 : s2.KeepsGenerations s := s1.evaluateSuspension_keepsGenerations
  have h4 : s4.KeepsGenerations s := .trans (.of_ck (State.linkGainedPumps_ck s3 _ _)) h2
  have h5 : s5.KeepsGenerations s := h4.ite fun h => h
  have h6 : s6.KeepsGenerations s := h5.ite fun h => h
  have h7 : s7.KeepsGenerations s := .trans (.of_ck (State.addMarkers_ck s6 _ _)) h6
  exact (s7.announceCase_keepsGenerations new).trans h7

theorem State.detect_keepsGenerations (s : State) (d : Detection) : (s.detect d).KeepsGenerations s := by
  unfold State.detect
  split
  · exact s.changeCase_keepsGenerations _ _
  · split
    · exact s.openCase_keepsGenerations d
    · exact s.automaticHalt_keepsGenerations _

theorem State.detectEvent_keepsGenerations (s : State) (d : Detection) :
    (s.detectEvent d).KeepsGenerations s := (s.detect_keepsGenerations d).commit

theorem State.drainRacks_keepsGenerations (s : State) : s.drainRacks.KeepsGenerations s := by
  obtain ⟨b, ck⟩ := s.drainRacks_ck
  exact .of_trigger ck

theorem State.flush_keepsGenerations (s : State) (reason : FlushReason) :
    (s.flush reason).KeepsGenerations s := by
  obtain ⟨b, ck⟩ := s.flush_ck reason
  exact .of_trigger ck

theorem State.entryEvent_keepsGenerations (s : State) : s.entryEvent.KeepsGenerations s := by
  simp only [State.entryEvent]
  repeat' split
  · exact id
  · exact id
  · exact id

/-! ### The round and the travel event -/

theorem State.caseSample_keepsGenerations (z : Zone) (rec : ZoneRecord) (lines : Lines) (r : Quad Reading)
    (s : State) (id : Nat) : (s.caseSample z rec lines r id).KeepsGenerations s := by
  unfold State.caseSample
  split
  · exact .refl s
  next c _ =>
    split
    · exact .refl s
    · extract_lets n q
      have halted := (s.advanceCase_keepsGenerations c n.1).ite (b := n.2)
        (q.enterHalt_keepsGenerations .unisolatedHeat)
      exact ((State.settleAfter_keepsGenerations _ c n.1).trans halted).commit

theorem State.managerSample_keepsGenerations (z : Zone) (lines : Lines) (r : Quad Reading) (ds : List Detection)
    (first : Nat) (ids : List Nat) (s : State) : (s.managerSample z lines r ds first ids).KeepsGenerations s := by
  have cases : ∀ s : State, (s.casesSample z lines r ids).KeepsGenerations s := fun s => by
    unfold State.casesSample
    split
    · exact .refl s
    · exact .foldl (State.caseSample_keepsGenerations z _ lines r) s ids
  exact (State.KeepsGenerations.foldl State.detectEvent_keepsGenerations _ _).trans
    ((cases _).trans (.foldl State.detectEvent_keepsGenerations s _))

/-- The consumers of a zone sample before the Case Manager leave the store (R29). -/
theorem State.finalSample_ck (z : Zone) (lines : Lines) (r : Quad Reading) (s : State) :
    (s.finalSample z lines r).ck = s.ck := by
  have dose : (s.doseSample z lines r).ck = s.ck := by
    simp only [State.doseSample]
    split <;> rfl
  simp only [State.finalSample]
  repeat' split
  · rfl
  · rw [(State.dwellSample_rt_ck z _).2, dose]
  · exact dose
  · rfl

theorem State.zoneSample_keepsGenerations (codes : Quad Nat) (order : ZoneOrder) (z : Zone) (s : State) :
    (s.zoneSample codes order z).KeepsGenerations s := by
  unfold State.zoneSample
  extract_lets conv r lines ids smp s1 s2 f s3
  have h1 : (s1.contactSample z lines r).KeepsGenerations s := (State.KeepsGenerations.refl s1).ite id
  have h2 : s2.KeepsGenerations s := .trans (.of_ck (State.finalSample_ck z lines r _)) h1
  have detected : f.1.KeepsGenerations s2 := by
    simp only [f, State.detectorSample]
    split
    · exact id
    · exact id
  have h3 : s3.KeepsGenerations s := (detected.trans h2).ite id
  split
  · exact (State.managerSample_keepsGenerations z lines r f.2 _ ids (s3.guardSample z r)).trans h3
  · exact (State.managerSample_keepsGenerations z lines r f.2 _ ids s3).trans h3

theorem State.sampleRound_keepsGenerations (input : RoundInput) (s : State) :
    (s.sampleRound input).KeepsGenerations s := by
  have pan : ∀ (before : Smp) (s : State), (s.panEvent before).KeepsGenerations s := fun _ s =>
    (State.KeepsGenerations.refl s).ite (s.detectEvent_keepsGenerations .leakPan)
  have eye : ∀ (before : Smp) (s : State), (s.eyeEvent before).KeepsGenerations s := fun _ s =>
    (State.KeepsGenerations.refl s).ite s.entryEvent_keepsGenerations.commit
  have debounced : (s.setSmp (s.smp.debounced input)).KeepsGenerations s := .of_ck rfl
  have inputs : (s.inputsTaken input).KeepsGenerations s := by
    simp only [State.inputsTaken]
    split
    · exact (pan _ _).trans ((eye _ _).trans debounced)
    · exact (eye _ _).trans ((pan _ _).trans debounced)
  rw [State.sampleRound_eq]
  exact (State.KeepsGenerations.foldl (fun s z => State.zoneSample_keepsGenerations _ _ z s) _ _).trans inputs

theorem State.pulse_keepsGenerations (trackerFirst : Bool) (s : State) :
    (s.pulse trackerFirst).KeepsGenerations s := by
  have detectors : ∀ s : State, s.pulseDetectors.KeepsGenerations s := fun s => by
    obtain ⟨-, same⟩ | same | ⟨c, -, same⟩ := s.pulseDetectors_cases
    · rw [same]; exact .refl s
    · rw [same]; exact id
    · rw [same]; exact State.resolveCase_keepsGenerations s.silenceRestarted c
  have exits : ∀ s : State, s.testExits.KeepsGenerations s := fun s =>
    (State.drainRacks_keepsGenerations _).trans (.of_ck rfl)
  rw [State.pulse_eq]
  split
  · exact ((detectors _).trans (exits s.moved)).commit
  · exact ((exits _).trans (detectors s.moved)).commit

/-! ### Expiries -/

theorem State.silenceExpiry_keepsGenerations (s : State) : s.silenceExpiry.KeepsGenerations s := by
  unfold State.silenceExpiry
  split
  · exact (State.detectEvent_keepsGenerations _ .travel).trans (.of_ck rfl)
  · exact .refl s

theorem State.dwellExpiry_keepsGenerations (s : State) : s.dwellExpiry.KeepsGenerations s := by
  unfold State.dwellExpiry
  split
  · exact id
  · exact .refl s

/-- A step timer that expires makes a change of its case, and the event is over (R134). -/
theorem State.caseExpiry_keepsGenerations (s : State) (due : Option Case) (next : Case → Case) :
    (match due with
      | some c => (s.changeCase c (next c)).commit
      | none => s).KeepsGenerations s := by
  split
  · exact (s.changeCase_keepsGenerations _ _).commit
  · exact .refl s

theorem State.leakVerifyExpiry_keepsGenerations (s : State) : s.leakVerifyExpiry.KeepsGenerations s := by
  unfold State.leakVerifyExpiry
  split
  · exact (State.resolveCase_keepsGenerations s.startLeakWatch _).commit
  · exact .refl s

theorem State.fillFreed_keepsGenerations (s : State) : s.fillFreed.KeepsGenerations s := by
  unfold State.fillFreed
  repeat' split
  · exact .of_ck s.announceRestore_ck
  · exact .of_ck s.announceMode_ck
  · exact .of_ck s.announceCheckpoint_ck
  · exact s.announceCase_keepsGenerations _
  · exact .refl s

end Sys2Proof.Machine
end

section
/-! PROOF. The restore scan (R159, R168): which slot it selects, slot by slot. -/

namespace Sys2Proof.Machine

/-- One slot looked at by the restore scan (R168). -/
def newerOf (slots : Four SlotContents) (best : Option (Fin 4 × Snapshot)) (i : Fin 4) :
    Option (Fin 4 × Snapshot) :=
  match (slots.get i).valid, best with
  | none, b => b
  | some s, none => some (i, s)
  | some s, some b => if b.2.generation < s.generation then some (i, s) else some b

theorem restoreChoice_eq_foldl (slots : Four SlotContents) :
    restoreChoice slots = Four.indices.foldl (newerOf slots) none := rfl

/-- What the scan has selected of the slots it has seen: a valid one of the greatest generation, the
lower-numbered of two with the same; or none, where none was valid (R168). -/
def IsNewest (slots : Four SlotContents) (seen : List (Fin 4)) : Option (Fin 4 × Snapshot) → Prop
  | none => ∀ j ∈ seen, (slots.get j).valid = none
  | some (i, sn) =>
    i ∈ seen ∧ (slots.get i).valid = some sn
      ∧ ∀ j ∈ seen, ∀ sn', (slots.get j).valid = some sn' →
          sn'.generation ≤ sn.generation ∧ (j < i → sn'.generation < sn.generation)

/-- The scan goes up: the slot looked at next comes after all it has seen. -/
theorem IsNewest.next {slots : Four SlotContents} {seen : List (Fin 4)} {best : Option (Fin 4 × Snapshot)}
    (h : IsNewest slots seen best) {i : Fin 4} (later : ∀ j ∈ seen, j < i) :
    IsNewest slots (seen ++ [i]) (newerOf slots best i) := by
  have split : ∀ {j : Fin 4}, j ∈ seen ++ [i] → j ∈ seen ∨ j = i := by simp
  unfold newerOf
  cases valid : (slots.get i).valid with
  | none =>
    cases best with
    | none =>
      intro j mem
      obtain old | rfl := split mem
      · exact h j old
      · exact valid
    | some b =>
      obtain ⟨mem, own, newest⟩ := h
      refine ⟨List.mem_append_left _ mem, own, fun j hj sn' found => ?_⟩
      obtain old | rfl := split hj
      · exact newest j old sn' found
      · rw [valid] at found
        cases found
  | some sn =>
    cases best with
    | none =>
      refine ⟨by simp, valid, fun j hj sn' found => ?_⟩
      obtain old | rfl := split hj
      · rw [h j old] at found
        cases found
      · rw [valid] at found
        cases found
        exact ⟨le_rfl, fun below => absurd below (lt_irrefl _)⟩
    | some b =>
      obtain ⟨mem, own, newest⟩ := h
      simp only
      split
      next newer =>
        refine ⟨by simp, valid, fun j hj sn' found => ?_⟩
        obtain old | rfl := split hj
        · have less := (newest j old sn' found).1.trans_lt newer
          exact ⟨less.le, fun _ => less⟩
        · rw [valid] at found
          cases found
          exact ⟨le_rfl, fun below => absurd below (lt_irrefl _)⟩
      next older =>
        refine ⟨List.mem_append_left _ mem, own, fun j hj sn' found => ?_⟩
        obtain old | rfl := split hj
        · exact newest j old sn' found
        · rw [valid] at found
          cases found
          exact ⟨Nat.not_lt.mp older, fun below => absurd below (later _ mem).not_gt⟩

theorem IsNewest.foldl {slots : Four SlotContents} {seen rest : List (Fin 4)}
    {best : Option (Fin 4 × Snapshot)} (h : IsNewest slots seen best) (up : (seen ++ rest).Pairwise (· < ·)) :
    IsNewest slots (seen ++ rest) (rest.foldl (newerOf slots) best) := by
  induction rest generalizing seen best with
  | nil => simpa using h
  | cons i rest ih =>
    have later : ∀ j ∈ seen, j < i := fun j hj => (List.pairwise_append.mp up).2.2 j hj i List.mem_cons_self
    rw [List.append_cons] at up ⊢
    exact ih (h.next later) up

/-- The restore scan sees every slot, from slot 0 up (R168). -/
theorem restoreChoice_isNewest (slots : Four SlotContents) :
    IsNewest slots Four.indices (restoreChoice slots) := by
  rw [restoreChoice_eq_foldl]
  exact IsNewest.foldl (seen := []) nofun (by decide)

/-- The selected slot is valid, and no valid slot has a greater generation (R168). -/
theorem restoreChoice_eq_some {slots : Four SlotContents} {i : Fin 4} {sn : Snapshot}
    (chosen : restoreChoice slots = some (i, sn)) :
    (slots.get i).valid = some sn
      ∧ ∀ j sn', (slots.get j).valid = some sn' →
          sn'.generation ≤ sn.generation ∧ (j < i → sn'.generation < sn.generation) := by
  have newest := restoreChoice_isNewest slots
  rw [chosen] at newest
  obtain ⟨-, own, greatest⟩ := newest
  exact ⟨own, fun j => greatest j (Four.mem_indices j)⟩

theorem restoreChoice_eq_none {slots : Four SlotContents} :
    restoreChoice slots = none ↔ ∀ j : Fin 4, (slots.get j).valid = none := by
  constructor
  · intro none j
    have newest := restoreChoice_isNewest slots
    rw [none] at newest
    exact newest j (Four.mem_indices j)
  · intro invalid
    cases chosen : restoreChoice slots with
    | none => rfl
    | some b =>
      have own := (restoreChoice_eq_some chosen).1
      rw [invalid] at own
      cases own

/-- Settles O41: the scan slot by slot, and the record that a valid slot holds. -/
theorem restoreChoosesNewest : Obligations.RestoreChoosesNewest := by
  unfold Obligations.RestoreChoosesNewest
  exact fun slots => ⟨fun _ _ => restoreChoice_eq_some, restoreChoice_eq_none,
    fun _ _ => SlotContents.valid_eq_some⟩

end Sys2Proof.Machine
end

section
/-! PROOF. Every command keeps the generations below the next one (R163), and the restore scan puts the next one
above all that the slots hold (R169). -/

namespace Sys2Proof.Machine

/-! ### The owners of the requests -/

theorem modeTable_keepsGenerations (target : Mode) (force : Bool) (s : State) :
    (modeTable target force s).1.KeepsGenerations s := by
  have changed := s.changeMode_keepsGenerations
  have prepare : (modePrepareFromStandby s).1.KeepsGenerations s := by
    unfold modePrepareFromStandby
    split
    · exact .refl s
    · exact changed .prepare .none
  have run : (modeRunFromPrepare s).1.KeepsGenerations s := by
    unfold modeRunFromPrepare
    repeat' split
    · exact .refl s
    · exact .refl s
    · exact (changed .run .none).ite (State.entryEvent_keepsGenerations _)
  have standby : (modeStandby force s).1.KeepsGenerations s := by
    unfold modeStandby
    repeat' split
    · exact (State.changeMode_keepsGenerations _ _ _).trans (s.flush_keepsGenerations _)
    · exact .refl s
    · exact changed .standby .none
  unfold modeTable
  split
  · exact .refl s
  · exact prepare
  · exact .refl s
  · exact standby
  · exact .refl s
  · exact run
  · exact standby
  · exact changed .prepare .none
  · exact .refl s
  · exact changed .halt .requested
  · exact changed .halt .requested
  · exact changed .halt .requested
  · exact .refl s

theorem modeRequest_keepsGenerations (p : List Byte) (s : State) : (modeRequest p s).1.KeepsGenerations s := by
  unfold modeRequest
  repeat' split
  · exact .refl s
  · exact .refl s
  · exact .refl s
  · exact modeTable_keepsGenerations _ _ s

theorem haltClearRequest_keepsGenerations (p : List Byte) (s : State) :
    (haltClearRequest p s).1.KeepsGenerations s := by
  unfold haltClearRequest
  split
  · exact (State.changeMode_keepsGenerations _ _ _).trans (s.flush_keepsGenerations _)
  · exact .refl s

theorem caseClearRequest_keepsGenerations (p : List Byte) (s : State) :
    (caseClearRequest p s).1.KeepsGenerations s := by
  unfold caseClearRequest
  repeat' split
  · exact .refl s
  · exact s.resolveCase_keepsGenerations _
  · exact s.resolveCase_keepsGenerations _
  · exact .refl s

theorem caseRetryRequest_keepsGenerations (p : List Byte) (s : State) :
    (caseRetryRequest p s).1.KeepsGenerations s := by
  have links : ∀ (c : Case) (s : State), (s.retryLinks c).KeepsGenerations s := fun c s => by
    unfold State.retryLinks
    split
    · exact id
    · exact id
  unfold caseRetryRequest
  repeat' split
  · exact .refl s
  · exact .refl s
  next c _ _ c' _ => exact (links c' _).trans (State.changeCase_keepsGenerations (s.removeMarkers c.id) c c')

/-! The loads, the zones' service, TRACE and RESTART leave the store. -/

theorem zoneLoadRequest_ck (p : List Byte) (s : State) : (zoneLoadRequest p s).1.ck = s.ck := by
  simp only [zoneLoadRequest]
  repeat' split
  all_goals rfl

theorem chanLoadRequest_ck (p : List Byte) (s : State) : (chanLoadRequest p s).1.ck = s.ck := by
  simp only [chanLoadRequest]
  repeat' split
  · rfl
  · rfl
  · rfl
  · rw [State.writeCalibration_eq]
    obtain ⟨-, -, -, -, -, -, ck, -⟩ := State.guardLoaded_frame (s.calibrated _ _ _) _ _
    exact ck

theorem limitsLoadRequest_ck (p : List Byte) (s : State) : (limitsLoadRequest p s).1.ck = s.ck := by
  simp only [limitsLoadRequest]
  split <;> rfl

theorem zoneOnRequest_ck (p : List Byte) (s : State) : (zoneOnRequest p s).1.ck = s.ck := by
  simp only [zoneOnRequest]
  repeat' split
  all_goals rfl

theorem zoneOffRequest_ck (p : List Byte) (s : State) : (zoneOffRequest p s).1.ck = s.ck := by
  simp only [zoneOffRequest]
  repeat' split
  · rfl
  · rfl
  · rfl
  · exact s.takeOff_ck _

theorem traceRequest_ck (p : List Byte) (s : State) : (traceRequest p s).1.ck = s.ck := by
  simp only [traceRequest]
  repeat' split
  all_goals rfl

/-! ### What a command keeps -/

/-- A quiet state with its generations sound is followed by one with them sound (R163). -/
def State.StaysSound (t s : State) : Prop := s.Quiet → s.GenerationsSound → t.GenerationsSound

/-- What keeps the generations and stays in STARTING, where nothing is written. -/
theorem State.KeepsGenerations.staysSound {t s : State} (h : t.KeepsGenerations s)
    (waits : s.Quiet → s.pmc.mode = .starting → t.pmc.mode = .starting) : t.StaysSound s :=
  fun quiet sound started => h (sound fun starting => started (waits quiet starting))

theorem State.KeepsGenerations.staysSound_of_pmc {t s : State} (h : t.KeepsGenerations s) (pmc : t.pmc = s.pmc) :
    t.StaysSound s := h.staysSound fun _ starting => by rw [pmc, starting]

/-- A change of the blocks beside the store and the mode. -/
theorem State.StaysSound.of_same {t s : State} (ck : t.ck = s.ck) (pmc : t.pmc = s.pmc) : t.StaysSound s :=
  (State.KeepsGenerations.of_ck ck).staysSound_of_pmc pmc

theorem State.StaysSound.refl (s : State) : s.StaysSound s := .of_same rfl rfl

/-- An expiry that finds no case to act on in STARTING. -/
theorem State.KeepsGenerations.staysSound_of_no_case {t s : State} (h : t.KeepsGenerations s)
    (same : s.cm.table = [] → t = s) : t.StaysSound s :=
  h.staysSound fun quiet starting => by rw [same (quiet.unused starting).no_case, starting]

theorem staysSound_branch {t u s : State} (b : Prop) [Decidable b] (ht : t.StaysSound s) (hu : u.StaysSound s) :
    (if b then t else u).StaysSound s := by
  split
  · exact ht
  · exact hu

/-- A command that does something, where its test holds, or nothing. -/
theorem staysSound_ite {t s : State} {b : Prop} [Decidable b] (h : b → t.StaysSound s) :
    (if b then t else s).StaysSound s := by
  split
  next holds => exact h holds
  · exact .refl s

theorem takeRequest_keepsGenerations {owner : List Byte → State → Answered}
    (h : ∀ p s, (owner p s).1.KeepsGenerations s) (kind length : Nat) (inStarting : Bool) (s : State) :
    (takeRequest kind length inStarting owner s).KeepsGenerations s := by
  have handled : ∀ p, (s.dropRequest.handle length inStarting owner p).1.KeepsGenerations s := fun p => by
    unfold State.handle
    repeat' split
    · exact id
    · exact id
    · exact h p s.dropRequest
  unfold takeRequest
  split
  · exact .refl s
  · split
    · exact State.KeepsGenerations.commit (handled _)
    · exact .refl s

/-- A request whose answer leaves the state leaves store and mode. -/
theorem takeRequest_staysSound_of_same {owner : List Byte → State → Answered} {length : Nat} {inStarting : Bool}
    {s : State} (same : ∀ p, (s.dropRequest.handle length inStarting owner p).1 = s.dropRequest) (kind : Nat) :
    (takeRequest kind length inStarting owner s).StaysSound s := fun quiet => by
  obtain e | ⟨r, p, e⟩ := takeRequest_of_same same quiet.1 kind
  · rw [e]
    exact State.StaysSound.refl s quiet
  · rw [e]
    exact State.StaysSound.of_same (t := s.dropRequest.answer r p) rfl rfl quiet

/-- A request that is not for STARTING is refused there (R180). -/
theorem takeRequest_staysSound {owner : List Byte → State → Answered}
    (h : ∀ p s, (owner p s).1.KeepsGenerations s) (kind length : Nat) (s : State) :
    (takeRequest kind length false owner s).StaysSound s := by
  by_cases starting : s.pmc.mode = .starting
  · exact takeRequest_staysSound_of_same (fun p => by simp [State.handle, starting, refuse]) kind
  · exact (takeRequest_keepsGenerations h kind length false s).staysSound fun _ now => absurd now starting

/-- A request that reports leaves the state. -/
theorem takeRequest_staysSound_of_report {owner : List Byte → State → Answered} (h : ∀ p s, (owner p s).1 = s)
    (kind length : Nat) (inStarting : Bool) (s : State) :
    (takeRequest kind length inStarting owner s).StaysSound s :=
  takeRequest_staysSound_of_same (fun p => by
    unfold State.handle
    repeat' split
    · rfl
    · rfl
    · exact h p _) kind

/-! ### The end of STARTING, resets and the supply -/

/-- After the scan the next generation is above that of every valid slot (R169). -/
theorem Ck.afterScan_generationsBelow {ck : Ck} (idle : ck.write = .idle) : ck.afterScan.GenerationsBelow := by
  obtain ⟨slots, write⟩ := ck.afterScan_same
  rw [Ck.generationsBelow_iff, slots, write, idle]
  refine ⟨fun i sn valid => ?_, nofun⟩
  unfold Ck.afterScan
  split
  next none =>
    rw [restoreChoice_eq_none.mp none i] at valid
    cases valid
  next newest chosen => exact Nat.lt_succ_of_le ((restoreChoice_eq_some chosen).2 i sn valid).1

theorem State.startingEnd_keepsGenerations (s : State) : s.startingEnd.KeepsGenerations s.restore := by
  unfold State.startingEnd
  extract_lets q
  have announced : s.restore.announceRestore.KeepsGenerations s.restore := .of_ck s.restore.announceRestore_ck
  have entered : q.KeepsGenerations s.restore :=
    (State.changeMode_keepsGenerations _ .standby .none).trans
      ((State.drainRacks_keepsGenerations _).trans announced)
  exact (entered.ite (.of_ck q.announceCheckpoint_ck)).commit

theorem State.startingEnd_staysSound {s : State} (starting : s.pmc.mode = .starting) :
    s.startingEnd.StaysSound s := fun quiet _ _ => by
  obtain ⟨-, -, idle, -⟩ := quiet.unused starting
  exact s.startingEnd_keepsGenerations (Ck.afterScan_generationsBelow idle)

/-- A reset leads into STARTING (R171). -/
theorem State.endReset_staysSound (cause : ResetCause) (strap : Baud) (s : State) :
    (s.endReset cause strap).StaysSound s := fun _ _ started => absurd rfl started

theorem State.goDown_staysSound (p : Power) (s : State) : (s.goDown p).StaysSound s :=
  State.KeepsGenerations.staysSound_of_pmc (t := s.goDown p) (fun h => h.cut) rfl

theorem State.pulse_staysSound (trackerFirst : Bool) (s : State) : (s.pulse trackerFirst).StaysSound s :=
  (s.pulse_keepsGenerations trackerFirst).staysSound fun _ starting =>
    (s.pulse_travelled trackerFirst).mode.trans starting

theorem State.tick_staysSound (s : State) : s.tick.StaysSound s := by
  refine .of_same ?_ s.tick_pmc
  unfold State.tick
  split <;> rfl

/-! ### Commands -/

theorem exec_staysSound : ∀ (c : Instr) {s t : State}, exec c s = .next t → t.StaysSound s
  | .powerReset _, s, _, rfl => staysSound_branch _ (s.goDown_staysSound _) (s.endReset_staysSound _ _)
  | .pinReset _, s, _, rfl => staysSound_branch _ (s.goDown_staysSound _) (s.endReset_staysSound _ _)
  | .performRestart _, s, _, rfl => staysSound_ite fun _ => s.endReset_staysSound _ _
  | .startingEnd, s, _, rfl => staysSound_ite fun h =>
    State.startingEnd_staysSound (of_decide_eq_true (Bool.and_eq_true_iff.mp h).2)
  | .linkReset, s, _, rfl => staysSound_ite fun _ => .of_same rfl rfl
  | .rxByte _ _, s, _, rfl => staysSound_ite fun _ => .of_same rfl rfl
  | .frameGapTimeout, s, _, rfl => staysSound_ite fun _ => .of_same rfl rfl
  | .unknownKind, s, _, rfl => by
    repeat' split
    · exact .refl s
    · exact .refl s
    · exact .of_same rfl rfl
  | .ident, _, _, rfl => takeRequest_staysSound_of_report (fun _ _ => rfl) _ _ _ _
  | .status, _, _, rfl => takeRequest_staysSound_of_report (fun _ _ => rfl) _ _ _ _
  | .mode, _, _, rfl => takeRequest_staysSound modeRequest_keepsGenerations _ _ _
  | .zoneLoad, _, _, rfl => takeRequest_staysSound (fun p s => .of_ck (zoneLoadRequest_ck p s)) _ _ _
  | .chanLoad, _, _, rfl => takeRequest_staysSound (fun p s => .of_ck (chanLoadRequest_ck p s)) _ _ _
  | .limitsLoad, _, _, rfl => takeRequest_staysSound (fun p s => .of_ck (limitsLoadRequest_ck p s)) _ _ _
  | .zoneOn, _, _, rfl => takeRequest_staysSound (fun p s => .of_ck (zoneOnRequest_ck p s)) _ _ _
  | .zoneOff, _, _, rfl => takeRequest_staysSound (fun p s => .of_ck (zoneOffRequest_ck p s)) _ _ _
  | .zoneRead, _, _, rfl => takeRequest_staysSound_of_report zoneReadRequest_state _ _ _ _
  | .linesRead, _, _, rfl => takeRequest_staysSound_of_report linesReadRequest_state _ _ _ _
  | .racksRead, _, _, rfl => takeRequest_staysSound_of_report racksReadRequest_state _ _ _ _
  | .caseRead, _, _, rfl => takeRequest_staysSound_of_report caseReadRequest_state _ _ _ _
  | .caseClear, _, _, rfl => takeRequest_staysSound caseClearRequest_keepsGenerations _ _ _
  | .caseRetry, _, _, rfl => takeRequest_staysSound caseRetryRequest_keepsGenerations _ _ _
  | .haltClear, _, _, rfl => takeRequest_staysSound haltClearRequest_keepsGenerations _ _ _
  | .trace, _, _, rfl => takeRequest_staysSound (fun p s => .of_ck (traceRequest_ck p s)) _ _ _
  | .restart, _, _, rfl => takeRequest_staysSound (fun _ _ => .of_ck rfl) _ _ _
  | .requestInputChange line on, s, t, h => by
    simp only [exec, execRequestInputChange] at h
    split at h
    · cases h
    · cases h
      exact staysSound_branch _ (.of_same rfl rfl) (.of_same rfl rfl)
  | .holdChange _, s, _, rfl => .of_same rfl rfl
  | .transmitStart, s, _, rfl => staysSound_ite fun _ => .of_same rfl rfl
  | .replySent, s, _, rfl => staysSound_ite fun _ => .of_same rfl rfl
  | .eventNoticeSent, s, _, rfl => staysSound_ite fun _ =>
    State.KeepsGenerations.staysSound_of_pmc (.commit (.trans (State.fillFreed_keepsGenerations _) (.of_ck rfl)))
      (by simp)
  | .outcomeNoticeSent, s, _, rfl => staysSound_ite fun _ =>
    State.KeepsGenerations.staysSound_of_pmc (.commit (.trans (State.drainRacks_keepsGenerations _) (.of_ck rfl)))
      (by simp)
  | .traceNoticeSent, s, _, rfl => staysSound_ite fun _ => .of_same rfl rfl
  | .sampleRound input, s, t, h => by
    simp only [exec, execSampleRound] at h
    split at h
    · cases h
    · cases h
      exact staysSound_ite fun taken => (s.sampleRound_keepsGenerations input).staysSound fun _ starting => by
        simp [starting] at taken
  | .encoderPulse _ _, s, _, rfl => staysSound_ite fun _ => s.pulse_staysSound _
  | .eraseComplete, s, _, rfl => staysSound_ite fun _ =>
    State.KeepsGenerations.staysSound_of_pmc (fun h => h.eraseComplete) rfl
  | .programComplete damage, s, _, rfl => staysSound_ite fun _ =>
    State.KeepsGenerations.staysSound_of_pmc (fun h => h.programComplete damage) rfl
  | .verifyComplete, s, _, rfl => staysSound_ite fun _ =>
    s.verifyComplete_keepsGenerations.staysSound_of_pmc s.verifyComplete_pmc
  | .dwellExpiry, s, _, rfl => staysSound_ite fun _ =>
    s.dwellExpiry_keepsGenerations.staysSound_of_pmc s.dwellExpiry_pmc
  | .leakWindowExpiry _, s, _, rfl => staysSound_ite fun _ => .of_same rfl rfl
  | .encoderSilenceExpiry, s, _, rfl => staysSound_ite fun taken =>
    s.silenceExpiry_keepsGenerations.staysSound fun _ starting => by
      simp [State.detecting, starting] at taken
  | .localiseExpiry, s, _, rfl => staysSound_ite fun _ =>
    (s.caseExpiry_keepsGenerations _ _).staysSound_of_no_case State.localiseExpiry_of_no_case
  | .drainTimeoutExpiry, s, _, rfl => staysSound_ite fun _ =>
    (s.caseExpiry_keepsGenerations _ _).staysSound_of_no_case State.drainExpiry_of_no_case
  | .leakVerifyExpiry, s, _, rfl => staysSound_ite fun _ =>
    s.leakVerifyExpiry_keepsGenerations.staysSound_of_no_case State.leakVerifyExpiry_of_no_case
  | .leakWatchExpiry, s, _, rfl => staysSound_ite fun _ => .of_same rfl rfl
  | .purgeExpiry zone, s, _, rfl => staysSound_ite fun _ =>
    (s.caseExpiry_keepsGenerations _ _).staysSound_of_no_case fun h => State.purgeExpiry_of_no_case h zone
  | .refillExpiry zone, s, _, rfl => staysSound_ite fun _ =>
    (s.caseExpiry_keepsGenerations _ _).staysSound_of_no_case fun h => State.refillExpiry_of_no_case h zone
  | .powerLost, s, _, rfl => s.goDown_staysSound _
  | .resetPinAsserted, s, _, rfl => s.goDown_staysSound _
  | .breakEnd, s, _, rfl => staysSound_ite fun _ => .of_same rfl rfl

/-- Settles O40: what each command does to the store and to STARTING; what leaves STARTING is the restore, which
puts the next generation above every valid slot. -/
theorem generationsStaySound : Obligations.GenerationsStaySound := by
  unfold Obligations.GenerationsStaySound
  intro s t quiet _ sound h
  unfold step at h
  split at h
  · cases h
    exact s.tick_staysSound quiet sound
  · exact exec_staysSound _ h quiet sound

end Sys2Proof.Machine
end

section
/-! PROOF. The stages of a checkpoint write (R160, R163 to R165), from the erase to the read-back. -/

namespace Sys2Proof.Machine

/-! ### Erase and programming -/

section
variable {ck : Ck} {snap : Snapshot} {target : Fin 4}

theorem Ck.eraseComplete_of_erasing (h : ck.write = .busy .erasing snap target) :
    ck.eraseComplete
      = { ck with write := .busy .programming snap target, slots := ck.slots.set target .blank } := by
  simp only [Ck.eraseComplete, h]

theorem Ck.eraseComplete_of_other (h : ∀ snap target, ck.write ≠ .busy .erasing snap target) :
    ck.eraseComplete = ck := by
  unfold Ck.eraseComplete
  split
  next erasing => exact absurd erasing (h _ _)
  · rfl

theorem Ck.programComplete_of_programming (h : ck.write = .busy .programming snap target) (damage : BitVec 16) :
    ck.programComplete damage
      = { ck with write := .busy .verifying snap target,
                  slots := ck.slots.set target (.record snap (snap.checkValue ^^^ damage)) } := by
  simp only [Ck.programComplete, h]

theorem Ck.programComplete_of_other (h : ∀ snap target, ck.write ≠ .busy .programming snap target)
    (damage : BitVec 16) : ck.programComplete damage = ck := by
  unfold Ck.programComplete
  split
  next programming => exact absurd programming (h _ _)
  · rfl

end

/-- A record reads back valid exactly where the cells took every bit of it (R159, R164). -/
theorem Snapshot.valid_damaged {snap : Snapshot} (first : 1 ≤ snap.generation)
    (last : snap.generation ≤ lastGeneration) (damage : BitVec 16) :
    (SlotContents.record snap (snap.checkValue ^^^ damage)).valid = if damage = 0 then some snap else none := by
  split
  next whole =>
    rw [show snap.checkValue ^^^ damage = snap.checkValue by simp [whole]]
    exact SlotContents.valid_eq_some.mpr ⟨rfl, first, last⟩
  next damaged =>
    refine SlotContents.valid_record_of_ne fun same => damaged ?_
    exact (BitVec.xor_right_inj snap.checkValue).mp (by simpa using same)

theorem exec_eraseComplete {s : State} (live : s.live = true) :
    exec .eraseComplete s = .next (s.setCk s.ck.eraseComplete) := by
  simp [exec, execEraseComplete, live]

theorem exec_programComplete {s : State} (live : s.live = true) (damage : BitVec 16) :
    exec (.programComplete damage) s = .next (s.setCk (s.ck.programComplete damage)) := by
  simp [exec, execProgramComplete, live]

/-- Settles O38: the two stages, and when the record they leave reads back valid. -/
theorem writeStagesFollow : Obligations.WriteStagesFollow := by
  unfold Obligations.WriteStagesFollow
  intro s live
  refine ⟨fun snap target erasing => ?_, fun other => ?_, fun damage snap target programming => ?_,
    fun damage other => ?_⟩
  · rw [exec_eraseComplete live, Ck.eraseComplete_of_erasing erasing]
    rfl
  · rw [exec_eraseComplete live, Ck.eraseComplete_of_other other]
    rfl
  · refine ⟨.record snap (snap.checkValue ^^^ damage), ?_, rfl, fun first last => ?_⟩
    · rw [exec_programComplete live, Ck.programComplete_of_programming programming]
      rfl
    · rw [Snapshot.valid_damaged first last]
      by_cases whole : damage = 0 <;> simp [whole]
  · rw [exec_programComplete live, Ck.programComplete_of_other other]
    rfl

/-! ### The target -/

/-- The slot right after another, where it is GOOD (R163). -/
theorem nextGood_succ {bad : ZoneSet} {target : Fin 4} (good : bad.get (target + 1) = false) :
    NextGood (some target) bad (target + 1) :=
  nextGood_iff.mpr ⟨good, 0, by decide, by fin_cases target <;> rfl, nofun⟩

/-- No target where every slot is BAD (R165). -/
theorem targetAfter_eq_none {bad : ZoneSet} (all : ∀ i : Fin 4, bad.get i = true) (after : Option (Fin 4)) :
    targetAfter after bad = none :=
  List.find?_eq_none.mpr fun i _ => by simp [all i]

theorem Four.eq_fill {α : Type} {v : Four α} {a : α} (h : ∀ i : Fin 4, v.get i = a) : v = Four.fill a :=
  calc v = Four.ofFn fun i => v.get i := (Machine.Four.ofFn_get v).symm
    _ = Four.ofFn fun _ => a := congrArg Four.ofFn (funext h)
    _ = Four.fill a := rfl

/-! ### A write that starts -/

theorem State.startWrite_of_target {s : State} {target : Fin 4}
    (good : targetAfter s.ck.current s.ck.bad = some target) :
    s.startWrite
      = s.setCk (Ck.startErase { s.ck with nextGeneration := s.ck.nextGeneration + 1 }
          (s.snapshot s.ck.nextGeneration) target) := by
  simp only [State.startWrite, good]

/-- What of the store the start of a write leaves (R163). -/
theorem State.startWrite_frame (s : State) :
    s.startWrite.ck.current = s.ck.current ∧ s.startWrite.ck.lastWritten = s.ck.lastWritten
      ∧ s.startWrite.ck.pending = s.ck.pending ∧ s.startWrite.ck.bad = s.ck.bad
      ∧ s.startWrite.ck.state = s.ck.state := by
  unfold State.startWrite
  split
  · exact ⟨rfl, rfl, rfl, rfl, rfl⟩
  · exact ⟨rfl, rfl, rfl, rfl, rfl⟩

theorem State.announceCheckpoint_of_room {s : State} (room : s.lk.events.length < queuePlaces) :
    s.announceCheckpoint.lk = { s.lk.pushEvent s.checkpointNotice with checkpointFlag := false } := by
  simp [State.announceCheckpoint, Lk.eventRoom, room]

theorem State.announceCheckpoint_of_full {s : State} (full : queuePlaces ≤ s.lk.events.length) :
    s.announceCheckpoint.lk = { s.lk with checkpointFlag := true } := by
  simp [State.announceCheckpoint, Lk.eventRoom, Nat.not_lt.mpr full]

/-! ### The read-back -/

/-- The store when a write has been verified (R164). -/
def Ck.verified (ck : Ck) (snap : Snapshot) (target : Fin 4) : Ck :=
  { ck with write := .idle, current := some target, lastWritten := some snap.generation, pending := false }

/-- The store when the read-back of a slot has failed (R165). -/
def State.markedBad (s : State) (snap : Snapshot) (target : Fin 4) : State :=
  { s.setCk { s.ck with
      bad := s.ck.bad.set target true
      slots := s.ck.slots.set target (.record snap (Config.failedSlotCheck s.freeIndex)) } with
    freeIndex := s.freeIndex + 1 }

section
variable {s : State} {snap : Snapshot} {target : Fin 4}

theorem State.writeVerified_of_last (last : snap.generation = lastGeneration) :
    s.writeVerified snap target
      = (s.setCk { s.ck.verified snap target with state := .exhausted }).announceCheckpoint := by
  simp only [State.writeVerified, last, if_true]
  rw [← last]
  rfl

theorem State.writeVerified_of_pending (more : snap.generation ≠ lastGeneration) (pending : s.ck.pending = true) :
    s.writeVerified snap target = (s.setCk (s.ck.verified snap target)).startWrite := by
  simp only [State.writeVerified, more, pending, if_false, if_true]
  rfl

theorem State.writeVerified_of_settled (more : snap.generation ≠ lastGeneration) (settled : s.ck.pending = false) :
    s.writeVerified snap target = s.setCk (s.ck.verified snap target) := by
  simp only [State.writeVerified, more, settled, if_false]
  rfl

theorem State.writeFailed_of_target {next : Fin 4}
    (good : targetAfter (some target) (s.ck.bad.set target true) = some next) :
    s.writeFailed snap target
      = (s.markedBad snap target).setCk ((s.markedBad snap target).ck.startErase snap next) := by
  simp only [State.writeFailed, good]
  rfl

theorem State.writeFailed_of_none (none : targetAfter (some target) (s.ck.bad.set target true) = none) :
    s.writeFailed snap target
      = ((s.markedBad snap target).setCk
          { (s.markedBad snap target).ck with
            write := .idle, pending := false, state := .failed }).announceCheckpoint := by
  simp only [State.writeFailed, none]
  rfl

theorem verifiedBy_iff {contents : SlotContents} :
    verifiedBy snap contents = true ↔ ∃ sn, contents.valid = some sn ∧ sn.generation = snap.generation := by
  unfold verifiedBy
  split
  next valid => simp [valid]
  next invalid => simp [invalid]

theorem exec_verifyComplete_of_verified (live : s.live = true) (writing : s.ck.write = .busy .verifying snap target)
    (verified : ∃ sn, (s.ck.slots.get target).valid = some sn ∧ sn.generation = snap.generation) :
    exec .verifyComplete s = .next (s.writeVerified snap target) := by
  simp [exec, execVerifyComplete, live, State.verifyComplete, writing, verifiedBy_iff.mpr verified]

theorem exec_verifyComplete_of_failed (live : s.live = true) (writing : s.ck.write = .busy .verifying snap target)
    (failed : ∀ sn, (s.ck.slots.get target).valid = some sn → sn.generation ≠ snap.generation) :
    exec .verifyComplete s = .next (s.writeFailed snap target) := by
  have unverified : ¬verifiedBy snap (s.ck.slots.get target) = true := by
    simpa [verifiedBy_iff] using failed
  simp [exec, execVerifyComplete, live, State.verifyComplete, writing, unverified]

end

/-! ### What of the part a read-back leaves -/

theorem State.writeVerified_frame (s : State) (snap : Snapshot) (target : Fin 4) :
    (s.writeVerified snap target).SameWasher s ∧ (s.writeVerified snap target).SameOutside s := by
  simp only [State.writeVerified, State.SameWasher, State.SameOutside]
  repeat' split
  · simp
  · simp
  · simp

theorem State.writeFailed_frame (s : State) (snap : Snapshot) (target : Fin 4) :
    (s.writeFailed snap target).SameWasher s ∧ (s.writeFailed snap target).pending = s.pending := by
  simp only [State.writeFailed, State.SameWasher]
  split
  · simp
  · simp

/-- The current slot and the last written generation follow a verified write, whatever comes after (R164). -/
theorem State.writeVerified_ck (s : State) (snap : Snapshot) (target : Fin 4) :
    (s.writeVerified snap target).ck.current = some target
      ∧ (s.writeVerified snap target).ck.lastWritten = some snap.generation
      ∧ (s.writeVerified snap target).ck.pending = false ∧ (s.writeVerified snap target).ck.bad = s.ck.bad := by
  simp only [State.writeVerified]
  repeat' split
  · rw [State.announceCheckpoint_ck]
    exact ⟨rfl, rfl, rfl, rfl⟩
  · obtain ⟨current, lastWritten, pending, bad, -⟩ := State.startWrite_frame
      (s.setCk { s.ck with
        write := .idle, current := some target, lastWritten := some snap.generation, pending := false })
    exact ⟨current, lastWritten, pending, bad⟩
  · exact ⟨rfl, rfl, rfl, rfl⟩

theorem State.writeFailed_ck (s : State) (snap : Snapshot) (target : Fin 4) :
    (s.writeFailed snap target).ck.bad = s.ck.bad.set target true
      ∧ (s.writeFailed snap target).ck.current = s.ck.current
      ∧ (s.writeFailed snap target).ck.lastWritten = s.ck.lastWritten
      ∧ (s.writeFailed snap target).ck.nextGeneration = s.ck.nextGeneration := by
  simp only [State.writeFailed]
  split
  · exact ⟨rfl, rfl, rfl, rfl⟩
  · rw [State.announceCheckpoint_ck]
    exact ⟨rfl, rfl, rfl, rfl⟩

/-- A write that goes on with a pending one takes the next generation and a snapshot of the moment (R163). -/
theorem State.writeVerified_starts {s : State} {snap : Snapshot} {target next : Fin 4}
    (more : snap.generation ≠ lastGeneration) (pending : s.ck.pending = true)
    (good : NextGood (some target) s.ck.bad next) :
    (s.writeVerified snap target).ck.write = .busy .erasing (s.snapshot s.ck.nextGeneration) next
      ∧ (s.writeVerified snap target).ck.nextGeneration = s.ck.nextGeneration + 1
      ∧ ∀ i, i ≠ next → (s.writeVerified snap target).ck.slots.get i = s.ck.slots.get i := by
  have starts := State.startWrite_of_target (s := s.setCk (s.ck.verified snap target)) (targetAfter_of_nextGood good)
  rw [State.writeVerified_of_pending more pending, starts]
  exact ⟨rfl, rfl, fun i other => Four.get_set_other _ _ other⟩

/-- A write that has failed goes on with the same snapshot in the next GOOD slot (R165). -/
theorem State.writeFailed_goesOn {s : State} {snap : Snapshot} {target next : Fin 4}
    (good : NextGood (some target) (s.ck.bad.set target true) next) :
    (s.writeFailed snap target).ck.write = .busy .erasing snap next
      ∧ (s.writeFailed snap target).ck.pending = s.ck.pending
      ∧ (s.writeFailed snap target).ck.state = s.ck.state ∧ (s.writeFailed snap target).lk = s.lk
      ∧ ∀ i, i ≠ next → i ≠ target →
          (s.writeFailed snap target).ck.slots.get i = s.ck.slots.get i := by
  rw [State.writeFailed_of_target (targetAfter_of_nextGood good)]
  refine ⟨rfl, rfl, rfl, rfl, fun i notNext notTarget => ?_⟩
  exact (Four.get_set_other _ _ notNext).trans (Four.get_set_other _ _ notTarget)

/-- A write verified with the last generation is the last one, and the store says so (R164, R167). -/
theorem State.writeVerified_exhausts {s : State} {snap : Snapshot} {target : Fin 4}
    (last : snap.generation = lastGeneration) :
    (s.writeVerified snap target).ck.write = .idle ∧ (s.writeVerified snap target).ck.state = .exhausted
      ∧ (s.writeVerified snap target).ck.slots = s.ck.slots
      ∧ (s.lk.events.length < queuePlaces →
          (s.writeVerified snap target).lk.events
            = s.lk.events ++ [.checkpoint .exhausted (some snap.generation) s.ck.bad])
      ∧ (queuePlaces ≤ s.lk.events.length →
          (s.writeVerified snap target).lk.checkpointFlag = true
            ∧ (s.writeVerified snap target).lk.events = s.lk.events) := by
  rw [State.writeVerified_of_last last, State.announceCheckpoint_ck]
  refine ⟨rfl, rfl, rfl, fun room => ?_, fun full => ?_⟩
  · rw [State.announceCheckpoint_of_room]
    · rfl
    · exact room
  · rw [State.announceCheckpoint_of_full]
    · exact ⟨rfl, rfl⟩
    · exact full

/-- Short of the last generation a verified write announces nothing (R164). -/
theorem State.writeVerified_quiet {s : State} {snap : Snapshot} (target : Fin 4)
    (more : snap.generation ≠ lastGeneration) :
    (s.writeVerified snap target).lk = s.lk ∧ (s.writeVerified snap target).ck.state = s.ck.state := by
  cases wanted : s.ck.pending with
  | true =>
    obtain ⟨-, -, -, -, state⟩ := (s.setCk (s.ck.verified snap target)).startWrite_frame
    rw [State.writeVerified_of_pending more wanted, State.startWrite_lk]
    exact ⟨rfl, state⟩
  | false =>
    rw [State.writeVerified_of_settled more wanted]
    exact ⟨rfl, rfl⟩

/-- A write that has failed in the last GOOD slot is the end of checkpoints (R165, R167). -/
theorem State.writeFailed_ends {s : State} {target : Fin 4} (snap : Snapshot)
    (others : ∀ i : Fin 4, i ≠ target → s.ck.bad.get i = true) :
    (s.writeFailed snap target).ck.write = .idle ∧ (s.writeFailed snap target).ck.pending = false
      ∧ (s.writeFailed snap target).ck.state = .failed
      ∧ (s.lk.events.length < queuePlaces →
          (s.writeFailed snap target).lk.events
            = s.lk.events ++ [.checkpoint .failed s.ck.lastWritten (Four.fill true)]) := by
  have all : ∀ i, (s.ck.bad.set target true).get i = true := fun i => by
    rw [Four.get_set]
    split
    · rfl
    next other => exact others i other
  rw [State.writeFailed_of_none (targetAfter_eq_none all _), State.announceCheckpoint_ck]
  refine ⟨rfl, rfl, rfl, fun room => ?_⟩
  rw [State.announceCheckpoint_of_room, ← Four.eq_fill all]
  · rfl
  · exact room

/-! ### What a snapshot holds -/

/-- The items of a snapshot (R160), each from the record it stands for. -/
theorem State.snapshot_items (s : State) (n : Nat) :
    s.snapshot n =
      { generation := n, nextTag := s.rt.nextTag, nextCaseId := s.cm.nextId, mode := s.pmc.mode
        onlineMask := Four.ofFn fun z => (s.pmc.zones.get z).slot.isOnline
        racks := s.rt.queue.map fun r => r.entry s.smp.travel
        cases := s.cm.table.map fun c =>
          { id := c.id, kind := c.proc.kind, zone := c.proc.zone, state := c.state } } := rfl

/-- Settles O39: the items of a snapshot, and the ways a read-back goes. -/
theorem verifyCompletes : Obligations.VerifyCompletes := by
  unfold Obligations.VerifyCompletes
  refine ⟨fun s n => s.snapshot_items n, fun r travel => ⟨fun p exited => ?_, fun stamp inside entered => ?_⟩,
    fun s snap target live writing => ⟨fun verified => ?_, fun failed => ?_⟩⟩
  · simp [Rack.position, exited]
  · simp [Rack.position, inside, entered, travelled]
  · obtain ⟨washer, outside⟩ := s.writeVerified_frame snap target
    obtain ⟨current, lastWritten, pending, bad⟩ := s.writeVerified_ck snap target
    refine ⟨_, exec_verifyComplete_of_verified live writing verified, washer, outside, current, lastWritten,
      pending, bad, State.writeVerified_exhausts, State.writeVerified_quiet target, fun more settled => ?_,
      fun more wanted good => State.writeVerified_starts more wanted (nextGood_succ good),
      fun next => State.writeVerified_starts⟩
    rw [State.writeVerified_of_settled more settled]
    exact ⟨rfl, rfl, rfl⟩
  · obtain ⟨washer, outside⟩ := s.writeFailed_frame snap target
    obtain ⟨bad, current, lastWritten, next⟩ := s.writeFailed_ck snap target
    refine ⟨_, exec_verifyComplete_of_failed live writing failed, washer, outside, bad, current, lastWritten, next,
      fun good => ?_, fun next => State.writeFailed_goesOn, State.writeFailed_ends snap⟩
    have later : target + 1 ≠ target := by fin_cases target <;> decide
    have marked : (s.ck.bad.set target true).get (target + 1) = false :=
      (Four.get_set_other _ _ later).trans good
    obtain ⟨write, pending, state, lk, -⟩ :=
      State.writeFailed_goesOn (s := s) (snap := snap) (nextGood_succ marked)
    exact ⟨write, pending, state, lk⟩

end Sys2Proof.Machine
end

section
/-! PROOF. The three resets (R171, R172, R199): what they leave of a write that they cut (R166), and the lines they
leave (R43, R60). -/

namespace Sys2Proof.Machine

/-! ### A write that is cut -/

/-- A write cut before it was VERIFYING leaves its slot invalid; one cut while it was VERIFYING leaves it as
programmed (R166). -/
theorem Ck.cut_target {ck : Ck} {stage : WriteStage} {snap : Snapshot} {i : Fin 4}
    (writing : ck.write = .busy stage snap i) :
    (stage = .verifying → ck.cut.slots.get i = ck.slots.get i)
      ∧ (stage ≠ .verifying → (ck.cut.slots.get i).valid = none) := by
  cases stage with
  | verifying => simp [Ck.cut, writing]
  | erasing => simp [Ck.cut, writing, SlotContents.valid]
  | programming => simp [Ck.cut, writing, SlotContents.valid]

/-- No slot changes but the target of the write that is cut (R166). -/
theorem Ck.cut_other {ck : Ck} {i : Fin 4} (other : ∀ stage snap, ck.write ≠ .busy stage snap i) :
    ck.cut.slots.get i = ck.slots.get i := by
  unfold Ck.cut
  split
  · rfl
  · rfl
  next snap target _ writing =>
    refine Four.get_set_other _ _ fun own => ?_
    rw [← own] at writing
    exact other _ _ writing

/-! ### The lines -/

/-- Each line stands as R60 has it, with the level at its request input taken (R43, R171). -/
theorem State.endReset_line (cause : ResetCause) (strap : Baud) (s : State) (id : LineId) :
    (s.endReset cause strap).lg.get id = (s.lg.get id).resetWith (State.reset.lg.get id) :=
  Lines.get_build ..

theorem State.endReset_claimOf (cause : ResetCause) (strap : Baud) (s : State) (o : Owner) (id : LineId) :
    (s.endReset cause strap).lg.claimOf o id = (State.reset.ownerWants o).on id := by
  rw [← reset_claimsStand.claimOf, Lines.claimOf, State.endReset_line]
  rfl

theorem State.endReset_lines (cause : ResetCause) (strap : Baud) (s : State) (id : LineId) :
    let t := s.endReset cause strap
    t.lg.drive id = false ∧ (t.lg.get id).input = (s.lg.get id).input
      ∧ (t.lg.get id).request = (s.lg.get id).input ∧ t.lg.claimOf .mode id = some .block
      ∧ ∀ n, t.lg.claimOf (.ofCase n) id = none := by
  intro t
  have line := s.endReset_line cause strap id
  obtain ⟨off, -⟩ := reset_blocked id
  refine ⟨(congrArg Line.drive line).trans off, (congrArg Line.input line).trans rfl,
    (congrArg Line.request line).trans rfl, ?_, fun n => ?_⟩
  · rw [State.endReset_claimOf, reset_ownerWants_on, if_pos (by cases id <;> simp [resetOwners])]
  · rw [State.endReset_claimOf, reset_ownerWants_on, if_neg (by cases id <;> simp [resetOwners])]

/-! ### The resets -/

/-- When a reset ends, and with which cause (R171, R172, R199). -/
theorem exec_endReset {s : State} {strap : Baud} {c : Instr} {cause : ResetCause}
    (ends : (c = .powerReset strap ∧ s.power.resetLow = false ∧ cause = .power)
      ∨ (c = .pinReset strap ∧ s.power.supplyGood = true
          ∧ cause = (if s.power.supplyLost then .power else .pin))
      ∨ (c = .performRestart strap ∧ s.powered = true ∧ s.lk.restart = .due ∧ cause = .restart)) :
    exec c s = .next (s.endReset cause strap) := by
  obtain ⟨rfl, high, rfl⟩ | ⟨rfl, good, rfl⟩ | ⟨rfl, powered, due, rfl⟩ := ends
  · simp [exec, execPowerReset, high]
  · simp [exec, execPinReset, good, pinCause]
  · simp [exec, execPerformRestart, powered, due]

/-- Settles O43: each reset ends as `endReset`, whose values are those of the reset state but for lines and
slots. -/
theorem resetsLeaveTheResetState : Obligations.ResetsLeaveTheResetState := by
  unfold Obligations.ResetsLeaveTheResetState
  intro s strap c cause ends
  have channel : ∀ (z : Zone) (q : Quantity), (State.reset.smp.channels.get z).get q
      = { calibration := none, reading := .unknown, runCount := 0 } := fun z q => by
    simp only [State.reset, Four.get_fill]
    cases q <;> rfl
  refine ⟨_, exec_endReset ends, rfl, rfl, rfl, rfl, rfl, rfl, rfl, fun z => Four.get_fill _ z, channel,
    rfl, rfl, rfl, rfl, rfl, rfl, s.endReset_lines cause strap, rfl, rfl, rfl, fun z => Four.get_fill _ z,
    rfl, rfl, rfl, rfl, rfl, rfl, rfl, rfl, fun stage snap i => Ck.cut_target, fun i => Four.get_fill _ i,
    fun i => Ck.cut_other, rfl, rfl, rfl, rfl, rfl, rfl, rfl, rfl, rfl, rfl, rfl, rfl, rfl, rfl, rfl, rfl, rfl, rfl,
    rfl, rfl⟩

end Sys2Proof.Machine
end

section
/-! PROOF. The end of STARTING (R168 to R170, R76, R133): the restore, the drain of the carried records, the mode
change and the one write that the event starts. -/

namespace Sys2Proof.Machine

/-! ### Carried records -/

/-- The outcome of a carried record (R76): HOLD exactly with HOLD or TRACK_LOST, contact and dose not judged. -/
def RackEntry.outcome (e : RackEntry) : Outcome :=
  { disposition := if e.hold ≠ none ∨ e.trackLost = true then .hold else .rewash
    reasons :=
      { contactShort := false, doseShort := false, dwellExpired := e.dwellExpired
        caseHold := e.hold = some .byCase, trackLost := e.trackLost, carried := true
        standbyFlush := e.flush = some .standbyFlush
        haltFlush := e.flush = some .haltFlush }
    shortZones := Four.fill false }

theorem RackEntry.carry_eq (e : RackEntry) :
    e.carry =
      { tag := e.tag, entryStamp := none, exitPosition := some e.position, mask := e.mask
        contact := e.contact, dose := e.dose, hold := e.hold, dwellExpired := e.dwellExpired
        trackLost := e.trackLost, exited := true, carried := true, flush := e.flush, links := []
        linksMore := false, outcome := some e.outcome } := by
  have disposition : (if (e.hold.isSome || e.trackLost) = true then Disposition.hold else .rewash)
      = if e.hold ≠ none ∨ e.trackLost = true then .hold else .rewash := by
    simp only [Bool.or_eq_true, Option.isSome_iff_ne_none]
  simp only [RackEntry.carry, Rack.judgeCarried, RackEntry.outcome, disposition]
  rfl

/-- A carried record leaves with the notice of its entry (R72, R76). -/
theorem RackEntry.carry_notice (e : RackEntry) :
    e.carry.outcome.map e.carry.notice
      = e.carry.outcome.map fun o =>
          { tag := e.carry.tag, outcome := o, mask := e.carry.mask, contact := e.carry.contact
            dose := e.carry.dose, exitPosition := e.carry.exitPosition.getD 0, links := [], linksMore := false } := by
  rw [RackEntry.carry_eq]
  rfl

/-- A snapshot takes back what a record has carried over (R160, R76). -/
theorem RackEntry.entry_carry (e : RackEntry) (travel : Word32) : e.carry.entry travel = e := rfl

theorem RackEntry.carry_ready (e : RackEntry) : e.carry.Ready := ⟨rfl, rfl⟩

/-- The drain step of the restore takes the first 16 of the carried records (R73, R170). -/
theorem drainScan_carried (room : Nat) (entries : List RackEntry) :
    drainScan room (entries.map RackEntry.carry)
      = ((entries.map RackEntry.carry).drop room,
          ((entries.map RackEntry.carry).take room).filterMap fun r => r.outcome.map r.notice) := by
  have ready : ∀ r ∈ entries.map RackEntry.carry, r.Ready := fun r mem => by
    obtain ⟨e, -, rfl⟩ := List.mem_map.mp mem
    exact e.carry_ready
  have drained := drainScan_ready room ready (staying := []) (by simp)
  rwa [List.append_nil, List.append_nil] at drained

/-- The entries of the snapshot that the restore scan has selected. -/
def carriedEntries (choice : Option (Fin 4 × Snapshot)) : List RackEntry := (choice.map fun b => b.2.racks).getD []

theorem Rt.afterScan_queue (choice : Option (Fin 4 × Snapshot)) :
    (Rt.afterScan choice).queue = (carriedEntries choice).map RackEntry.carry := by
  cases choice <;> rfl

/-! ### The event before its trigger is taken -/

/-- The restore announced, its racks drained, and STANDBY entered (R170). -/
def State.standbyEntered (s : State) : State :=
  s.restore.announceRestore.drainRacks.enterMode .standby .none

/-- With the exhausted generations announced too, if they are (R167, R170). -/
def State.restoreAnnounced (s : State) : State :=
  if s.standbyEntered.ck.state = .exhausted then s.standbyEntered.announceCheckpoint else s.standbyEntered

theorem State.evaluateSuspension_of_no_case {s : State} (h : s.cm.table = []) : s.evaluateSuspension = s := by
  simp [State.evaluateSuspension, h]

theorem State.standbyEntered_cm (s : State) :
    s.standbyEntered.cm = { s.cm with nextId := caseIdAfterScan (restoreChoice s.ck.slots) } := by
  simp [State.standbyEntered, State.restore]

/-- With no case in the table the end of STARTING evaluates no suspension (R124). -/
theorem State.startingEnd_eq {s : State} (noCase : s.cm.table = []) :
    s.startingEnd = s.restoreAnnounced.commit := by
  have entered : s.restore.announceRestore.drainRacks.changeMode .standby .none = s.standbyEntered :=
    State.evaluateSuspension_of_no_case (by rw [← State.standbyEntered, State.standbyEntered_cm, noCase])
  simp only [State.startingEnd, entered, State.restoreAnnounced]

theorem State.standbyEntered_ck (s : State) : s.standbyEntered.ck = { s.ck.afterScan with trigger := true } := by
  obtain ⟨b, drained⟩ := s.restore.announceRestore.drainRacks_ck
  rw [State.standbyEntered, State.enterMode_ck, drained, State.announceRestore_ck]
  rfl

/-- What the event has made of the other blocks by then. -/
structure State.EndsStarting (t s : State) : Prop where
  pmc : t.pmc = { s.pmc with mode := .standby, haltCause := .none }
  claims : ∀ id, t.lg.claimOf .mode id = if id = .conveyor then some .block else none
  smp : t.smp = s.smp
  cm : t.cm = { s.cm with nextId := caseIdAfterScan (restoreChoice s.ck.slots) }
  outside : t.SameOutside s
  rt : t.rt = { Rt.afterScan (restoreChoice s.ck.slots) with
    queue := ((carriedEntries (restoreChoice s.ck.slots)).map RackEntry.carry).drop 16 }
  outcomes : t.lk.outcomes
    = (((carriedEntries (restoreChoice s.ck.slots)).map RackEntry.carry).take 16).filterMap fun r =>
        r.outcome.map r.notice

theorem State.announceRestore_outcomes (s : State) : s.announceRestore.lk.outcomes = s.lk.outcomes := by
  unfold State.announceRestore
  split <;> rfl

/-- The drain step of the restore, with the whole outcome queue free (R73, R170). -/
theorem State.restore_drained {s : State} (outcomes : s.lk.outcomes = []) :
    s.restore.announceRestore.drained
      = (((carriedEntries (restoreChoice s.ck.slots)).map RackEntry.carry).drop 16,
          (((carriedEntries (restoreChoice s.ck.slots)).map RackEntry.carry).take 16).filterMap fun r =>
            r.outcome.map r.notice) := by
  have free : s.restore.announceRestore.lk.outcomes = [] := by
    rw [State.announceRestore_outcomes, State.restore_lk, outcomes]
  rw [State.drained, free, State.announceRestore_rt, State.restore_rt, Rt.afterScan_queue]
  exact drainScan_carried 16 _

theorem State.restore_ck (s : State) : s.restore.ck = s.ck.afterScan := rfl

theorem State.standbyEntered_events {s : State} (events : s.lk.events = []) :
    s.standbyEntered.lk.events = [.restored s.ck.afterScan.restored, .mode .standby .none] := by
  simp [State.standbyEntered, State.enterMode_lk, State.drainRacks_lk, State.announceRestore, Lk.eventRoom,
    Lk.pushEvent, State.restore_lk, State.restore_ck, events, queuePlaces]

theorem State.standbyEntered_endsStarting {s : State} (outcomes : s.lk.outcomes = []) :
    s.standbyEntered.EndsStarting s where
  pmc := by simp [State.standbyEntered, State.restore]
  claims id := by
    rw [State.standbyEntered, State.enterMode_claimOf_mode, modeClaims_on]
    simp
  smp := by simp [State.standbyEntered, State.restore]
  cm := s.standbyEntered_cm
  outside := by simp [State.standbyEntered, State.restore, State.SameOutside]
  rt := by
    rw [State.standbyEntered, State.enterMode_rt, State.drainRacks_rt, State.restore_drained outcomes]
    simp [State.restore]
  outcomes := by
    have entered : s.standbyEntered.lk.outcomes = s.restore.announceRestore.drainRacks.lk.outcomes := by
      rw [State.standbyEntered, State.enterMode_lk]
      split <;> rfl
    rw [entered, State.drainRacks_lk, State.restore_drained outcomes]
    rw [State.announceRestore_outcomes, State.restore_lk, outcomes, List.nil_append]

theorem State.EndsStarting.announceCheckpoint {t s : State} (h : t.EndsStarting s) :
    t.announceCheckpoint.EndsStarting s where
  pmc := by rw [State.announceCheckpoint_pmc, h.pmc]
  claims id := by rw [State.announceCheckpoint_lg, h.claims]
  smp := by rw [State.announceCheckpoint_smp, h.smp]
  cm := by rw [State.announceCheckpoint_cm, h.cm]
  outside := by simpa [State.SameOutside] using h.outside
  rt := by rw [State.announceCheckpoint_rt, h.rt]
  outcomes := by
    rw [← h.outcomes, State.announceCheckpoint]
    split <;> rfl

theorem State.EndsStarting.commit {t s : State} (h : t.EndsStarting s) : t.commit.EndsStarting s where
  pmc := by rw [State.commit_pmc, h.pmc]
  claims id := by rw [State.commit_lg, h.claims]
  smp := by rw [State.commit_smp, h.smp]
  cm := by rw [State.commit_cm, h.cm]
  outside := t.commit_kept.outside.trans h.outside
  rt := by rw [State.commit_rt, h.rt]
  outcomes := by rw [State.commit_lk, h.outcomes]

theorem State.restoreAnnounced_endsStarting {s : State} (outcomes : s.lk.outcomes = []) :
    s.restoreAnnounced.EndsStarting s := by
  unfold State.restoreAnnounced
  split
  · exact (State.standbyEntered_endsStarting outcomes).announceCheckpoint
  · exact State.standbyEntered_endsStarting outcomes

theorem State.restoreAnnounced_ck (s : State) :
    s.restoreAnnounced.ck = { s.ck.afterScan with trigger := true } := by
  unfold State.restoreAnnounced
  split
  · rw [State.announceCheckpoint_ck, State.standbyEntered_ck]
  · exact s.standbyEntered_ck

/-- RESTORED, then MODE, then CHECKPOINT where the generations are exhausted (R170). -/
theorem State.restoreAnnounced_events {s : State} (events : s.lk.events = []) :
    s.restoreAnnounced.lk.events
      = [.restored s.ck.afterScan.restored, .mode .standby .none]
        ++ (if s.ck.afterScan.state = .exhausted then
              [.checkpoint .exhausted s.ck.afterScan.lastWritten s.ck.afterScan.bad]
            else []) := by
  have entered := State.standbyEntered_events events
  simp only [State.restoreAnnounced, State.standbyEntered_ck]
  split
  next exhausted =>
    rw [State.announceCheckpoint_of_room (by simp [entered, queuePlaces])]
    simp [Lk.pushEvent, entered, State.checkpointNotice, State.standbyEntered_ck, exhausted]
  · simp [entered]

/-! ### The one write of the event -/

/-- Nothing is written where the state is not ON (R162, R170). -/
theorem State.commit_ck_of_off {s : State} (triggered : s.ck.trigger = true) (off : s.ck.state ≠ .on) :
    s.commit.ck = { s.ck with trigger := false } := by
  simp only [State.commit, triggered, if_true]
  split
  next on _ => exact absurd on off
  next on _ => exact absurd on off
  · rfl

theorem State.commit_ck_of_target {s : State} (triggered : s.ck.trigger = true) (on : s.ck.state = .on)
    (idle : s.ck.write = .idle) {target : Fin 4} (good : NextGood s.ck.current s.ck.bad target) :
    s.commit.ck
      = Ck.startErase { s.ck with trigger := false, nextGeneration := s.ck.nextGeneration + 1 }
          (s.snapshot s.ck.nextGeneration) target := by
  have starts := State.startWrite_of_target (s := s.setCk { s.ck with trigger := false })
    (targetAfter_of_nextGood good)
  simp only [State.commit, triggered, if_true, on, idle]
  simp only [on, idle] at starts
  rw [starts]
  rfl

/-- What of the store the end of an event leaves while no write is in flight (R162). -/
theorem State.commit_ck_frame {s : State} (idle : s.ck.write = .idle) :
    s.commit.ck.current = s.ck.current ∧ s.commit.ck.lastWritten = s.ck.lastWritten
      ∧ s.commit.ck.pending = s.ck.pending := by
  unfold State.commit
  split
  · simp only
    split
    · obtain ⟨current, lastWritten, pending, -, -⟩ := (s.setCk { s.ck with trigger := false }).startWrite_frame
      exact ⟨current, lastWritten, pending⟩
    next writing =>
      rw [idle] at writing
      cases writing
    · exact ⟨rfl, rfl, rfl⟩
  · exact ⟨rfl, rfl, rfl⟩

/-- The snapshot of the event holds what has been carried over and not drained (R160, R170). -/
theorem State.EndsStarting.snapshot {t s : State} (h : t.EndsStarting s) (noCase : s.cm.table = []) (n : Nat) :
    t.snapshot n =
      { generation := n, nextTag := (Rt.afterScan (restoreChoice s.ck.slots)).nextTag
        nextCaseId := caseIdAfterScan (restoreChoice s.ck.slots), mode := .standby
        onlineMask := Four.ofFn fun z => (s.pmc.zones.get z).slot.isOnline
        racks := (carriedEntries (restoreChoice s.ck.slots)).drop 16, cases := [] } := by
  have racks : t.rt.queue.map (fun r => r.entry t.smp.travel)
      = (carriedEntries (restoreChoice s.ck.slots)).drop 16 := by
    rw [h.rt, ← List.map_drop, List.map_map]
    exact List.map_id'' (fun e => e.entry_carry _) _
  rw [State.snapshot_items, racks, h.rt, h.pmc, h.cm, noCase]
  rfl

section
variable {s : State} (quiet : s.Quiet) (starting : s.pmc.mode = .starting)
include quiet starting

theorem State.Quiet.afterScan_idle : s.ck.afterScan.write = .idle := by
  obtain ⟨-, -, idle, -⟩ := quiet.unused starting
  rw [s.ck.afterScan_same.2, idle]

theorem State.startingEnd_endsStarting : s.startingEnd.EndsStarting s := by
  obtain ⟨-, noCase, -, outcomes, -⟩ := quiet.unused starting
  rw [State.startingEnd_eq noCase]
  exact (State.restoreAnnounced_endsStarting outcomes).commit

theorem State.startingEnd_events (events : s.lk.events = []) :
    s.startingEnd.lk.events
      = [.restored s.ck.afterScan.restored, .mode .standby .none]
        ++ (if s.ck.afterScan.state = .exhausted then
              [.checkpoint .exhausted s.ck.afterScan.lastWritten s.ck.afterScan.bad]
            else []) := by
  rw [State.startingEnd_eq (quiet.unused starting).no_case, State.commit_lk]
  exact State.restoreAnnounced_events events

theorem State.startingEnd_ck_frame :
    s.startingEnd.ck.current = s.ck.afterScan.current ∧ s.startingEnd.ck.lastWritten = s.ck.afterScan.lastWritten
      ∧ s.startingEnd.ck.pending = s.ck.afterScan.pending := by
  have idle : s.restoreAnnounced.ck.write = .idle := by
    rw [State.restoreAnnounced_ck]
    exact quiet.afterScan_idle starting
  have frame := State.commit_ck_frame idle
  rw [State.restoreAnnounced_ck] at frame
  rwa [State.startingEnd_eq (quiet.unused starting).no_case]

theorem State.startingEnd_ck_of_off (off : s.ck.afterScan.state ≠ .on) :
    s.startingEnd.ck = { s.ck.afterScan with trigger := false } := by
  rw [State.startingEnd_eq (quiet.unused starting).no_case,
    State.commit_ck_of_off (by rw [State.restoreAnnounced_ck]) (by rwa [State.restoreAnnounced_ck]),
    State.restoreAnnounced_ck]

theorem State.startingEnd_ck_of_target (on : s.ck.afterScan.state = .on) {target : Fin 4}
    (good : NextGood s.ck.afterScan.current s.ck.afterScan.bad target) :
    s.startingEnd.ck
      = Ck.startErase
          { s.ck.afterScan with trigger := false, nextGeneration := s.ck.afterScan.nextGeneration + 1 }
          { generation := s.ck.afterScan.nextGeneration
            nextTag := (Rt.afterScan (restoreChoice s.ck.slots)).nextTag
            nextCaseId := caseIdAfterScan (restoreChoice s.ck.slots), mode := .standby
            onlineMask := Four.ofFn fun z => (s.pmc.zones.get z).slot.isOnline
            racks := (carriedEntries (restoreChoice s.ck.slots)).drop 16, cases := [] } target := by
  obtain ⟨-, noCase, -, outcomes, -⟩ := quiet.unused starting
  have written := State.commit_ck_of_target (s := s.restoreAnnounced) (by rw [State.restoreAnnounced_ck])
    (by rwa [State.restoreAnnounced_ck])
    (by rw [State.restoreAnnounced_ck]; exact quiet.afterScan_idle starting)
    (by rwa [State.restoreAnnounced_ck])
  rw [State.startingEnd_eq noCase, written,
    (State.restoreAnnounced_endsStarting outcomes).snapshot noCase, State.restoreAnnounced_ck]

end

end Sys2Proof.Machine
end

section
/-! PROOF. STARTING_END (R168 to R170, R76, R133), with and without a slot that the restore scan has chosen. -/

namespace Sys2Proof.Machine

/-! ### What the restore takes from the chosen slot -/

theorem Ck.afterScan_of_none {ck : Ck} (none : restoreChoice ck.slots = none) :
    ck.afterScan
      = { ck with
          current := .none, nextGeneration := 1, lastWritten := .none
          restored := { generation := .none, carried := 0, mode := .none, onlineMask := ZoneSet.none,
                        abandoned := [] } } := by
  simp only [Ck.afterScan, none]

theorem Ck.afterScan_of_some {ck : Ck} {i : Fin 4} {sn : Snapshot} (chosen : restoreChoice ck.slots = some (i, sn)) :
    ck.afterScan
      = { ck with
          current := some i, nextGeneration := sn.generation + 1, lastWritten := some sn.generation
          state := if sn.generation = lastGeneration then .exhausted else ck.state
          restored := { generation := some sn.generation, carried := sn.racks.length, mode := some sn.mode,
                        onlineMask := sn.onlineMask, abandoned := sn.cases } } := by
  simp only [Ck.afterScan, chosen]

/-- The notices that the drain of carried records gives (R72, R76). -/
def carriedNotices (entries : List RackEntry) : List OutcomeNotice :=
  ((entries.map RackEntry.carry).take 16).filterMap fun r => r.outcome.map r.notice

/-- No carried rack is lost or reordered (R73, R76). -/
theorem carriedNotices_tags (entries : List RackEntry) :
    noticeTags (carriedNotices entries) ++ tagsOf ((entries.map RackEntry.carry).drop 16)
      = entries.map (·.tag) := by
  have tags := drainScan_tags 16 (entries.map RackEntry.carry)
  rw [drainScan_carried] at tags
  refine tags.trans ?_
  rw [tagsOf, List.map_map]
  rfl

theorem carriedNotices_length (entries : List RackEntry) :
    (carriedNotices entries).length = min 16 entries.length := by
  have total := drainScan_length 16 (entries.map RackEntry.carry)
  rw [drainScan_carried, List.length_drop, List.length_map] at total
  change (carriedNotices entries).length + _ = _ at total
  omega

/-- No carried rack is CLEAN, and its reasons say CARRIED (R76). -/
theorem carriedNotices_reasons {entries : List RackEntry} {o : OutcomeNotice} (h : o ∈ carriedNotices entries) :
    o.outcome.reasons.carried = true ∧ o.outcome.disposition ≠ .clean := by
  obtain ⟨r, taken, notice⟩ := List.mem_filterMap.mp h
  obtain ⟨e, -, rfl⟩ := List.mem_map.mp (List.mem_of_mem_take taken)
  rw [RackEntry.carry_eq] at notice
  cases notice
  refine ⟨rfl, ?_⟩
  simp only [Rack.notice, RackEntry.outcome]
  split <;> decide

theorem carriedNotices_eq (entries : List RackEntry) :
    carriedNotices entries
      = ((entries.map RackEntry.carry).take 16).filterMap fun r => r.outcome.map fun o =>
          { tag := r.tag, outcome := o, mask := r.mask, contact := r.contact, dose := r.dose
            exitPosition := r.exitPosition.getD 0, links := [], linksMore := false } := by
  refine List.filterMap_congr fun r taken => ?_
  obtain ⟨e, -, rfl⟩ := List.mem_map.mp (List.mem_of_mem_take taken)
  exact e.carry_notice

/-! ### The two ways STARTING ends -/

theorem exec_startingEnd {s : State} (live : s.live = true) (starting : s.pmc.mode = .starting) :
    exec .startingEnd s = .next s.startingEnd := by
  simp [exec, execStartingEnd, live, starting]

/-- Settles O45: the event up to its trigger, the write that the trigger starts, and the two ways the restore
scan goes. -/
theorem startingEnds : Obligations.StartingEnds := by
  unfold Obligations.StartingEnds
  intro s live starting quiet noEvents
  have ends := State.startingEnd_endsStarting quiet starting
  have events := State.startingEnd_events quiet starting noEvents
  have off := State.startingEnd_ck_of_off quiet starting
  have written := fun target => State.startingEnd_ck_of_target (target := target) quiet starting
  have idle := quiet.afterScan_idle starting
  obtain ⟨current, lastWritten, pending⟩ := State.startingEnd_ck_frame quiet starting
  obtain ⟨-, noCase, -⟩ := quiet.unused starting
  refine ⟨_, exec_startingEnd live starting, ends.pmc, ends.claims, ends.smp, by rw [ends.cm, noCase], ends.outside,
    fun none => ?_, fun i sn chosen => ?_⟩
  · rw [Ck.afterScan_of_none none] at events off written idle current lastWritten pending
    refine ⟨by rw [ends.rt, none]; rfl, by rw [ends.cm, none]; rfl, by rw [ends.outcomes, none]; rfl, current,
      lastWritten, pending, fun notOn => ?_, fun target on good => ?_, events⟩
    · rw [off notOn]
      exact ⟨idle, rfl, rfl⟩
    · rw [written target on good, none]
      exact ⟨rfl, rfl, fun i other => Four.get_set_other _ _ other⟩
  · intro carried
    have carried_eq : carried = sn.racks.map RackEntry.carry := List.map_congr_left fun e _ => e.carry_eq.symm
    clear_value carried
    subst carried_eq
    rw [Ck.afterScan_of_some chosen] at events off written idle current lastWritten pending
    have outcomes : s.startingEnd.lk.outcomes = carriedNotices sn.racks := by rw [ends.outcomes, chosen]; rfl
    have queue : s.startingEnd.rt.queue = (sn.racks.map RackEntry.carry).drop 16 := by rw [ends.rt, chosen]; rfl
    refine ⟨queue, by rw [ends.rt, chosen]; rfl, outcomes.trans (carriedNotices_eq _), pending, fun notOn => ?_,
      fun target on more good => ?_, by rw [ends.rt, chosen]; rfl, by rw [ends.cm, chosen]; rfl, current, lastWritten,
      by rw [ends.rt, chosen]; rfl, by rw [outcomes, queue, carriedNotices_tags],
      by rw [outcomes, carriedNotices_length], fun o mem => carriedNotices_reasons (outcomes ▸ mem),
      fun x mem => ?_, ?_⟩
    · rw [off ?_]
      · exact ⟨idle, rfl, rfl⟩
      · simp only
        split
        · decide
        next more => exact notOn.resolve_right more
    · rw [written target ((if_neg more).trans on) good, chosen]
      exact ⟨rfl, rfl, fun i other => Four.get_set_other _ _ other⟩
    · rw [queue] at mem
      obtain ⟨e, -, rfl⟩ := List.mem_map.mp (List.mem_of_mem_drop mem)
      exact ⟨rfl, rfl⟩
    · rw [events]
      by_cases last : sn.generation = 4294967294 <;> simp [last, lastGeneration]

end Sys2Proof.Machine
end

section
/-! PROOF. The frame assembler (R175 to R178): what it makes of a frame from its SYNC byte on, what a hunt leaves,
and how a character and the end of a gap change the receive side. -/

namespace Sys2Proof.Machine

/-! ### The judgement of a frame -/

section
variable {bad : Bool} {first len : RxByte} {rest : List RxByte}

theorem judgeFrame_single : judgeFrame bad [first] = .incomplete := rfl

theorem judgeFrame_of_badLen (h : len.byte.toNat < 2 ∨ 250 < len.byte.toNat) :
    judgeFrame bad (first :: len :: rest) = .badLen := by
  simp only [judgeFrame, Bool.or_eq_true, decide_eq_true_eq, h, if_true]

variable (least : 2 ≤ len.byte.toNat) (most : len.byte.toNat ≤ 250)
include least most

theorem judgeFrame_of_short (short : rest.length + 2 < len.byte.toNat + 4) :
    judgeFrame bad (first :: len :: rest) = .incomplete := by
  simp [judgeFrame, short, Nat.not_lt.mpr least, Nat.not_lt.mpr most]

/-- A frame with all its bytes is judged by its marks, and then by its check value (R176). -/
theorem judgeFrame_of_whole (whole : rest.length + 2 = len.byte.toNat + 4) :
    judgeFrame bad (first :: len :: rest)
      = if bad || (first :: len :: rest).any (·.errorMark) then .badFrame
        else if frameChecks ((first :: len :: rest).map (·.byte)) then .good (len.byte.toNat + 4)
        else .badFrame := by
  have all : (first :: len :: rest).take (len.byte.toNat + 4) = first :: len :: rest :=
    List.take_of_length_le (by simp [whole])
  have places : (first :: len :: rest).length = len.byte.toNat + 4 := by simp [whole]
  simp only [judgeFrame, Bool.or_eq_true, decide_eq_true_eq, all, places, Nat.not_lt.mpr least, Nat.not_lt.mpr most,
    or_self, if_false, lt_irrefl]

end

/-- A frame in assembly whose LEN, where it has come, is in range and counts more bytes than have come (R176). -/
theorem judgeFrame_of_partial {bad : Bool} {first : RxByte} {rest : List RxByte}
    (room : ∀ len, rest.head? = some len →
      2 ≤ len.byte.toNat ∧ len.byte.toNat ≤ 250 ∧ rest.length + 1 < len.byte.toNat + 4) :
    judgeFrame bad (first :: rest) = .incomplete := by
  cases rest with
  | nil => rfl
  | cons len rest =>
    obtain ⟨least, most, short⟩ := room len rfl
    exact judgeFrame_of_short least most (by simpa using short)

theorem judgeFrame_good_le {bad : Bool} {bytes : List RxByte} {n : Nat} (h : judgeFrame bad bytes = .good n) :
    1 ≤ n ∧ n ≤ bytes.length := by
  unfold judgeFrame at h
  split at h
  · simp only at h
    split at h
    · cases h
    · split at h
      · cases h
      next whole =>
        split at h
        · cases h
        · split at h
          · cases h
            exact ⟨by omega, Nat.not_lt.mp whole⟩
          · cases h
  · cases h

/-! ### A hunt -/

section
variable {gapOver bad : Bool} {b : RxByte} {bs : List RxByte}

theorem hunt_of_not_sync (h : b.isSync = false) :
    hunt gapOver bad 0 (b :: bs) = hunt gapOver false 0 bs := by
  simp [hunt, h]

section
variable (sync : b.isSync = true)
include sync

theorem hunt_of_incomplete (h : judgeFrame bad (b :: bs) = .incomplete) :
    hunt false bad 0 (b :: bs) = { checked := [], assembly := b :: bs, errors := 0 } := by
  simp [hunt, sync, h]

theorem hunt_of_gapOver (h : judgeFrame bad (b :: bs) = .incomplete) :
    hunt true bad 0 (b :: bs) = hunt true false 0 bs := by
  simp [hunt, sync, h]

theorem hunt_of_badLen (h : judgeFrame bad (b :: bs) = .badLen) :
    hunt gapOver bad 0 (b :: bs) = hunt gapOver false 0 bs := by
  simp [hunt, sync, h]

theorem hunt_of_badFrame (h : judgeFrame bad (b :: bs) = .badFrame) :
    hunt gapOver bad 0 (b :: bs)
      = { hunt gapOver false 0 bs with errors := (hunt gapOver false 0 bs).errors + 1 } := by
  simp [hunt, sync, h]

theorem hunt_of_good {n : Nat} (h : judgeFrame bad (b :: bs) = .good n) :
    hunt gapOver bad 0 (b :: bs)
      = { hunt gapOver false (n - 1) bs with
          checked := ((b :: bs).take n).map (·.byte) :: (hunt gapOver false (n - 1) bs).checked } := by
  simp [hunt, sync, h]

end

/-- Bytes among which none is a SYNC leave nothing (R176). -/
theorem hunt_of_no_sync (h : ∀ x ∈ bs, x.isSync = false) :
    hunt gapOver bad 0 bs = { checked := [], assembly := [], errors := 0 } := by
  induction bs generalizing bad with
  | nil => simp [hunt]
  | cons b bs ih =>
    rw [hunt_of_not_sync (h b List.mem_cons_self)]
    exact ih fun x hx => h x (List.mem_cons_of_mem b hx)

/-- Behind a checked frame with which the bytes end there is nothing to hunt (R176). -/
theorem hunt_of_skip {skip : Nat} (h : bs.length = skip) :
    hunt gapOver bad skip bs = { checked := [], assembly := [], errors := 0 } := by
  induction bs generalizing skip with
  | nil => simp [hunt]
  | cons b bs ih =>
    obtain rfl := h
    exact ih rfl

/-- What a hunt keeps, checked or in assembly, are bytes that it has gone through and not skipped (R176). -/
theorem hunt_count (gapOver bad : Bool) (skip : Nat) (bs : List RxByte) :
    ((hunt gapOver bad skip bs).checked.map List.length).sum + (hunt gapOver bad skip bs).assembly.length
      ≤ bs.length - skip := by
  induction bs generalizing bad skip with
  | nil => simp [hunt]
  | cons b bs ih =>
    cases skip with
    | succ skip => simpa [hunt] using ih bad skip
    | zero =>
      have rest := ih false 0
      cases sync : b.isSync with
      | false =>
        rw [hunt_of_not_sync sync, List.length_cons]
        omega
      | true =>
        cases judged : judgeFrame bad (b :: bs) with
        | incomplete =>
          cases gapOver with
          | false => simp [hunt_of_incomplete sync judged]
          | true =>
            rw [hunt_of_gapOver sync judged, List.length_cons]
            omega
        | badLen =>
          rw [hunt_of_badLen sync judged, List.length_cons]
          omega
        | badFrame =>
          rw [hunt_of_badFrame sync judged, List.length_cons]
          simp only
          omega
        | good n =>
          obtain ⟨first, last⟩ := judgeFrame_good_le judged
          have behind := ih false (n - 1)
          rw [hunt_of_good sync judged]
          simp only [List.map_cons, List.sum_cons, List.length_map, List.length_take, List.length_cons] at last ⊢
          omega

/-- When the gap of every byte has ended no frame stays in assembly (R178). -/
theorem hunt_gapOver_assembly (bad : Bool) (skip : Nat) (bs : List RxByte) :
    (hunt true bad skip bs).assembly = [] := by
  induction bs generalizing bad skip with
  | nil => simp [hunt]
  | cons b bs ih =>
    cases skip with
    | succ skip => exact ih bad skip
    | zero =>
      cases sync : b.isSync with
      | false => rw [hunt_of_not_sync sync, ih]
      | true =>
        cases judged : judgeFrame bad (b :: bs) with
        | incomplete => rw [hunt_of_gapOver sync judged, ih]
        | badLen => rw [hunt_of_badLen sync judged, ih]
        | badFrame => rw [hunt_of_badFrame sync judged, ih]
        | good n => rw [hunt_of_good sync judged, ih]

end

/-! ### A character -/

/-- The bytes of the checked frames of the inbound buffer. -/
def Rx.held (rx : Rx) : Nat := (rx.checked.map List.length).sum

theorem Rx.count_eq (rx : Rx) : rx.count = rx.held + rx.assembly.length := rfl

section
variable {rx : Rx} {b : RxByte}

/-- A character at a full buffer is lost (R175). -/
theorem Rx.take_of_full (full : 256 ≤ rx.count) :
    rx.take b = ({ rx with overflow := rx.overflow || !rx.assembly.isEmpty }, 0) :=
  if_pos full

/-- Hunting passes over a byte that is no SYNC (R176). -/
theorem Rx.take_of_passed (hunting : rx.assembly = []) (pass : b.isSync = false) : rx.take b = (rx, 0) := by
  obtain room | full := Nat.lt_or_ge rx.count 256
  · simp [Rx.take, inboundPlaces, Nat.not_le.mpr room, hunting, pass]
  · have same : (rx.overflow || !rx.assembly.isEmpty) = rx.overflow := by simp [hunting]
    rw [Rx.take_of_full full, same]

variable (room : rx.count < 256)
include room

theorem Rx.take_of_hunt (taken : rx.assembly ≠ [] ∨ b.isSync = true) :
    rx.take b
      = (rx.afterHunt (rdyAfterArrival rx.rdy (rx.count + 1)) (rx.assembly ++ [b]) 50
            (hunt false rx.overflow 0 (rx.assembly ++ [b])),
          (hunt false rx.overflow 0 (rx.assembly ++ [b])).errors) := by
  have takes : (rx.assembly.isEmpty && !b.isSync) = false := by
    obtain started | sync := taken
    · simp [started]
    · simp [sync]
  simp [Rx.take, inboundPlaces, Nat.not_le.mpr room, takes, frameGap]

/-- A byte that leaves its frame incomplete joins it (R176). -/
theorem Rx.take_of_joined (taken : rx.assembly ≠ [] ∨ b.isSync = true)
    (joins : hunt false rx.overflow 0 (rx.assembly ++ [b])
      = { checked := [], assembly := rx.assembly ++ [b], errors := 0 }) :
    rx.take b
      = ({ rx with
            assembly := rx.assembly ++ [b], gap := 50
            rdy := if 192 ≤ rx.count + 1 then false else rx.rdy }, 0) := by
  rw [Rx.take_of_hunt room taken, joins]
  simp [Rx.afterHunt, Rx.count, rdyAfterArrival]

/-- A byte that completes a good frame leaves it checked (R176). -/
theorem Rx.take_of_completed (started : rx.assembly ≠ []) (clean : rx.overflow = false)
    (completes : hunt false false 0 (rx.assembly ++ [b])
      = { checked := [(rx.assembly ++ [b]).map (·.byte)], assembly := [], errors := 0 }) :
    rx.take b
      = ({ rx with
            checked := rx.checked ++ [rx.assembly.map (·.byte) ++ [b.byte]], assembly := [], gap := 50
            rdy := if 192 ≤ rx.count + 1 then false else rx.rdy }, 0) := by
  rw [Rx.take_of_hunt room (.inl started), clean, completes]
  simp [Rx.afterHunt, Rx.count, rdyAfterArrival, clean]

/-- A byte at which its frame is discarded with nothing behind it leaves the checked frames, and RDY goes high
with 64 bytes or fewer left (R175, R177). -/
theorem Rx.take_of_discarded {errors : Nat} (started : rx.assembly ≠ [])
    (discards : hunt false rx.overflow 0 (rx.assembly ++ [b])
      = { checked := [], assembly := [], errors := errors }) :
    rx.take b
      = ({ rx with
            assembly := [], overflow := false, gap := 50
            rdy := if rx.held ≤ 64 then true else if 192 ≤ rx.count + 1 then false else rx.rdy }, errors) := by
  rw [Rx.take_of_hunt room (.inl started), discards]
  simp [Rx.afterHunt, Rx.count, Rx.held, rdyAfterArrival, rdyAfterLeaving]

end

/-! ### The end of a gap -/

theorem Rx.gapOver_of_empty {rx : Rx} (h : rx.assembly = []) : rx.gapOver = (rx, 0) := by
  simp [Rx.gapOver, h]

theorem Rx.gapOver_of_started {rx : Rx} (h : rx.assembly ≠ []) :
    rx.gapOver
      = (rx.afterHunt rx.rdy rx.assembly 0 (hunt true rx.overflow 0 rx.assembly),
          (hunt true rx.overflow 0 rx.assembly).errors) := by
  simp [Rx.gapOver, h]

theorem Rx.gapOver_assembly (rx : Rx) : rx.gapOver.1.assembly = [] := by
  by_cases h : rx.assembly = []
  · rw [Rx.gapOver_of_empty h, h]
  · rw [Rx.gapOver_of_started h]
    exact hunt_gapOver_assembly ..

theorem Rx.gapOver_checked (rx : Rx) : rx.checked <+: rx.gapOver.1.checked := by
  by_cases h : rx.assembly = []
  · rw [Rx.gapOver_of_empty h]
  · rw [Rx.gapOver_of_started h]
    exact List.prefix_append ..

/-! ### The bytes of the buffer -/

/-- A hunt through bytes of the buffer leaves no more of them than there were (R175). -/
theorem Rx.afterHunt_count (rx : Rx) (rdy gapOver bad : Bool) (bytes : List RxByte) (gap : Nat) :
    (rx.afterHunt rdy bytes gap (hunt gapOver bad 0 bytes)).count ≤ rx.held + bytes.length := by
  have kept := hunt_count gapOver bad 0 bytes
  simp only [Rx.count_eq, Rx.held, Rx.afterHunt, List.map_append, List.sum_append]
  omega

/-- The buffer takes a byte only where it has a place for it (R175). -/
theorem Rx.take_count {rx : Rx} (h : rx.count ≤ 256) (b : RxByte) : (rx.take b).1.count ≤ 256 := by
  obtain room | full := Nat.lt_or_ge rx.count 256
  · by_cases passed : rx.assembly = [] ∧ b.isSync = false
    · rwa [Rx.take_of_passed passed.1 passed.2]
    · rw [Rx.take_of_hunt room (by simpa [or_iff_not_imp_left] using passed)]
      refine (Rx.afterHunt_count ..).trans ?_
      rw [Rx.count_eq] at room
      simp only [List.length_append, List.length_singleton]
      omega
  · rwa [Rx.take_of_full full]

theorem Rx.gapOver_count (rx : Rx) : rx.gapOver.1.count ≤ rx.count := by
  by_cases h : rx.assembly = []
  · rw [Rx.gapOver_of_empty h]
  · rw [Rx.gapOver_of_started h]
    exact Rx.afterHunt_count ..

theorem Rx.dropHead_count (rx : Rx) : rx.dropHead.count ≤ rx.count := by
  have left : (rx.checked.tail.map List.length).sum ≤ (rx.checked.map List.length).sum := by
    cases rx.checked with
    | nil => simp
    | cons f fs => simp
  exact Nat.add_le_add_right left _

end Sys2Proof.Machine
end

section
/-! PROOF. Characters with their parity (R173), frames with their check value (R179, R188), and a whole frame taken
character by character (R175, R176). -/

namespace Sys2Proof.Machine

/-! ### Characters -/

theorem foldl_xor_eq_countP (f : Nat → Bool) (is : List Nat) (p : Bool) :
    is.foldl (fun p i => p ^^ f i) p = decide ((is.countP f + p.toNat) % 2 = 1) := by
  induction is generalizing p with
  | nil => cases p <;> rfl
  | cons i is ih =>
    rw [List.foldl_cons, ih, List.countP_cons]
    cases f i <;> cases p <;> simp [Nat.add_assoc]

/-- The parity bit is set where the data bits hold an odd number of ones (R173). -/
theorem parityBit_eq (b : Byte) : parityBit b = decide ((List.range 8).countP (fun i => b.getLsbD i) % 2 = 1) := by
  rw [parityBit, foldl_xor_eq_countP, Bool.toNat_false, Nat.add_zero]

/-- With its parity bit a character holds an even number of ones (R173). -/
theorem parityBit_even (b : Byte) : ((List.range 8).countP (fun i => b.getLsbD i) + (parityBit b).toNat) % 2 = 0 := by
  rw [parityBit_eq]
  by_cases odd : (List.range 8).countP (fun i => b.getLsbD i) % 2 = 1
  · simp only [odd, decide_true, Bool.toNat_true]
    omega
  · simp only [odd, decide_false, Bool.toNat_false]
    omega

/-- A character carries an error mark where its ones are odd or its stop bit is low (R173). -/
theorem receivedByte_errorMark (b : Byte) (ending : CharacterEnd) :
    (receivedByte b ending).errorMark = true ↔
      ((List.range 8).countP (fun i => b.getLsbD i) + ending.parity.toNat) % 2 = 1 ∨ ending.stop = false := by
  have even := parityBit_even b
  have odd : (ending.parity != parityBit b) = true
      ↔ ((List.range 8).countP (fun i => b.getLsbD i) + ending.parity.toNat) % 2 = 1 := by
    cases parity : parityBit b with
    | false =>
      rw [parity, Bool.toNat_false] at even
      cases ending.parity with
      | false => simp only [Bool.toNat_false, bne_self_eq_false, Bool.false_eq_true, false_iff]; omega
      | true => simp only [Bool.toNat_true, Bool.bne_false, true_iff]; omega
    | true =>
      rw [parity, Bool.toNat_true] at even
      cases ending.parity with
      | false => simp only [Bool.toNat_false, Bool.bne_true, Bool.not_false, true_iff]; omega
      | true => simp only [Bool.toNat_true, bne_self_eq_false, Bool.false_eq_true, false_iff]; omega
  simp only [receivedByte, Bool.or_eq_true, odd, Bool.not_eq_true']

theorem RxByte.isSync_iff (b : RxByte) : b.isSync = true ↔ b.byte = 0xC3 ∧ b.errorMark = false := by
  rw [RxByte.isSync, Bool.and_eq_true, Bool.not_eq_true']
  exact and_congr_left' decide_eq_true_iff

theorem RxByte.not_isSync_iff (b : RxByte) : b.isSync = false ↔ b.byte ≠ 0xC3 ∨ b.errorMark = true := by
  rw [← Bool.not_eq_true, RxByte.isSync_iff, not_and_or, Bool.not_eq_false]

/-! ### Frames -/

/-- Settles O47: the register byte by byte. -/
theorem checkValueOfTheTestText : Obligations.CheckValueOfTheTestText := by
  unfold Obligations.CheckValueOfTheTestText
  have byte1 : crcByte 0xFFFF#16 0x31 = 0xC782#16 := by decide
  have byte2 : crcByte 0xC782#16 0x32 = 0x3DBA#16 := by decide
  have byte3 : crcByte 0x3DBA#16 0x33 = 0x5BCE#16 := by decide
  have byte4 : crcByte 0x5BCE#16 0x34 = 0x5349#16 := by decide
  have byte5 : crcByte 0x5349#16 0x35 = 0x4560#16 := by decide
  have byte6 : crcByte 0x4560#16 0x36 = 0x2EF4#16 := by decide
  have byte7 : crcByte 0x2EF4#16 0x37 = 0x7718#16 := by decide
  have byte8 : crcByte 0x7718#16 0x38 = 0xA12B#16 := by decide
  have byte9 : crcByte 0xA12B#16 0x39 = 0x29B1#16 := by decide
  simp only [crc16, List.foldl_cons, List.foldl_nil, byte1, byte2, byte3, byte4, byte5, byte6, byte7, byte8, byte9]

/-- The bytes of a frame that the check value covers (R179). -/
def coveredBytes (kind tag : Byte) (payload : List Byte) : List Byte :=
  byte (payload.length + 2) :: kind :: tag :: payload

theorem frame_eq (kind tag : Byte) (payload : List Byte) :
    frame kind tag payload
      = 0xC3 :: byte (payload.length + 2) ::
          (kind :: tag :: payload ++ be16 (crc16 (coveredBytes kind tag payload)).toNat) := rfl

theorem frame_length (kind tag : Byte) (payload : List Byte) :
    (frame kind tag payload).length = payload.length + 6 := by
  simp [frame_eq, be16]

/-- A frame agrees with its own check value (R176, R179). -/
theorem frameChecks_frame (kind tag : Byte) (payload : List Byte) : frameChecks (frame kind tag payload) = true := by
  have covered : frameCovered (frame kind tag payload) = coveredBytes kind tag payload := by
    rw [frameCovered, frame_length]
    simp [frame_eq, coveredBytes]
  have check : frameCheck (frame kind tag payload) = be16 (crc16 (coveredBytes kind tag payload)).toNat := by
    rw [frameCheck, frame_length]
    simp [frame_eq]
  rw [frameChecks, covered, check, decide_eq_true rfl]

/-- A frame is read as what it was made of (R180, R188). -/
theorem ofFrame_frame (kind tag : Byte) (payload : List Byte) :
    Request.ofFrame (frame kind tag payload) = { kind := kind, tag := tag, payload := payload } := by
  rw [Request.ofFrame, frame_length]
  simp [frame_eq]

/-! ### A whole frame, character by character -/

/-- A byte that arrives as it is sent (R173). -/
def unmarked (b : Byte) : RxByte := { byte := b, errorMark := false }

theorem map_byte_unmarked (bs : List Byte) : (bs.map unmarked).map (·.byte) = bs := by
  simp [Function.comp_def, unmarked]

/-- The receive side, with the errors counted, when it has taken some bytes of a frame and counted none. -/
structure Rx.Assembles (rx : Rx) (bs : List Byte) (now : Rx × Nat) : Prop where
  checked : now.1.checked = rx.checked
  assembly : now.1.assembly = bs.map unmarked
  overflow : now.1.overflow = false
  inBreak : now.1.inBreak = rx.inBreak
  errors : now.2 = 0

theorem Rx.Assembles.count {rx : Rx} {bs : List Byte} {now : Rx × Nat} (h : rx.Assembles bs now) :
    now.1.count = rx.held + bs.length := by
  rw [Rx.count_eq, Rx.held, h.checked, h.assembly, List.length_map, Rx.held]

/-- One more character, with the errors it makes counted (R175 to R177). -/
def Rx.takeNext (now : Rx × Nat) (b : Byte) : Rx × Nat :=
  ((now.1.take (unmarked b)).1, now.2 + (now.1.take (unmarked b)).2)

section
variable {rx : Rx} {bs : List Byte} {now : Rx × Nat} {b : Byte} (h : rx.Assembles bs now)
  (room : rx.held + bs.length < 256)
include h room

/-- A byte that joins the frame (R176). -/
theorem Rx.Assembles.joined (taken : bs ≠ [] ∨ b = 0xC3)
    (joins : hunt false false 0 ((bs ++ [b]).map unmarked)
      = { checked := [], assembly := (bs ++ [b]).map unmarked, errors := 0 }) :
    rx.Assembles (bs ++ [b]) (Rx.takeNext now b) := by
  have bytes : now.1.assembly ++ [unmarked b] = (bs ++ [b]).map unmarked := by simp [h.assembly]
  have takes : now.1.assembly ≠ [] ∨ (unmarked b).isSync = true := by
    obtain started | rfl := taken
    · exact .inl (by simpa [h.assembly] using started)
    · exact .inr rfl
  have joined := Rx.take_of_joined (h.count ▸ room) takes (by rw [bytes, h.overflow, joins])
  rw [Rx.takeNext, joined, bytes]
  exact ⟨h.checked, rfl, h.overflow, h.inBreak, h.errors⟩

/-- The byte that completes the frame (R176). -/
theorem Rx.Assembles.completed (started : bs ≠ [])
    (completes : hunt false false 0 ((bs ++ [b]).map unmarked)
      = { checked := [bs ++ [b]], assembly := [], errors := 0 }) :
    ({ rx with checked := rx.checked ++ [bs ++ [b]] }).Assembles [] (Rx.takeNext now b) := by
  have bytes : now.1.assembly ++ [unmarked b] = (bs ++ [b]).map unmarked := by simp [h.assembly]
  have frame : now.1.assembly.map (·.byte) ++ [b] = bs ++ [b] := by rw [h.assembly, map_byte_unmarked]
  have completed := Rx.take_of_completed (h.count ▸ room) (by simpa [h.assembly] using started) h.overflow
    (b := unmarked b) (by rw [bytes, completes, map_byte_unmarked])
  rw [Rx.takeNext, completed]
  exact ⟨by simp [h.checked, unmarked, frame], rfl, h.overflow, h.inBreak, h.errors⟩

end

section
variable {kind tag : Byte} {payload : List Byte} (short : payload.length ≤ 248)
include short

theorem frame_len_toNat : (byte (payload.length + 2)).toNat = payload.length + 2 := by
  simp only [byte, BitVec.toNat_ofNat]
  omega

/-- What has come of a frame before its last byte stays in assembly (R176). -/
theorem hunt_frame_take {n : Nat} (started : 0 < n) (ahead : n < payload.length + 6) :
    hunt false false 0 (((frame kind tag payload).take n).map unmarked)
      = { checked := [], assembly := ((frame kind tag payload).take n).map unmarked, errors := 0 } := by
  obtain ⟨n, rfl⟩ := Nat.exists_eq_succ_of_ne_zero started.ne'
  rw [frame_eq, List.take_succ_cons, List.map_cons]
  refine hunt_of_incomplete rfl (judgeFrame_of_partial fun len head => ?_)
  cases n with
  | zero => cases head
  | succ n =>
    cases head
    have length := frame_len_toNat short
    simp only [unmarked, length, List.take_succ_cons, List.map_cons, List.length_cons, List.length_map,
      List.length_take]
    omega

/-- A frame with all its bytes is checked (R176). -/
theorem hunt_frame :
    hunt false false 0 ((frame kind tag payload).map unmarked)
      = { checked := [frame kind tag payload], assembly := [], errors := 0 } := by
  have length := frame_len_toNat short
  have bytes := map_byte_unmarked (frame kind tag payload)
  have checks := frameChecks_frame kind tag payload
  have places := frame_length kind tag payload
  have marks : ((frame kind tag payload).map unmarked).any (·.errorMark) = false := by simp [unmarked]
  rw [frame_eq] at bytes checks places marks ⊢
  simp only [List.map_cons, List.length_cons] at bytes checks places marks ⊢
  have judged := judgeFrame_of_whole (bad := false) (first := unmarked 0xC3)
    (len := unmarked (byte (payload.length + 2)))
    (rest := (kind :: tag :: payload ++ be16 (crc16 (coveredBytes kind tag payload)).toNat).map unmarked)
    (by simp only [unmarked, length]; omega) (by simp only [unmarked, length]; omega)
    (by simp only [unmarked, length, List.length_map]; omega)
  rw [marks, List.map_cons, List.map_cons, bytes, checks] at judged
  rw [hunt_of_good rfl judged, hunt_of_skip (by simp only [unmarked, length, List.length_cons, List.length_map]; omega),
    List.take_of_length_le (by simp only [unmarked, length, List.length_cons, List.length_map]; omega),
    List.map_cons, List.map_cons, bytes]

variable {rx : Rx} (empty : rx.assembly = []) (clean : rx.overflow = false)
  (room : rx.count + payload.length + 6 ≤ 256)
include empty clean room

/-- One byte after another of a frame joins it (R176). -/
theorem Rx.assembles_frame_take {n : Nat} (ahead : n < payload.length + 6) :
    rx.Assembles ((frame kind tag payload).take n)
      (((frame kind tag payload).take n).foldl Rx.takeNext (rx, 0)) := by
  rw [Rx.count_eq, empty, List.length_nil] at room
  induction n with
  | zero => exact ⟨rfl, empty, clean, rfl, rfl⟩
  | succ n ih =>
    have inside : n < (frame kind tag payload).length := by rw [frame_length]; omega
    have joins := hunt_frame_take (kind := kind) (tag := tag) short (Nat.succ_pos n) ahead
    rw [List.take_succ_eq_append_getElem inside] at joins ⊢
    rw [List.foldl_append]
    refine (ih (Nat.lt_of_succ_lt ahead)).joined ?_ ?_ joins
    · rw [List.length_take_of_le inside.le]
      omega
    · cases n with
      | zero => exact .inr rfl
      | succ n => exact .inl (by simp [frame_eq])

/-- The last byte of a frame leaves it checked, and hunting begins again (R176). -/
theorem Rx.assembles_frame :
    ({ rx with checked := rx.checked ++ [frame kind tag payload] }).Assembles []
      ((frame kind tag payload).foldl Rx.takeNext (rx, 0)) := by
  have inside : payload.length + 5 < (frame kind tag payload).length := by rw [frame_length]; omega
  have whole := List.take_succ_eq_append_getElem inside
  rw [List.take_of_length_le (by rw [frame_length])] at whole
  have before := Rx.assembles_frame_take (kind := kind) (tag := tag) short empty clean room (Nat.lt_succ_self _)
  have completes := hunt_frame (kind := kind) (tag := tag) short
  rw [Rx.count_eq, empty, List.length_nil] at room
  rw [whole] at completes
  have completed := before.completed (b := (frame kind tag payload)[payload.length + 5])
    (by rw [List.length_take_of_le inside.le]; omega) (by simp [frame_eq]) completes
  rw [← whole] at completed
  have last : (frame kind tag payload).foldl Rx.takeNext (rx, 0)
      = Rx.takeNext (((frame kind tag payload).take (payload.length + 5)).foldl Rx.takeNext (rx, 0))
          (frame kind tag payload)[payload.length + 5] := by
    conv_lhs => rw [whole]
    rw [List.foldl_append, List.foldl_cons, List.foldl_nil]
  rw [last]
  exact completed

end

/-- Settles O48: the bytes of the frame before the last join it one by one, and the last one completes it. -/
theorem framesAreReceived : Obligations.FramesAreReceived := by
  unfold Obligations.FramesAreReceived
  intro rx kind tag payload short empty clean room
  have received : (fun (a : Rx × Nat) b =>
      let n := a.1.take (receivedByte b { parity := parityBit b, stop := true })
      (n.1, a.2 + n.2)) = Rx.takeNext := by
    funext a b
    rw [receivedByte_sent]
    rfl
  rw [received]
  obtain ⟨checked, assembly, overflow, inBreak, errors⟩ :=
    Rx.assembles_frame (kind := kind) (tag := tag) short empty clean room
  exact ⟨errors, checked, assembly, overflow, inBreak, ofFrame_frame kind tag payload⟩

end Sys2Proof.Machine
end

section
/-! PROOF. RX_BYTE, FRAME_GAP_TIMEOUT, LINK_RESET and BREAK_END as events (R173 to R178, R186). -/

namespace Sys2Proof.Machine

/-! ### What a frame's next byte makes of it -/

section
variable {bad : Bool} {first len b : RxByte} {rest : List RxByte} (sync : first.isSync = true)
include sync

theorem hunt_of_lastBad (least : 2 ≤ len.byte.toNat) (most : len.byte.toNat ≤ 250)
    (whole : rest.length + 2 = len.byte.toNat + 4)
    (spoilt : bad = true ∨ (∃ x ∈ len :: rest, x.errorMark = true)
      ∨ frameChecks ((first :: len :: rest).map (·.byte)) = false)
    (noSync : ∀ x ∈ len :: rest, x.isSync = false) :
    hunt false bad 0 (first :: len :: rest) = { checked := [], assembly := [], errors := 1 } := by
  have judged : judgeFrame bad (first :: len :: rest) = .badFrame := by
    rw [judgeFrame_of_whole least most whole]
    obtain rfl | ⟨x, mem, marked⟩ | wrong := spoilt
    · rfl
    · rw [if_pos]
      rw [Bool.or_eq_true, List.any_eq_true]
      exact .inr ⟨x, List.mem_cons_of_mem first mem, marked⟩
    · simp only [wrong, Bool.false_eq_true, if_false, ite_self]
  rw [hunt_of_badFrame sync judged, hunt_of_no_sync noSync]

theorem hunt_of_lastGood (least : 2 ≤ len.byte.toNat) (most : len.byte.toNat ≤ 250)
    (whole : rest.length + 2 = len.byte.toNat + 4) (clean : ∀ x ∈ len :: rest, x.errorMark = false)
    (checks : frameChecks ((first :: len :: rest).map (·.byte)) = true) :
    hunt false false 0 (first :: len :: rest)
      = { checked := [(first :: len :: rest).map (·.byte)], assembly := [], errors := 0 } := by
  have unmarked : (first :: len :: rest).any (·.errorMark) = false := by
    rw [List.any_eq_false]
    intro x mem
    rw [Bool.not_eq_true]
    obtain rfl | mem := List.mem_cons.mp mem
    · exact (x.isSync_iff.mp sync).2
    · exact clean x mem
  have judged := judgeFrame_of_whole (bad := false) (first := first) least most whole
  rw [unmarked, checks] at judged
  rw [hunt_of_good sync judged, hunt_of_skip (by simp only [List.length_cons]; omega),
    List.take_of_length_le (by simp only [List.length_cons]; omega)]

theorem hunt_of_joined {tail : List RxByte}
    (room : ∀ len, tail.head? = some len →
      2 ≤ len.byte.toNat ∧ len.byte.toNat ≤ 250 ∧ tail.length + 1 < len.byte.toNat + 4) :
    hunt false bad 0 (first :: tail) = { checked := [], assembly := first :: tail, errors := 0 } :=
  hunt_of_incomplete sync (judgeFrame_of_partial room)

end

/-! ### RX_BYTE -/

/-- Discards that count nothing leave the error count (R177). -/
theorem Lk.receive_uncounted {l : Lk} (range : l.linkErrors ≤ 65535) (rx : Rx) :
    l.receive (rx, 0) = { l with rx := rx } := by
  simp [Lk.receive, addLinkErrors, Nat.min_eq_left range]

section
variable {s : State} {b : Byte} {ending : CharacterEnd}

theorem exec_rxByte_in_break (inBreak : s.lk.rx.inBreak = true) : exec (.rxByte b ending) s = .next s := by
  simp [exec, execRxByte, inBreak]

variable (live : s.live = true) (noBreak : s.lk.rx.inBreak = false)
include live noBreak

theorem exec_rxByte :
    exec (.rxByte b ending) s
      = .next (s.setLk (s.lk.receive (s.lk.rx.take (receivedByte b ending)))) := by
  simp [exec, execRxByte, live, noBreak]

variable {x : RxByte} (received : receivedByte b ending = x)
include received

/-- A character that makes no error to count changes the receive side alone. -/
theorem exec_rxByte_of_take (range : s.lk.linkErrors ≤ 65535) {rx : Rx} (taken : s.lk.rx.take x = (rx, 0)) :
    exec (.rxByte b ending) s = .next { s with lk := { s.lk with rx := rx } } := by
  rw [exec_rxByte live noBreak, received, taken, Lk.receive_uncounted range]
  rfl

/-- A character at which the frame is discarded (R175, R177). -/
theorem exec_rxByte_of_discarded {errors : Nat} (room : s.lk.rx.count < 256) (started : s.lk.rx.assembly ≠ [])
    (discards : hunt false s.lk.rx.overflow 0 (s.lk.rx.assembly ++ [x])
      = { checked := [], assembly := [], errors := errors }) :
    ∃ t, exec (.rxByte b ending) s = .next t ∧ t.lk.rx.assembly = [] ∧ t.lk.rx.checked = s.lk.rx.checked
      ∧ t.lk.rx.rdy
          = (if (s.lk.rx.checked.map List.length).sum ≤ 64 then true
            else if 192 ≤ s.lk.rx.count + 1 then false else s.lk.rx.rdy)
      ∧ t.lk.linkErrors = min (s.lk.linkErrors + errors) 65535
      ∧ t = { s with lk := { s.lk with rx := t.lk.rx, linkErrors := t.lk.linkErrors } } := by
  refine ⟨_, exec_rxByte live noBreak, ?_⟩
  rw [received, Rx.take_of_discarded room started discards]
  exact ⟨rfl, rfl, rfl, rfl, rfl⟩

end

/-- Settles O49: a character with its mark, as the frame in assembly and the room in the buffer have it. -/
theorem charactersAreTaken : Obligations.CharactersAreTaken := by
  unfold Obligations.CharactersAreTaken
  intro s b ending mark marks live range
  have received : receivedByte b ending = { byte := b, errorMark := mark } := by
    have same : (receivedByte b ending).errorMark = mark :=
      Bool.eq_iff_iff.mpr ((receivedByte_errorMark b ending).trans marks.symm)
    rw [← same]
    rfl
  have notSync : b ≠ 0xC3 ∨ mark = true → ({ byte := b, errorMark := mark } : RxByte).isSync = false :=
    (RxByte.not_isSync_iff ⟨b, mark⟩).mpr
  refine ⟨exec_rxByte_in_break, fun noBreak hunting pass => ?_,
    fun noBreak hunting clean room sync unmarked => ?_, fun noBreak full => ?_,
    fun first noBreak hunting sync room outside pass => ?_,
    fun first len rest noBreak assembly sync room least most last spoilt pass noSync => ?_,
    fun first tail noBreak assembly sync room ahead => ?_,
    fun first len rest noBreak assembly sync room least most last unmarked clean noMark => ?_⟩
  · exact exec_rxByte_of_take live noBreak received range (Rx.take_of_passed hunting (notSync pass))
  · obtain rfl := sync
    obtain rfl := unmarked
    have joins := hunt_of_joined (bad := s.lk.rx.overflow) (first := ⟨0xC3, false⟩) (tail := []) rfl nofun
    rw [exec_rxByte_of_take live noBreak received range
      (Rx.take_of_joined room (.inr rfl) (by rw [hunting]; exact joins)), hunting]
    rfl
  · exact exec_rxByte_of_take live noBreak received range (Rx.take_of_full full)
  · have discards : hunt false s.lk.rx.overflow 0 (s.lk.rx.assembly ++ [⟨b, mark⟩])
        = { checked := [], assembly := [], errors := 0 } := by
      rw [hunting, List.singleton_append, hunt_of_badLen sync (judgeFrame_of_badLen outside)]
      exact hunt_of_no_sync (by simpa using notSync pass)
    obtain ⟨t, executed, empty, checked, rdy, errors, same⟩ :=
      exec_rxByte_of_discarded live noBreak received room (by simp [hunting]) discards
    rw [Nat.add_zero, Nat.min_eq_left range] at errors
    exact ⟨t, executed, empty, checked, errors, rdy, by rw [errors] at same; exact same⟩
  · refine exec_rxByte_of_discarded live noBreak received room (by simp [assembly]) ?_
    rw [assembly, List.cons_append, List.cons_append]
    refine hunt_of_lastBad sync least most (by simpa using last) ?_ ?_
    · obtain rfl | overflow | ⟨x, mem, marked⟩ := spoilt
      · exact .inr (.inl ⟨⟨b, true⟩, by simp, rfl⟩)
      · exact .inl overflow
      · exact .inr (.inl ⟨x, List.mem_append_left _ mem, marked⟩)
    · intro x mem
      rw [← List.cons_append, List.mem_append, List.mem_singleton] at mem
      obtain mem | rfl := mem
      · exact noSync x mem
      · exact notSync pass
  · have joins := hunt_of_joined (bad := s.lk.rx.overflow) (tail := tail ++ [⟨b, mark⟩]) sync
      (by simpa using ahead)
    rw [← List.cons_append, ← assembly] at joins
    exact exec_rxByte_of_take live noBreak received range
      (Rx.take_of_joined room (.inl (by simp [assembly])) joins)
  · obtain rfl := unmarked
    intro f covered
    have bytes : f = (first :: len :: (rest ++ [⟨b, false⟩])).map (·.byte) := by
      simp [f, assembly]
    have whole : (rest ++ [(⟨b, false⟩ : RxByte)]).length + 2 = len.byte.toNat + 4 := by simpa using last
    have started : s.lk.rx.assembly ≠ [] := by simp [assembly]
    refine ⟨fun agrees => ?_, fun differs pass noSync => ?_⟩
    · have checks : frameChecks f = true := decide_eq_true agrees
      rw [bytes] at checks
      have completes := hunt_of_lastGood sync least most whole (fun x mem => by
        rw [← List.cons_append, List.mem_append, List.mem_singleton] at mem
        obtain mem | rfl := mem
        · exact noMark x mem
        · rfl) checks
      rw [← List.cons_append, ← List.cons_append, ← assembly] at completes
      rw [exec_rxByte_of_take live noBreak received range (Rx.take_of_completed room started clean completes)]
    · have wrong : frameChecks f = false := decide_eq_false differs
      rw [bytes] at wrong
      refine exec_rxByte_of_discarded live noBreak received room started ?_
      rw [assembly, List.cons_append, List.cons_append]
      refine hunt_of_lastBad sync least most whole (.inr (.inr wrong)) fun x mem => ?_
      rw [← List.cons_append, List.mem_append, List.mem_singleton] at mem
      obtain mem | rfl := mem
      · exact noSync x mem
      · exact notSync (.inl pass)

/-! ### FRAME_GAP_TIMEOUT -/

section
variable {s : State} (live : s.live = true)
include live

theorem exec_frameGapTimeout (ended : s.lk.rx.gap = 0) :
    exec .frameGapTimeout s = .next (s.setLk (s.lk.receive s.lk.rx.gapOver)) := by
  simp [exec, execFrameGapTimeout, live, ended]

theorem exec_linkReset (noBreak : s.lk.rx.inBreak = false) : exec .linkReset s = .next (s.setLk s.lk.linkReset) := by
  simp [exec, execLinkReset, live, noBreak]

end

theorem RestartState.replyGone_eq (r : RestartState) :
    r.replyGone = if r = .awaitingReply then .due else r := by
  cases r <;> rfl

/-- Settles O50: a gap that has ended, by the hunt through what is left of the frame, and a break. -/
theorem gapsAndBreaks : Obligations.GapsAndBreaks := by
  unfold Obligations.GapsAndBreaks
  intro s live
  refine ⟨fun running => by simp [exec, execFrameGapTimeout, running], fun ended => ?_, fun ended range => ⟨?_, ?_⟩,
    fun noBreak => ?_, fun inBreak => by simp [exec, execLinkReset, inBreak], by simp [exec, execBreakEnd, live]; rfl⟩
  · exact ⟨_, exec_frameGapTimeout live ended, s.lk.rx.gapOver_assembly, s.lk.rx.gapOver_checked, rfl⟩
  · intro empty
    rw [exec_frameGapTimeout live ended, Rx.gapOver_of_empty empty, Lk.receive_uncounted range]
    rfl
  · intro first rest assembly sync ahead
    have hunted : hunt true s.lk.rx.overflow 0 s.lk.rx.assembly = hunt true false 0 rest := by
      rw [assembly, hunt_of_gapOver sync (judgeFrame_of_partial ahead)]
    have started : s.lk.rx.assembly ≠ [] := by simp [assembly]
    have executed := exec_frameGapTimeout live ended
    rw [Rx.gapOver_of_started started, hunted] at executed
    refine ⟨⟨_, executed, rfl, rfl⟩, fun noSync => ?_⟩
    rw [executed, hunt_of_no_sync noSync, Lk.receive_uncounted range]
    simp [Rx.afterHunt, Rx.count, rdyAfterLeaving, assembly, ended, State.setLk]
  · rw [exec_linkReset live noBreak, Lk.linkReset, RestartState.replyGone_eq]
    rfl

end Sys2Proof.Machine
end

section
/-! PROOF. What the operations make of the notice queues and the inbound buffer (R131, R175, R181, R182): a notice
joins a queue only where the queue has room for it. -/

namespace Sys2Proof.Machine

/-! ### What an operation keeps -/

/-- The bounds of the queues and of the inbound buffer pass from `s` to `t` (R175, R181). -/
def State.KeepsQueues (t s : State) : Prop := s.QueuesBounded → t.QueuesBounded

theorem State.KeepsQueues.refl (s : State) : s.KeepsQueues s := id

theorem State.KeepsQueues.trans {u t s : State} (hu : u.KeepsQueues t) (ht : t.KeepsQueues s) : u.KeepsQueues s :=
  hu ∘ ht

/-- An operation behind a test. -/
theorem State.KeepsQueues.ite {u t s : State} {b : Prop} [Decidable b] (ht : t.KeepsQueues s)
    (hu : u.KeepsQueues t) : (if b then u else t).KeepsQueues s := by
  split
  · exact hu.trans ht
  · exact ht

theorem State.KeepsQueues.foldl {α : Type} {f : State → α → State} (hf : ∀ s a, (f s a).KeepsQueues s) (s : State)
    (as : List α) : (as.foldl f s).KeepsQueues s := by
  induction as generalizing s with
  | nil => exact .refl s
  | cons a as ih => exact (ih (f s a)).trans (hf s a)

/-- An operation that leaves the link. -/
theorem State.KeepsQueues.of_lk {t s : State} (lk : t.lk = s.lk) : t.KeepsQueues s := fun h => by
  rwa [State.QueuesBounded, lk]

theorem State.KeepsQueues.commit {t s : State} (h : t.KeepsQueues s) : t.commit.KeepsQueues s :=
  (State.KeepsQueues.of_lk t.commit_lk).trans h

/-! ### Notices that join a queue -/

/-- A notice joins the event queue where it has room (R131, R182). -/
theorem State.KeepsQueues.of_pushed {t s : State} (room : s.lk.eventRoom = true) (n : EventNotice)
    (events : t.lk.events = s.lk.events ++ [n]) (outcomes : t.lk.outcomes = s.lk.outcomes)
    (traces : t.lk.traces = s.lk.traces) (rx : t.lk.rx = s.lk.rx) : t.KeepsQueues s := by
  rintro ⟨-, hOutcomes, hTraces, hRx⟩
  have places : s.lk.events.length < queuePlaces := of_decide_eq_true room
  rw [State.QueuesBounded, events, outcomes, traces, rx, List.length_append, List.length_singleton]
  exact ⟨places, hOutcomes, hTraces, hRx⟩

theorem State.announceMode_keepsQueues (s : State) : s.announceMode.KeepsQueues s := by
  unfold State.announceMode
  split
  next room => exact .of_pushed room s.modeNotice rfl rfl rfl rfl
  · exact id

theorem State.announceCheckpoint_keepsQueues (s : State) : s.announceCheckpoint.KeepsQueues s := by
  unfold State.announceCheckpoint
  split
  next room => exact .of_pushed room s.checkpointNotice rfl rfl rfl rfl
  · exact id

theorem State.announceRestore_keepsQueues (s : State) : s.announceRestore.KeepsQueues s := by
  unfold State.announceRestore
  split
  next room => exact .of_pushed room (.restored s.ck.restored) rfl rfl rfl rfl
  · exact id

theorem State.serveCase_lk (s : State) (c : Case) :
    (s.serveCase c).lk = s.lk.pushEvent (.ofCase { c with announce := false }) := by
  unfold State.serveCase
  extract_lets q
  split <;> rfl

theorem State.announceCase_keepsQueues (s : State) (c : Case) : (s.announceCase c).KeepsQueues s := by
  unfold State.announceCase
  split
  next room =>
    refine .of_pushed room (.ofCase { c with announce := false }) ?_ ?_ ?_ ?_
    all_goals rw [State.serveCase_lk]; rfl
  · exact id

theorem State.fillFreed_keepsQueues (s : State) : s.fillFreed.KeepsQueues s := by
  unfold State.fillFreed
  repeat' split
  · exact s.announceRestore_keepsQueues
  · exact s.announceMode_keepsQueues
  · exact s.announceCheckpoint_keepsQueues
  · exact s.announceCase_keepsQueues _
  · exact .refl s

theorem State.traceSample_keepsQueues (z : Zone) (r : Quad Reading) (s : State) :
    (s.traceSample z r).KeepsQueues s := by
  by_cases selected : s.lk.traceZone = some z
  · rw [State.traceSample_of_selected selected, Lk.trace_eq]
    rintro ⟨events, outcomes, traces, rx⟩
    split
    next room => exact ⟨events, outcomes, by simpa [queuePlaces, Nat.succ_le_iff] using room, rx⟩
    · exact ⟨events, outcomes, traces, rx⟩
  · rw [State.traceSample_of_not_selected selected]
    exact .refl s

theorem drainScan_room (room : Nat) (q : List Rack) : (drainScan room q).2.length ≤ room := by
  induction room generalizing q with
  | zero => exact le_rfl
  | succ room ih =>
    cases q with
    | nil => exact Nat.zero_le _
    | cons r rs =>
      simp only [drainScan]
      split
      · exact Nat.succ_le_succ (ih rs)
      · exact Nat.zero_le _

/-- The drain gives the outcome queue no more notices than it has places for (R73). -/
theorem State.drainRacks_keepsQueues (s : State) : s.drainRacks.KeepsQueues s := by
  rintro ⟨events, outcomes, traces, rx⟩
  have taken := drainScan_room (queuePlaces - s.lk.outcomes.length) s.rt.queue
  rw [State.QueuesBounded, State.drainRacks_lk]
  refine ⟨events, ?_, traces, rx⟩
  rw [List.length_append, State.drained]
  omega

theorem State.flush_keepsQueues (reason : FlushReason) (s : State) : (s.flush reason).KeepsQueues s :=
  (State.drainRacks_keepsQueues _).trans (.of_lk rfl)

theorem State.testExits_keepsQueues (s : State) : s.testExits.KeepsQueues s :=
  (State.drainRacks_keepsQueues _).trans (.of_lk rfl)

theorem State.entryEvent_keepsQueues (s : State) : s.entryEvent.KeepsQueues s := .of_lk s.entryEvent_lk

/-! ### The Case Manager and the mode -/

theorem State.evaluateSuspension_keepsQueues (s : State) : s.evaluateSuspension.KeepsQueues s :=
  State.evaluateSuspension_induct (P := fun t => t.KeepsQueues s) (fun _ _ h => h) (fun _ _ h => h)
    (fun t c h => (t.announceCase_keepsQueues c).trans h) (.refl s)

theorem State.alterCase_keepsQueues (s : State) (old new : Case) : (s.alterCase old new).KeepsQueues s := by
  unfold State.alterCase
  extract_lets entered s1 s2 s3 s4 s5 s6
  have h2 : s2.KeepsQueues s := .of_lk (State.linkGainedPumps_lk s1 _ _)
  have h3 : s3.KeepsQueues s := h2.ite id
  have h4 : s4.KeepsQueues s := .trans (.of_lk (State.addMarkers_lk s3 _ _)) h3
  have h5 : s5.KeepsQueues s := h4.ite id
  have h6 : s6.KeepsQueues s := h5.ite (s5.announceCase_keepsQueues new)
  exact h6.ite id

theorem State.settleAfter_keepsQueues (s : State) (old new : Case) : (s.settleAfter old new).KeepsQueues s :=
  (State.KeepsQueues.refl s).ite s.evaluateSuspension_keepsQueues

theorem State.changeCase_keepsQueues (s : State) (old new : Case) : (s.changeCase old new).KeepsQueues s :=
  (State.settleAfter_keepsQueues _ old new).trans (s.alterCase_keepsQueues old new)

theorem State.resolveCase_keepsQueues (s : State) (c : Case) : (s.resolveCase c).KeepsQueues s :=
  State.changeCase_keepsQueues (s.removeMarkers c.id) c c.resolve

theorem State.advanceCase_keepsQueues (s : State) (old new : Case) : (s.advanceCase old new).KeepsQueues s := by
  unfold State.advanceCase
  split
  · exact State.alterCase_keepsQueues (s.removeMarkers old.id) old new
  · exact s.alterCase_keepsQueues old new

theorem State.enterMode_keepsQueues (m : Mode) (cause : HaltCause) (s : State) :
    (s.enterMode m cause).KeepsQueues s := by
  unfold State.enterMode
  extract_lets leavesRun pmc q1 q2 q3
  have h2 : q2.KeepsQueues s := State.KeepsQueues.ite (t := q1) id id
  exact q3.announceMode_keepsQueues.trans h2

theorem State.changeMode_keepsQueues (m : Mode) (cause : HaltCause) (s : State) :
    (s.changeMode m cause).KeepsQueues s :=
  (State.evaluateSuspension_keepsQueues _).trans (s.enterMode_keepsQueues m cause)

theorem State.enterHalt_keepsQueues (cause : HaltCause) (s : State) : (s.enterHalt cause).KeepsQueues s := by
  unfold State.enterHalt
  split
  · exact .refl s
  · exact .refl s
  · exact s.enterMode_keepsQueues .halt cause

theorem State.automaticHalt_keepsQueues (cause : HaltCause) (s : State) :
    (s.automaticHalt cause).KeepsQueues s := by
  unfold State.automaticHalt
  split
  · exact .refl s
  · exact .refl s
  · exact s.changeMode_keepsQueues .halt cause

theorem State.openCase_keepsQueues (s : State) (d : Detection) : (s.openCase d).KeepsQueues s := by
  unfold State.openCase
  extract_lets id bare new cm s1 s2 s3 s4 s5 s6 s7
  have h2 : s2.KeepsQueues s := s1.evaluateSuspension_keepsQueues
  have h4 : s4.KeepsQueues s := .trans (.of_lk (State.linkGainedPumps_lk s3 _ _)) h2
  have h5 : s5.KeepsQueues s := h4.ite fun h => h
  have h6 : s6.KeepsQueues s := h5.ite fun h => h
  have h7 : s7.KeepsQueues s := .trans (.of_lk (State.addMarkers_lk s6 _ _)) h6
  exact (s7.announceCase_keepsQueues new).trans h7

theorem State.detect_keepsQueues (s : State) (d : Detection) : (s.detect d).KeepsQueues s := by
  unfold State.detect
  split
  · exact s.changeCase_keepsQueues _ _
  · split
    · exact s.openCase_keepsQueues d
    · exact s.automaticHalt_keepsQueues _

theorem State.detectEvent_keepsQueues (s : State) (d : Detection) : (s.detectEvent d).KeepsQueues s :=
  (s.detect_keepsQueues d).commit

/-! ### The round and the travel event -/

theorem State.caseSample_keepsQueues (z : Zone) (rec : ZoneRecord) (lines : Lines) (r : Quad Reading) (s : State)
    (id : Nat) : (s.caseSample z rec lines r id).KeepsQueues s := by
  unfold State.caseSample
  split
  · exact .refl s
  next c _ =>
    split
    · exact .refl s
    · extract_lets n q
      have halted := (s.advanceCase_keepsQueues c n.1).ite (b := n.2) (q.enterHalt_keepsQueues .unisolatedHeat)
      exact ((State.settleAfter_keepsQueues _ c n.1).trans halted).commit

theorem State.managerSample_keepsQueues (z : Zone) (lines : Lines) (r : Quad Reading) (ds : List Detection)
    (first : Nat) (ids : List Nat) (s : State) : (s.managerSample z lines r ds first ids).KeepsQueues s := by
  have cases : ∀ s : State, (s.casesSample z lines r ids).KeepsQueues s := fun s => by
    unfold State.casesSample
    split
    · exact .refl s
    · exact .foldl (State.caseSample_keepsQueues z _ lines r) s ids
  exact (State.KeepsQueues.foldl State.detectEvent_keepsQueues _ _).trans
    ((cases _).trans (.foldl State.detectEvent_keepsQueues s _))

/-- The Dose Unit leaves the link (R85). -/
theorem State.finalSample_lk (z : Zone) (lines : Lines) (r : Quad Reading) (s : State) :
    (s.finalSample z lines r).lk = s.lk := by
  have dose : (s.doseSample z lines r).lk = s.lk := by
    simp only [State.doseSample]
    split <;> rfl
  have dwell : ∀ t : State, (t.dwellSample z).lk = t.lk := fun t => by
    simp only [State.dwellSample]
    repeat' split
    all_goals rfl
  simp only [State.finalSample]
  repeat' split
  · rfl
  · rw [dwell, dose]
  · exact dose
  · rfl

theorem State.zoneSample_keepsQueues (codes : Quad Nat) (order : ZoneOrder) (z : Zone) (s : State) :
    (s.zoneSample codes order z).KeepsQueues s := by
  unfold State.zoneSample
  extract_lets conv r lines ids smp s1 s2 f s3
  have h1 : (s1.contactSample z lines r).KeepsQueues s := (State.KeepsQueues.refl s1).ite id
  have h2 : s2.KeepsQueues s := .trans (.of_lk (State.finalSample_lk z lines r _)) h1
  have detected : f.1.KeepsQueues s2 := by
    simp only [f, State.detectorSample]
    split
    · exact id
    · exact id
  have h3 : s3.KeepsQueues s := (f.1.traceSample_keepsQueues z r).trans (detected.trans h2)
  split
  · exact (State.managerSample_keepsQueues z lines r f.2 _ ids (s3.guardSample z r)).trans h3
  · exact (State.managerSample_keepsQueues z lines r f.2 _ ids s3).trans h3

theorem State.sampleRound_keepsQueues (input : RoundInput) (s : State) : (s.sampleRound input).KeepsQueues s := by
  have pan : ∀ (before : Smp) (s : State), (s.panEvent before).KeepsQueues s := fun _ s =>
    (State.KeepsQueues.refl s).ite (s.detectEvent_keepsQueues .leakPan)
  have eye : ∀ (before : Smp) (s : State), (s.eyeEvent before).KeepsQueues s := fun _ s =>
    (State.KeepsQueues.refl s).ite s.entryEvent_keepsQueues.commit
  have debounced : (s.setSmp (s.smp.debounced input)).KeepsQueues s := .of_lk rfl
  have inputs : (s.inputsTaken input).KeepsQueues s := by
    simp only [State.inputsTaken]
    split
    · exact (pan _ _).trans ((eye _ _).trans debounced)
    · exact (eye _ _).trans ((pan _ _).trans debounced)
  rw [State.sampleRound_eq]
  exact (State.KeepsQueues.foldl (fun s z => State.zoneSample_keepsQueues _ _ z s) _ _).trans inputs

theorem State.pulse_keepsQueues (trackerFirst : Bool) (s : State) : (s.pulse trackerFirst).KeepsQueues s := by
  have detectors : ∀ s : State, s.pulseDetectors.KeepsQueues s := fun s => by
    obtain ⟨-, same⟩ | same | ⟨c, -, same⟩ := s.pulseDetectors_cases
    · rw [same]; exact .refl s
    · rw [same]; exact id
    · rw [same]; exact State.resolveCase_keepsQueues s.silenceRestarted c
  rw [State.pulse_eq]
  split
  · exact ((detectors _).trans (State.testExits_keepsQueues s.moved)).commit
  · exact ((State.testExits_keepsQueues _).trans (detectors s.moved)).commit

/-! ### Expiries and checkpoint writes -/

theorem State.silenceExpiry_keepsQueues (s : State) : s.silenceExpiry.KeepsQueues s := by
  unfold State.silenceExpiry
  split
  · exact (State.detectEvent_keepsQueues _ .travel).trans (.of_lk rfl)
  · exact .refl s

theorem State.dwellExpiry_keepsQueues (s : State) : s.dwellExpiry.KeepsQueues s := by
  unfold State.dwellExpiry
  split
  · exact id
  · exact .refl s

/-- A step timer that expires makes a change of its case, and the event is over (R134). -/
theorem State.caseExpiry_keepsQueues (s : State) (due : Option Case) (next : Case → Case) :
    (match due with
      | some c => (s.changeCase c (next c)).commit
      | none => s).KeepsQueues s := by
  split
  · exact (s.changeCase_keepsQueues _ _).commit
  · exact .refl s

theorem State.leakVerifyExpiry_keepsQueues (s : State) : s.leakVerifyExpiry.KeepsQueues s := by
  unfold State.leakVerifyExpiry
  split
  · exact (State.resolveCase_keepsQueues s.startLeakWatch _).commit
  · exact .refl s

theorem State.verifyComplete_keepsQueues (s : State) : s.verifyComplete.KeepsQueues s := by
  unfold State.verifyComplete
  repeat' split
  · simp only [State.writeVerified]
    repeat' split
    · exact (State.announceCheckpoint_keepsQueues _).trans (.of_lk rfl)
    · exact .trans (.of_lk (State.startWrite_lk _)) (.of_lk rfl)
    · exact id
  · simp only [State.writeFailed]
    split
    · exact id
    · exact (State.announceCheckpoint_keepsQueues _).trans (.of_lk rfl)
  · exact .refl s

end Sys2Proof.Machine
end

section
/-! PROOF. Every command keeps the notice queues at 16 notices each and the inbound buffer at 256 bytes (R175,
R181). -/

namespace Sys2Proof.Machine

/-! ### The owners of the requests -/

theorem modeTable_keepsQueues (target : Mode) (force : Bool) (s : State) :
    (modeTable target force s).1.KeepsQueues s := by
  have changed : ∀ m cause, (s.changeMode m cause).KeepsQueues s := fun m cause => s.changeMode_keepsQueues m cause
  have prepare : (modePrepareFromStandby s).1.KeepsQueues s := by
    unfold modePrepareFromStandby
    split
    · exact .refl s
    · exact changed .prepare .none
  have run : (modeRunFromPrepare s).1.KeepsQueues s := by
    unfold modeRunFromPrepare
    repeat' split
    · exact .refl s
    · exact .refl s
    · exact (changed .run .none).ite (State.entryEvent_keepsQueues _)
  have standby : (modeStandby force s).1.KeepsQueues s := by
    unfold modeStandby
    repeat' split
    · exact (State.changeMode_keepsQueues _ _ _).trans (s.flush_keepsQueues _)
    · exact .refl s
    · exact changed .standby .none
  unfold modeTable
  split
  · exact .refl s
  · exact prepare
  · exact .refl s
  · exact standby
  · exact .refl s
  · exact run
  · exact standby
  · exact changed .prepare .none
  · exact .refl s
  · exact changed .halt .requested
  · exact changed .halt .requested
  · exact changed .halt .requested
  · exact .refl s

theorem modeRequest_keepsQueues (p : List Byte) (s : State) : (modeRequest p s).1.KeepsQueues s := by
  unfold modeRequest
  repeat' split
  · exact .refl s
  · exact .refl s
  · exact .refl s
  · exact modeTable_keepsQueues _ _ s

theorem haltClearRequest_keepsQueues (p : List Byte) (s : State) : (haltClearRequest p s).1.KeepsQueues s := by
  unfold haltClearRequest
  split
  · exact (State.changeMode_keepsQueues _ _ _).trans (s.flush_keepsQueues _)
  · exact .refl s

theorem caseClearRequest_keepsQueues (p : List Byte) (s : State) : (caseClearRequest p s).1.KeepsQueues s := by
  unfold caseClearRequest
  repeat' split
  · exact .refl s
  · exact s.resolveCase_keepsQueues _
  · exact s.resolveCase_keepsQueues _
  · exact .refl s

theorem caseRetryRequest_keepsQueues (p : List Byte) (s : State) : (caseRetryRequest p s).1.KeepsQueues s := by
  unfold caseRetryRequest
  repeat' split
  · exact .refl s
  · exact .refl s
  next c _ _ c' _ =>
    exact .trans (.of_lk (State.retryLinks_lk _ c')) (State.changeCase_keepsQueues (s.removeMarkers c.id) c c')

/-! The loads and the zones' service leave the link; TRACE and RESTART leave its queues and its buffer. -/

theorem zoneLoadRequest_lk (p : List Byte) (s : State) : (zoneLoadRequest p s).1.lk = s.lk := by
  simp only [zoneLoadRequest]
  repeat' split
  all_goals rfl

theorem chanLoadRequest_lk (p : List Byte) (s : State) : (chanLoadRequest p s).1.lk = s.lk := by
  simp only [chanLoadRequest]
  repeat' split
  · rfl
  · rfl
  · rfl
  · rw [State.writeCalibration_eq]
    obtain ⟨-, -, -, -, -, -, -, lk, -⟩ := State.guardLoaded_frame (s.calibrated _ _ _) _ _
    exact lk

theorem limitsLoadRequest_lk (p : List Byte) (s : State) : (limitsLoadRequest p s).1.lk = s.lk := by
  simp only [limitsLoadRequest]
  split <;> rfl

theorem zoneOnRequest_lk (p : List Byte) (s : State) : (zoneOnRequest p s).1.lk = s.lk := by
  simp only [zoneOnRequest]
  repeat' split
  all_goals rfl

theorem zoneOffRequest_lk (p : List Byte) (s : State) : (zoneOffRequest p s).1.lk = s.lk := by
  simp only [zoneOffRequest]
  repeat' split
  · rfl
  · rfl
  · rfl
  · exact s.takeOff_lk _

theorem traceRequest_keepsQueues (p : List Byte) (s : State) : (traceRequest p s).1.KeepsQueues s := by
  simp only [traceRequest]
  repeat' split
  · exact id
  · exact id
  · exact id

/-! ### Requests -/

/-- The bytes of a request leave the buffer, and its reply is placed in its slot (R175, R180). -/
theorem State.dropRequest_keepsQueues (s : State) : s.dropRequest.KeepsQueues s := by
  rintro ⟨events, outcomes, traces, rx⟩
  exact ⟨events, outcomes, traces, s.lk.rx.dropHead_count.trans rx⟩

theorem takeRequest_keepsQueues {owner : List Byte → State → Answered} (h : ∀ p s, (owner p s).1.KeepsQueues s)
    (kind length : Nat) (inStarting : Bool) (s : State) :
    (takeRequest kind length inStarting owner s).KeepsQueues s := by
  have handled : ∀ p, (s.dropRequest.handle length inStarting owner p).1.KeepsQueues s := fun p => by
    unfold State.handle
    repeat' split
    · exact s.dropRequest_keepsQueues
    · exact s.dropRequest_keepsQueues
    · exact (h p _).trans s.dropRequest_keepsQueues
  unfold takeRequest
  split
  · exact .refl s
  next r _ =>
    split
    · exact State.KeepsQueues.commit (t := State.answer _ r _) (handled r.payload)
    · exact .refl s

/-- A request that reports leaves the state. -/
theorem takeRequest_keepsQueues_of_report {owner : List Byte → State → Answered} (h : ∀ p s, (owner p s).1 = s)
    (kind length : Nat) (inStarting : Bool) (s : State) :
    (takeRequest kind length inStarting owner s).KeepsQueues s :=
  takeRequest_keepsQueues (fun p s => by rw [h]; exact .refl s) kind length inStarting s

/-! ### The link, resets and time -/

/-- A change of the receive side keeps to the places of the buffer (R175). -/
theorem State.received_keepsQueues (s : State) {r : Rx × Nat} (count : s.lk.rx.count ≤ 256 → r.1.count ≤ 256) :
    (s.setLk (s.lk.receive r)).KeepsQueues s := by
  rintro ⟨events, outcomes, traces, rx⟩
  exact ⟨events, outcomes, traces, count rx⟩

theorem State.linkReset_keepsQueues (s : State) : (s.setLk s.lk.linkReset).KeepsQueues s := by
  rintro ⟨events, outcomes, traces, -⟩
  exact ⟨events, outcomes, traces, Nat.zero_le _⟩

/-- The arbiter leaves the queues and the buffer (R181). -/
theorem State.boundary_keepsQueues (s : State) : (s.setLk s.lk.boundary).KeepsQueues s := by
  unfold Lk.boundary
  split
  · exact id
  · exact id

/-- The notice that has been sent leaves its queue (R181, R183). -/
theorem State.eventSent_keepsQueues (s : State) :
    (s.setLk { s.lk with tx := .idle, events := s.lk.events.tail }).KeepsQueues s := by
  rintro ⟨events, outcomes, traces, rx⟩
  exact ⟨(List.tail_sublist _).length_le.trans events, outcomes, traces, rx⟩

theorem State.outcomeSent_keepsQueues (s : State) :
    (s.setLk { s.lk with tx := .idle, outcomes := s.lk.outcomes.tail,
                         outcomesSent := s.lk.outcomesSent + 1 }).KeepsQueues s := by
  rintro ⟨events, outcomes, traces, rx⟩
  exact ⟨events, (List.tail_sublist _).length_le.trans outcomes, traces, rx⟩

theorem State.traceSent_keepsQueues (s : State) :
    (s.setLk { s.lk with tx := .idle, traces := s.lk.traces.tail }).KeepsQueues s := by
  rintro ⟨events, outcomes, traces, rx⟩
  exact ⟨events, outcomes, (List.tail_sublist _).length_le.trans traces, rx⟩

theorem State.startingEnd_keepsQueues (s : State) : s.startingEnd.KeepsQueues s := by
  unfold State.startingEnd
  extract_lets q
  have restored : s.restore.announceRestore.KeepsQueues s :=
    s.restore.announceRestore_keepsQueues.trans (.of_lk s.restore_lk)
  have entered : q.KeepsQueues s :=
    (State.changeMode_keepsQueues .standby .none _).trans ((State.drainRacks_keepsQueues _).trans restored)
  exact (entered.ite q.announceCheckpoint_keepsQueues).commit

theorem State.endReset_keepsQueues (cause : ResetCause) (strap : Baud) (s : State) :
    (s.endReset cause strap).KeepsQueues s :=
  fun _ => ⟨Nat.zero_le _, Nat.zero_le _, Nat.zero_le _, Nat.zero_le _⟩

theorem State.tick_keepsQueues (s : State) : s.tick.KeepsQueues s := by
  unfold State.tick
  split
  · exact id
  · exact id

/-! ### Commands -/

/-- A command that does something, where its test holds, or nothing. -/
theorem keepsQueues_ite {t s : State} {b : Prop} [Decidable b] (h : t.KeepsQueues s) :
    (if b then t else s).KeepsQueues s := by
  split
  · exact h
  · exact .refl s

theorem keepsQueues_branch {t u s : State} (b : Prop) [Decidable b] (ht : t.KeepsQueues s) (hu : u.KeepsQueues s) :
    (if b then t else u).KeepsQueues s := by
  split
  · exact ht
  · exact hu

theorem exec_keepsQueues : ∀ (c : Instr) {s t : State}, exec c s = .next t → t.KeepsQueues s
  | .powerReset _, s, _, rfl => keepsQueues_branch _ id (s.endReset_keepsQueues _ _)
  | .pinReset _, s, _, rfl => keepsQueues_branch _ id (s.endReset_keepsQueues _ _)
  | .performRestart _, s, _, rfl => keepsQueues_ite (s.endReset_keepsQueues _ _)
  | .startingEnd, s, _, rfl => keepsQueues_ite s.startingEnd_keepsQueues
  | .linkReset, s, _, rfl => keepsQueues_ite s.linkReset_keepsQueues
  | .rxByte _ _, s, _, rfl => keepsQueues_ite (s.received_keepsQueues fun h => Rx.take_count h _)
  | .frameGapTimeout, s, _, rfl => keepsQueues_ite (s.received_keepsQueues s.lk.rx.gapOver_count.trans)
  | .unknownKind, s, _, rfl => by
    repeat' split
    · exact .refl s
    · exact .refl s
    · exact s.dropRequest_keepsQueues
  | .ident, _, _, rfl => takeRequest_keepsQueues_of_report (fun _ _ => rfl) _ _ _ _
  | .status, _, _, rfl => takeRequest_keepsQueues_of_report (fun _ _ => rfl) _ _ _ _
  | .mode, _, _, rfl => takeRequest_keepsQueues modeRequest_keepsQueues _ _ _ _
  | .zoneLoad, _, _, rfl => takeRequest_keepsQueues (fun p s => .of_lk (zoneLoadRequest_lk p s)) _ _ _ _
  | .chanLoad, _, _, rfl => takeRequest_keepsQueues (fun p s => .of_lk (chanLoadRequest_lk p s)) _ _ _ _
  | .limitsLoad, _, _, rfl => takeRequest_keepsQueues (fun p s => .of_lk (limitsLoadRequest_lk p s)) _ _ _ _
  | .zoneOn, _, _, rfl => takeRequest_keepsQueues (fun p s => .of_lk (zoneOnRequest_lk p s)) _ _ _ _
  | .zoneOff, _, _, rfl => takeRequest_keepsQueues (fun p s => .of_lk (zoneOffRequest_lk p s)) _ _ _ _
  | .zoneRead, _, _, rfl => takeRequest_keepsQueues_of_report zoneReadRequest_state _ _ _ _
  | .linesRead, _, _, rfl => takeRequest_keepsQueues_of_report linesReadRequest_state _ _ _ _
  | .racksRead, _, _, rfl => takeRequest_keepsQueues_of_report racksReadRequest_state _ _ _ _
  | .caseRead, _, _, rfl => takeRequest_keepsQueues_of_report caseReadRequest_state _ _ _ _
  | .caseClear, _, _, rfl => takeRequest_keepsQueues caseClearRequest_keepsQueues _ _ _ _
  | .caseRetry, _, _, rfl => takeRequest_keepsQueues caseRetryRequest_keepsQueues _ _ _ _
  | .haltClear, _, _, rfl => takeRequest_keepsQueues haltClearRequest_keepsQueues _ _ _ _
  | .trace, _, _, rfl => takeRequest_keepsQueues traceRequest_keepsQueues _ _ _ _
  | .restart, _, _, rfl => takeRequest_keepsQueues (fun _ _ => id) _ _ _ _
  | .requestInputChange line on, s, t, h => by
    simp only [exec, execRequestInputChange] at h
    split at h
    · cases h
    · cases h
      exact keepsQueues_branch _ (.of_lk rfl) (.of_lk rfl)
  | .holdChange _, s, _, rfl => id
  | .transmitStart, s, _, rfl => keepsQueues_ite s.boundary_keepsQueues
  | .replySent, s, _, rfl => keepsQueues_ite id
  | .eventNoticeSent, s, _, rfl => keepsQueues_ite
    ((State.fillFreed_keepsQueues _).trans s.eventSent_keepsQueues).commit
  | .outcomeNoticeSent, s, _, rfl => keepsQueues_ite
    ((State.drainRacks_keepsQueues _).trans s.outcomeSent_keepsQueues).commit
  | .traceNoticeSent, s, _, rfl => keepsQueues_ite s.traceSent_keepsQueues
  | .sampleRound input, s, t, h => by
    simp only [exec, execSampleRound] at h
    split at h
    · cases h
    · cases h
      exact keepsQueues_ite (s.sampleRound_keepsQueues input)
  | .encoderPulse _ _, s, _, rfl => keepsQueues_ite (s.pulse_keepsQueues _)
  | .eraseComplete, s, _, rfl => keepsQueues_ite id
  | .programComplete _, s, _, rfl => keepsQueues_ite id
  | .verifyComplete, s, _, rfl => keepsQueues_ite s.verifyComplete_keepsQueues
  | .dwellExpiry, s, _, rfl => keepsQueues_ite s.dwellExpiry_keepsQueues
  | .leakWindowExpiry _, s, _, rfl => keepsQueues_ite id
  | .encoderSilenceExpiry, s, _, rfl => keepsQueues_ite s.silenceExpiry_keepsQueues
  | .localiseExpiry, s, _, rfl => keepsQueues_ite (s.caseExpiry_keepsQueues _ _)
  | .drainTimeoutExpiry, s, _, rfl => keepsQueues_ite (s.caseExpiry_keepsQueues _ _)
  | .leakVerifyExpiry, s, _, rfl => keepsQueues_ite s.leakVerifyExpiry_keepsQueues
  | .leakWatchExpiry, s, _, rfl => keepsQueues_ite id
  | .purgeExpiry _, s, _, rfl => keepsQueues_ite (s.caseExpiry_keepsQueues _ _)
  | .refillExpiry _, s, _, rfl => keepsQueues_ite (s.caseExpiry_keepsQueues _ _)
  | .powerLost, _, _, rfl => id
  | .resetPinAsserted, _, _, rfl => id
  | .breakEnd, s, _, rfl => keepsQueues_ite id

/-- Settles O53: a millisecond leaves the queues and the buffer, and every command keeps them. -/
theorem queuesStayBounded : Obligations.QueuesStayBounded := by
  unfold Obligations.QueuesStayBounded
  intro s t bounded h
  unfold step at h
  split at h
  · cases h
    exact s.tick_keepsQueues bounded
  · exact exec_keepsQueues _ h bounded

end Sys2Proof.Machine
end

section
/-! PROOF. TRANSMIT_START, HOLD_CHANGE and TX (R173, R181, R184), and the payloads of the notices (R196 to R198). -/

namespace Sys2Proof.Machine

/-! ### The transmitter -/

theorem State.powered_of_live {s : State} (live : s.live = true) : s.powered = true :=
  (Bool.and_eq_true_iff.mp live).1

theorem characterLevels_eq (b : Byte) :
    characterLevels b
      = [false, b.getLsbD 0, b.getLsbD 1, b.getLsbD 2, b.getLsbD 3, b.getLsbD 4, b.getLsbD 5, b.getLsbD 6,
          b.getLsbD 7, parityBit b, true] := rfl

section
variable {s : State} (live : s.live = true)
include live

/-- TX of a part that runs goes through the levels of its transmitter (R173, R199). -/
theorem State.txPin_of_live : s.txPin = s.lk.tx.levels := if_pos (State.powered_of_live live)

theorem exec_transmitStart : exec .transmitStart s = .next (s.setLk s.lk.boundary) := by
  simp [exec, execTransmitStart, live]

/-- With HOLD active or a frame being sent no frame starts (R181). -/
theorem exec_transmitStart_of_busy (busy : s.lk.hold = true ∨ s.lk.tx ≠ .idle) :
    exec .transmitStart s = .next s := by
  have same : s.lk.boundary = s.lk := by
    unfold Lk.boundary
    split
    next idle hold _ => simp [idle, hold] at busy
    · rfl
  rw [exec_transmitStart live, same]
  rfl

/-- With nothing to send no frame starts (R181). -/
theorem exec_transmitStart_of_none (none : s.lk.choose = none) : exec .transmitStart s = .next s := by
  have same : s.lk.boundary = s.lk := by
    unfold Lk.boundary
    split
    next some => simp [none] at some
    · rfl
  rw [exec_transmitStart live, same]
  rfl

/-- With the line idle and HOLD inactive the arbiter starts the frame it chooses (R181). -/
theorem exec_transmitStart_of_chosen (hold : s.lk.hold = false) (idle : s.lk.tx = .idle) {source : TxSource}
    {f : List Byte} (chosen : s.lk.choose = some (source, f)) :
    exec .transmitStart s
      = .next { s with
          lk := { s.lk with
            tx := .sending source f, traceGap := if source = .trace then false else s.lk.traceGap } } := by
  rw [exec_transmitStart live]
  have starts : s.lk.boundary = s.lk.start (source, f) := by simp only [Lk.boundary, idle, hold, chosen]
  rw [starts]
  rfl

end

/-! ### Payloads -/

/-- A flag of a sum of flags stands for its own number (R189). -/
theorem mul_toNat_eq_ite (n : Nat) (b : Bool) : n * b.toNat = if b then n else 0 := by
  cases b <;> simp

/-- The reasons of an outcome as one byte (R189). -/
theorem Reasons.byte_eq (m : Reasons) :
    m.byte
      = Machine.byte ((if m.contactShort then 1 else 0) + (if m.doseShort then 2 else 0)
          + (if m.dwellExpired then 4 else 0) + (if m.caseHold then 8 else 0)
          + (if m.trackLost then 16 else 0) + (if m.carried then 32 else 0)
          + (if m.standbyFlush then 64 else 0) + (if m.haltFlush then 128 else 0)) := by
  have first : m.contactShort.toNat = if m.contactShort then 1 else 0 := by
    rw [← mul_toNat_eq_ite, Nat.one_mul]
  simp only [Reasons.byte, first, mul_toNat_eq_ite]

theorem linkBytes_eq (links : List Nat) :
    linkBytes links
      = [byte (links.getD 0 0), byte (links.getD 1 0), byte (links.getD 2 0), byte (links.getD 3 0)] := rfl

/-- Settles O51: HOLD, TX, the payloads, and the arbiter by what waits first. -/
theorem transmitterObeysHold : Obligations.TransmitterObeysHold := by
  unfold Obligations.TransmitterObeysHold
  refine ⟨fun _ _ => rfl, fun s live => ⟨fun idle => ?_, fun src f sending => ?_⟩, fun e => ⟨?_, ?_⟩, fun o => ?_,
    fun n gap => ?_, fun s live => ⟨exec_transmitStart_of_busy live, fun reply events outcomes traces => ?_,
      fun hold idle => ⟨fun r reply => ?_, fun e es reply events => ?_, fun o os reply events outcomes => ?_,
        fun n ns reply events outcomes traces => ?_⟩⟩⟩
  · rw [State.txPin_of_live live, idle]
    rfl
  · refine ⟨parityBit, parityBit_even, ?_⟩
    rw [State.txPin_of_live live, sending]
    rfl
  · cases e <;> rfl
  · cases e with
    | ofCase c =>
      simp only [EventNotice.payload, Case.noticePayload, Proc.attemptByte_eq, Proc.detail_eq]
      cases c.proc <;> rfl
    | restored i => rfl
    | mode m cause => rfl
    | checkpoint state last bad => rfl
  · simp only [OutcomeNotice.payload, Reasons.byte_eq, linkBytes_eq]
    simp [Four.toList, Four.indices, Four.get]
  · simp only [TraceNotice.payload, Quad.toList, List.flatMap_def]
  · exact exec_transmitStart_of_none live (by simp only [Lk.choose, reply, events, outcomes, traces])
  · have chosen : s.lk.choose = some (.reply, frame r.kind r.tag r.payload) := by simp only [Lk.choose, reply]
    exact exec_transmitStart_of_chosen live hold idle chosen
  · have chosen : s.lk.choose = some (.event, frame e.kind 0 e.payload) := by simp only [Lk.choose, reply, events]
    exact exec_transmitStart_of_chosen live hold idle chosen
  · have chosen : s.lk.choose = some (.outcome, frame 0x61 0 o.payload) := by
      simp only [Lk.choose, reply, events, outcomes]
    exact exec_transmitStart_of_chosen live hold idle chosen
  · have chosen : s.lk.choose = some (.trace, frame 0x62 0 (n.payload s.lk.traceGap)) := by
      simp only [Lk.choose, reply, events, outcomes, traces]
    exact exec_transmitStart_of_chosen live hold idle chosen

end Sys2Proof.Machine
end

section
/-! PROOF. The ends of sent frames (R73, R74, R131, R132, R172, R180 to R183): the notice that leaves, and what waits for
its place. -/

namespace Sys2Proof.Machine

/-! ### What joins the event queue -/

section
variable {s : State} (room : s.lk.eventRoom = true)
include room

theorem State.announceRestore_of_room :
    s.announceRestore = s.setLk { s.lk.pushEvent (.restored s.ck.restored) with restoreFlag := false } := if_pos room

theorem State.announceMode_of_room :
    s.announceMode = s.setLk { s.lk.pushEvent s.modeNotice with modeFlag := false } := if_pos room

theorem State.announceCheckpoint_of_eventRoom :
    s.announceCheckpoint = s.setLk { s.lk.pushEvent s.checkpointNotice with checkpointFlag := false } := if_pos room

theorem State.announceCase_of_room (c : Case) : s.announceCase c = s.serveCase c := if_pos room

end

/-- A case whose RESOLVED notice has been queued leaves the table (R132). -/
theorem State.serveCase_of_resolved {s : State} {c : Case} (resolved : c.state = .resolved) :
    ∀ x ∈ (s.serveCase c).cm.table, x.id ≠ c.id := by
  intro x mem
  simp only [State.serveCase, Case.isResolved, resolved, decide_true, if_true, State.trigger_cm, State.setCm_cm,
    List.mem_filter, bne_iff_ne] at mem
  exact mem.2

/-- Any other case stays, its flag cleared (R131). -/
theorem State.serveCase_of_standing {s : State} {c : Case} (mem : c ∈ s.cm.table) (stands : c.state ≠ .resolved) :
    { c with announce := false } ∈ (s.serveCase c).cm.table := by
  simp only [State.serveCase, Case.isResolved, stands, decide_false, Bool.false_eq_true, if_false]
  exact mem_replaceCase.mpr (.inl ⟨rfl, c, mem, rfl⟩)

/-! ### What takes a freed place of the event queue -/

section
variable {s : State}

theorem State.fillFreed_of_restore (restore : s.lk.restoreFlag = true) : s.fillFreed = s.announceRestore :=
  if_pos restore

variable (noRestore : s.lk.restoreFlag = false)
include noRestore

theorem State.fillFreed_of_mode (mode : s.lk.modeFlag = true) : s.fillFreed = s.announceMode := by
  simp [State.fillFreed, noRestore, mode]

variable (noMode : s.lk.modeFlag = false)
include noMode

theorem State.fillFreed_of_checkpoint (checkpoint : s.lk.checkpointFlag = true) :
    s.fillFreed = s.announceCheckpoint := by
  simp [State.fillFreed, noRestore, noMode, checkpoint]

variable (noCheckpoint : s.lk.checkpointFlag = false)
include noCheckpoint

theorem State.fillFreed_of_case {c : Case} (first : s.cm.table.find? (·.announce) = some c) :
    s.fillFreed = s.announceCase c := by
  simp only [State.fillFreed, noRestore, noMode, noCheckpoint, first, Bool.false_eq_true, if_false]

theorem State.fillFreed_of_none (none : ∀ c ∈ s.cm.table, c.announce = false) : s.fillFreed = s := by
  have first : s.cm.table.find? (·.announce) = Option.none :=
    List.find?_eq_none.mpr fun c mem => by simp [none c mem]
  simp only [State.fillFreed, noRestore, noMode, noCheckpoint, first, Bool.false_eq_true, if_false]

end

/-- When an event notice has been sent its place is free (R181). -/
def State.eventFreed (s : State) : State := s.setLk { s.lk with tx := .idle, events := s.lk.events.tail }

theorem State.eventFreed_room {s : State} (bounded : s.lk.events.length ≤ 16) :
    s.eventFreed.lk.eventRoom = true := by
  simp only [Lk.eventRoom, State.eventFreed, State.setLk_lk, queuePlaces, List.length_tail, decide_eq_true_eq]
  omega

theorem Lk.OnlyEvents.tx {l k : Lk} (h : l.OnlyEvents k) : l.tx = k.tx := by
  obtain ⟨more, flag, rfl⟩ := h
  rfl

theorem State.fillFreed_tx (s : State) : s.fillFreed.lk.tx = s.lk.tx := by
  unfold State.fillFreed
  repeat' split
  · unfold State.announceRestore
    split <;> rfl
  · exact s.announceMode_kept.lk.tx
  · unfold State.announceCheckpoint
    split <;> rfl
  · exact (s.announceCase_kept _).lk.tx
  · rfl

/-- What an event that frees a place of the event queue leaves. -/
theorem State.fillFreed_commit_frame (s : State) :
    s.eventFreed.fillFreed.commit.lk.tx = .idle ∧ s.eventFreed.fillFreed.commit.rt = s.rt
      ∧ s.eventFreed.fillFreed.commit.lg = s.lg ∧ s.eventFreed.fillFreed.commit.pmc = s.pmc
      ∧ s.eventFreed.fillFreed.commit.smp = s.smp ∧ s.eventFreed.fillFreed.commit.SameOutside s := by
  simp [State.fillFreed_tx, State.eventFreed, State.SameOutside]

/-! ### The drain behind a sent outcome -/

/-- An EXITED record is left at the head only where the drain had no more room (R73). -/
theorem drainScan_of_exited_head {room : Nat} {q : List Rack}
    (decided : ∀ r ∈ q, r.exited = true → r.outcome.isSome = true) {r : Rack}
    (head : (drainScan room q).1.head? = some r) (exited : r.exited = true) : (drainScan room q).2.length = room := by
  induction room generalizing q with
  | zero => rfl
  | succ room ih =>
    cases q with
    | nil => cases head
    | cons x xs =>
      cases xExited : x.exited with
      | false =>
        have same : x = r := by simpa [drainScan, xExited] using head
        rw [← same, xExited] at exited
        cases exited
      | true =>
        obtain ⟨o, outcome⟩ := Option.isSome_iff_exists.mp (decided x List.mem_cons_self xExited)
        simp only [drainScan, xExited, outcome] at head ⊢
        exact congrArg Nat.succ (ih (fun y mem => decided y (List.mem_cons_of_mem x mem)) head)

/-- When an outcome notice has been sent it is counted, and its place is free (R183). -/
def State.outcomeFreed (s : State) : State :=
  s.setLk { s.lk with tx := .idle, outcomes := s.lk.outcomes.tail, outcomesSent := s.lk.outcomesSent + 1 }

/-- A drain loses and reorders no rack (R73). -/
theorem State.drainRacks_tags (s : State) :
    noticeTags s.drainRacks.lk.outcomes ++ tagsOf s.drainRacks.rt.queue
      = noticeTags s.lk.outcomes ++ tagsOf s.rt.queue := by
  have moved := drainScan_tags (queuePlaces - s.lk.outcomes.length) s.rt.queue
  rw [State.drainRacks_lk, State.drainRacks_rt, ← moved]
  simp only [noticeTags, List.map_append, List.append_assoc, State.drained]

section
variable {s : State} (bounded : s.lk.outcomes.length ≤ 16)
include bounded

theorem State.drainRacks_outcomes_length : s.drainRacks.lk.outcomes.length ≤ 16 := by
  have taken := drainScan_room (queuePlaces - s.lk.outcomes.length) s.rt.queue
  rw [State.drainRacks_lk, List.length_append, State.drained]
  simp only [queuePlaces] at taken ⊢
  omega

/-- The racks drain until the head is not EXITED or the outcome queue is full (R73). -/
theorem State.drainRacks_of_exited_head (shaped : s.rt.Shaped) {r : Rack}
    (head : s.drainRacks.rt.queue.head? = some r) (exited : r.exited = true) :
    s.drainRacks.lk.outcomes.length = 16 := by
  rw [State.drainRacks_rt] at head
  have full := drainScan_of_exited_head (fun x mem out => (shaped.2 x mem out).1) head exited
  rw [State.drainRacks_lk, List.length_append, State.drained, full]
  simp only [queuePlaces]
  omega

/-- The stall claim follows the outcome queue (R74). -/
theorem State.drainRacks_stall :
    s.drainRacks.lg.claimOf .outcomeStall .conveyor = some .block ↔ s.drainRacks.lk.outcomes.length = 16 := by
  rw [State.drainRacks_lg, Lines.claimOf_applySets_one, if_pos rfl]
  exact stallClaims_conveyor (State.drainRacks_outcomes_length bounded)

end

/-! ### The commands -/

section
variable {s : State} {f : List Byte} (live : s.live = true)
include live

theorem exec_replySent (sending : s.lk.tx = .sending .reply f) :
    exec .replySent s
      = .next (s.setLk { s.lk with tx := .idle, reply := none, restart := s.lk.restart.replyGone }) := by
  simp [exec, execReplySent, live, Lk.isSending, sending]

theorem exec_eventNoticeSent (sending : s.lk.tx = .sending .event f) :
    exec .eventNoticeSent s = .next s.eventFreed.fillFreed.commit := by
  simp [exec, execEventNoticeSent, live, Lk.isSending, sending, State.eventFreed]

theorem exec_outcomeNoticeSent (sending : s.lk.tx = .sending .outcome f) :
    exec .outcomeNoticeSent s = .next s.outcomeFreed.drainRacks.commit := by
  simp [exec, execOutcomeNoticeSent, live, Lk.isSending, sending, State.outcomeFreed]

theorem exec_traceNoticeSent (sending : s.lk.tx = .sending .trace f) :
    exec .traceNoticeSent s = .next (s.setLk { s.lk with tx := .idle, traces := s.lk.traces.tail }) := by
  simp [exec, execTraceNoticeSent, live, Lk.isSending, sending]

end

/-- Settles O52: each notice by its own command, and what takes the place it leaves. -/
theorem sentFramesLeave : Obligations.SentFramesLeave := by
  unfold Obligations.SentFramesLeave
  intro s f live untriggered bounded
  obtain ⟨events, outcomes, -, -⟩ := bounded
  have room : s.eventFreed.lk.eventRoom = true := State.eventFreed_room events
  refine ⟨fun sending => ?_, fun sending => exec_traceNoticeSent live sending, fun sending => ?_,
    fun sending shaped => ?_, fun none => ?_⟩
  · rw [exec_replySent live sending, RestartState.replyGone_eq]
    rfl
  · obtain ⟨tx, rt, lg, pmc, smp, outside⟩ := s.fillFreed_commit_frame
    refine ⟨_, exec_eventNoticeSent live sending, tx, rt, lg, pmc, smp, outside, fun restore => ?_,
      fun noRestore mode => ?_, fun noRestore noMode checkpoint => ?_,
      fun noRestore noMode noCheckpoint => ⟨fun c first => ?_, fun none => ?_⟩⟩
    · have taken := State.fillFreed_of_restore (s := s.eventFreed) restore
      rw [State.commit_lk, taken, State.announceRestore_of_room room]
      exact ⟨rfl, rfl, rfl⟩
    · have taken := State.fillFreed_of_mode (s := s.eventFreed) noRestore mode
      rw [State.commit_lk, taken, State.announceMode_of_room room]
      exact ⟨rfl, rfl, rfl⟩
    · have taken := State.fillFreed_of_checkpoint (s := s.eventFreed) noRestore noMode checkpoint
      rw [State.commit_lk, State.commit_cm, taken, State.announceCheckpoint_of_eventRoom room]
      exact ⟨rfl, rfl, rfl⟩
    · have taken := State.fillFreed_of_case (s := s.eventFreed) noRestore noMode noCheckpoint first
      have mem := List.mem_of_find?_eq_some first
      rw [State.commit_lk, State.commit_cm, taken, State.announceCase_of_room room, State.serveCase_lk]
      exact ⟨rfl, State.serveCase_of_resolved, State.serveCase_of_standing (s := s.eventFreed) mem⟩
    · have same := State.fillFreed_of_none (s := s.eventFreed) noRestore noMode noCheckpoint none
      rw [State.commit_lk, State.commit_cm, same]
      exact ⟨rfl, rfl⟩
  · have freed : s.outcomeFreed.lk.outcomes.length ≤ 16 := (List.tail_sublist _).length_le.trans outcomes
    refine ⟨_, exec_outcomeNoticeSent live sending, ?_⟩
    simp only [State.commit_lk, State.commit_rt, State.commit_lg, State.commit_pmc, State.commit_smp, State.commit_cm]
    refine ⟨by rw [State.drainRacks_lk]; rfl, by rw [State.drainRacks_lk]; rfl, by rw [State.drainRacks_lk]; rfl, ?_,
      fun r head exited => State.drainRacks_of_exited_head freed shaped head exited, State.drainRacks_stall freed,
      s.outcomeFreed.drainRacks_pmc, s.outcomeFreed.drainRacks_smp, s.outcomeFreed.drainRacks_cm, ?_⟩
    · rw [State.drainRacks_tags, noticeTags, noticeTags, ← List.map_tail]
      rfl
    · simp [State.SameOutside, State.outcomeFreed]
  · have idle : ∀ src, s.lk.isSending src = false := none
    simp [exec, execReplySent, execEventNoticeSent, execOutcomeNoticeSent, execTraceNoticeSent, idle]

end Sys2Proof.Machine
end

section
/-! PROOF. How a request waits, is refused and is answered (R180, R188, R190), with TRACE and RESTART (R172, R184). -/

namespace Sys2Proof.Machine

/-! ### Requests that wait -/

/-- The request that a row of the table names is taken by its own command, with its own length, and IDENT and
STATUS in STARTING too (R180, R188). -/
theorem exec_of_requestRows {k n : Nat} {c : Instr} (row : (k, n, c) ∈ requestRows) :
    (1 ≤ k ∧ k ≤ 17) ∧ ∃ owner, ∀ s, exec c s = .next (takeRequest k n (decide (k < 3)) owner s) := by
  generalize command : (k, n, c) = entry at row
  fin_cases row
  all_goals
    cases command
    exact ⟨by decide, _, fun _ => rfl⟩

theorem State.nextRequest_of_asks {s : State} {r : Request} (asks : s.Asks r) : s.nextRequest = some r := by
  obtain ⟨live, empty, head, -⟩ := asks
  simp [State.nextRequest, live, empty, head]

/-- While the part takes nothing or the reply slot is full no request is taken (R180). -/
theorem State.nextRequest_of_waiting {s : State} (waits : s.live = false ∨ s.lk.reply ≠ none) :
    s.nextRequest = none := by
  obtain down | full := waits
  · simp [State.nextRequest, down]
  · simp [State.nextRequest, full]

theorem takeRequest_of_none {s : State} (none : s.nextRequest = none) (k n : Nat) (inStarting : Bool)
    (owner : List Byte → State → Answered) : takeRequest k n inStarting owner s = s := by
  simp only [takeRequest, none]

theorem execUnknownKind_of_none {s : State} (none : s.nextRequest = none) : exec .unknownKind s = .next s := by
  simp only [exec, execUnknownKind, none]

section
variable {s : State} {r : Request} (asks : s.Asks r)
include asks

theorem takeRequest_of_other {k n : Nat} {inStarting : Bool} {owner : List Byte → State → Answered}
    (other : r.kind.toNat ≠ k) : takeRequest k n inStarting owner s = s := by
  simp only [takeRequest, State.nextRequest_of_asks asks, other, if_false]

theorem exec_unknownKind_of_known (known : 1 ≤ r.kind.toNat ∧ r.kind.toNat ≤ 17) :
    exec .unknownKind s = .next s := by
  simp [exec, execUnknownKind, State.nextRequest_of_asks asks, isRequestKind, known]

/-- A kind that is no request's (R180). -/
theorem exec_unknownKind_of_unknown (unknown : ¬(1 ≤ r.kind.toNat ∧ r.kind.toNat ≤ 17)) :
    exec .unknownKind s = .next { s with lk := s.answered r [0x10] } := by
  have noRequest : isRequestKind r.kind.toNat = false := by
    rw [isRequestKind, ← Bool.not_eq_true, Bool.and_eq_true, decide_eq_true_eq, decide_eq_true_eq]
    exact unknown
  simp only [exec, execUnknownKind, State.nextRequest_of_asks asks, noRequest, Bool.false_eq_true, if_false]
  rfl

/-- A request that LK itself refuses is answered with the code alone, and nothing else happens (R180, R190). -/
theorem takeRequest_of_refused {k n : Nat} {inStarting : Bool} {owner : List Byte → State → Answered} {code : Byte}
    (kind : r.kind.toNat = k)
    (refused : s.dropRequest.handle n inStarting owner r.payload = refuse s.dropRequest code) :
    takeRequest k n inStarting owner s = { s with lk := s.answered r [code] } := by
  have untriggered : (s.dropRequest.answer r [code]).ck.trigger = false := asks.2.2.2
  simp only [takeRequest, State.nextRequest_of_asks asks, kind, if_true, refused, refuse,
    State.commit_of_not_trigger untriggered]
  rfl

end

theorem State.handle_of_starting {s : State} (starting : s.pmc.mode = .starting) (n : Nat)
    (owner : List Byte → State → Answered) (p : List Byte) :
    s.handle n false owner p = refuse s 0x1A := by
  simp [State.handle, starting, resStarting]

theorem State.handle_of_badLength {s : State} {inStarting : Bool}
    (taken : s.pmc.mode ≠ .starting ∨ inStarting = true) {n : Nat} {p : List Byte} (wrong : p.length ≠ n)
    (owner : List Byte → State → Answered) : s.handle n inStarting owner p = refuse s 0x11 := by
  have goes : ¬(s.pmc.mode = .starting && !inStarting) = true := by
    obtain mode | rfl := taken
    · simp [mode]
    · simp
  rw [State.handle, if_neg goes, if_pos wrong]
  rfl

/-! ### TRACE and RESTART -/

theorem exec_trace (s : State) : exec .trace s = .next (takeRequest 0x10 1 false traceRequest s) := rfl

theorem exec_restart (s : State) : exec .restart s = .next (takeRequest 0x11 0 false restartRequest s) := rfl

section
variable {s : State} {r : Request} {b : Byte} (asks : s.Asks r) (kind : r.kind = 0x10) (payload : r.payload = [b])
  (mode : s.pmc.mode ≠ .starting)
include asks kind payload mode

/-- TRACE with what it makes of the selection (R184). -/
theorem exec_trace_taken {zone : Option Zone}
    (selects : traceRequest [b] s.dropRequest = ok (s.dropRequest.setLk { s.dropRequest.lk with traceZone := zone })) :
    exec .trace s = .next { s with lk := { s.answered r [0x00] with traceZone := zone } } := by
  have owned : traceRequest r.payload s.dropRequest
      = (s.dropRequest.setLk { s.dropRequest.lk with traceZone := zone }, [0x00]) := by
    rw [payload]
    exact selects
  rw [exec_trace, takeRequest_of_not_trigger false asks mode (by rw [kind]; rfl) (by rw [payload]; rfl) owned rfl]
  rfl

theorem exec_trace_refused (range : 4 ≤ b.toNat) (notOff : b ≠ 0xFF) :
    exec .trace s = .next { s with lk := s.answered r [0x12] } := by
  have off : ¬b.toNat = 255 := fun same => notOff (BitVec.eq_of_toNat_eq same)
  have refused : traceRequest [b] s.dropRequest = (s.dropRequest, [0x12]) := by
    have own : u8 [b] 0 = b.toNat := rfl
    simp only [traceRequest, own, zoneOperand_eq_none range, off, if_false]
    rfl
  rw [exec_trace, takeRequest_unchanged false asks mode (by rw [kind]; rfl) (by rw [payload]; rfl)
    (by rw [payload]; exact refused)]

end

/-- Settles O54: a row's command by what waits, by its kind, and by the tests of LK in their order. -/
theorem linkAnswersRequests : Obligations.LinkAnswersRequests := by
  unfold Obligations.LinkAnswersRequests
  refine ⟨fun s k n c row waits => ?_, fun s r asks => ⟨rfl, fun unknown => ?_, fun k n c row => ?_,
    fun b kind payload mode => ⟨fun z own => ?_, fun off => ?_, exec_trace_refused asks kind payload mode⟩,
    fun kind payload mode => ?_⟩⟩
  · obtain ⟨-, owner, executed⟩ := exec_of_requestRows row
    have none := State.nextRequest_of_waiting waits
    exact ⟨by rw [executed, takeRequest_of_none none], execUnknownKind_of_none none⟩
  · exact exec_unknownKind_of_unknown asks (by omega)
  · obtain ⟨range, owner, executed⟩ := exec_of_requestRows row
    refine ⟨fun other => by rw [executed, takeRequest_of_other asks other],
      fun kind => exec_unknownKind_of_known asks (kind ▸ range), fun kind starting late => ?_,
      fun kind taken wrong => ?_⟩
    · have early : decide (k < 3) = false := decide_eq_false (Nat.not_lt.mpr late)
      have refused := State.handle_of_starting (s := s.dropRequest) starting n owner r.payload
      rw [executed, early, takeRequest_of_refused asks kind refused]
    · have refused := State.handle_of_badLength (s := s.dropRequest) (taken.imp_right decide_eq_true) wrong owner
      rw [executed, takeRequest_of_refused asks kind refused]
  · refine exec_trace_taken asks kind payload mode ?_
    have operand : u8 [b] 0 = z.val := own
    simp only [traceRequest, operand, zoneOperand_val]
  · refine exec_trace_taken asks kind payload mode ?_
    obtain rfl := off
    rfl
  · have owned : restartRequest r.payload s.dropRequest
        = (s.dropRequest.setLk { s.dropRequest.lk with restart := .awaitingReply }, [0x00]) := rfl
    rw [exec_restart, takeRequest_of_not_trigger false asks mode (by rw [kind]; rfl) (by rw [payload]; rfl) owned rfl]
    rfl

end Sys2Proof.Machine
end

section
/-! PROOF. The step (R180): the command at the front of the queue, or a millisecond (R118, R125, R134). -/

namespace Sys2Proof.Machine

theorem tickTimer_eq (timer : Option Nat) : tickTimer timer = timer.map fun ms => ms - 1 := by
  cases timer <;> rfl

theorem Tank.tick_eq (t : Tank) :
    t.tick = { t with level := t.level.map fun w => { w with window := w.window - 1 } } := by
  unfold Tank.tick
  split
  next none => rw [none, Option.map_none, ← none]
  next watch => rw [watch]; rfl

theorem Case.tick_eq (c : Case) :
    c.tick = if c.suspended then c else { c with timer := c.timer.map fun ms => ms - 1 } := by
  rw [Case.tick, tickTimer_eq]

/-- Within a second the milliseconds go up, and at its end the seconds (R118). -/
theorem Cm.tickUptime_of_within {c : Cm} (within : c.uptimeMs < 999) :
    c.tickUptime = { c with uptimeMs := c.uptimeMs + 1 } :=
  if_pos (by simp only [Config.ticksPerSecond]; omega)

theorem Cm.tickUptime_of_end {c : Cm} (last : 999 ≤ c.uptimeMs) :
    c.tickUptime = { c with uptimeMs := 0, uptime := c.uptime + 1 } :=
  if_neg (by simp only [Config.ticksPerSecond]; omega)

theorem Cm.tickUptime_nextId (c : Cm) : c.tickUptime.nextId = c.nextId := by
  unfold Cm.tickUptime
  split <;> rfl

/-- Settles O1: the front command, and each block over one millisecond. -/
theorem stepTakesTheFrontCommand : Obligations.StepTakesTheFrontCommand := by
  unfold Obligations.StepTakesTheFrontCommand
  refine ⟨fun c s => rfl, fun s none => by rw [step, none], fun s down => by simp [State.tick, down],
    fun s live => ?_⟩
  rw [State.tick, if_pos live]
  refine ⟨rfl, rfl, rfl, rfl, rfl, rfl, rfl, rfl, fun inactive => by simp only [inactive],
    fun z ms tags active => by simp only [active], fun z => ?_, tickTimer_eq _, ?_, s.cm.tickUptime_nextId,
    tickTimer_eq _, fun within => ?_, fun last => ?_, rfl⟩
  · simp only [Four.get_ofFn, Tank.tick_eq]
  · exact List.map_congr_left fun c _ => c.tick_eq
  · simp only [Cm.tickUptime_of_within within, and_self]
  · simp only [Cm.tickUptime_of_end last, and_self]

end Sys2Proof.Machine
end

section
/-! PROOF. A part that goes down, and the pins that show it (R44, R166, R171, R172, R175, R185, R199). -/

namespace Sys2Proof.Machine

/-! ### The output pins -/

theorem Lk.attn_iff (l : Lk) : l.attn = true ↔ l.events ≠ [] ∨ l.outcomes ≠ [] := by
  simp [Lk.attn]

/-- The outputs of a powered part follow the state behind them (R44, R175, R185). -/
theorem State.pins_of_powered {s : State} (powered : s.powered = true) :
    (∀ id, s.drvPin id = s.lg.drive id) ∧ s.rdyPin = s.lk.rx.rdy ∧ s.attnPin = s.lk.attn := by
  simp [State.drvPin, State.rdyPin, State.attnPin, powered]

/-- Without supply or with RESETn low the part takes no input (R199). -/
theorem State.live_of_unpowered {s : State} (unpowered : s.powered = false) : s.live = false := by
  rw [State.live, ← State.powered, unpowered, Bool.false_and]

/-- Without supply or with RESETn low the part holds its outputs low, TX too (R199). -/
theorem State.pins_of_unpowered {s : State} (unpowered : s.powered = false) :
    (∀ id, s.drvPin id = false) ∧ s.rdyPin = false ∧ s.attnPin = false ∧ s.txPin = [false] := by
  refine ⟨fun id => ?_, ?_, ?_, ?_⟩
  · rw [State.drvPin, unpowered, Bool.false_and]
  · rw [State.rdyPin, unpowered, Bool.false_and]
  · rw [State.attnPin, unpowered, Bool.false_and]
  · rw [State.txPin, unpowered, if_neg Bool.false_ne_true]

/-! ### Going down -/

theorem State.goDown_unpowered {p : Power} (down : p.supplyGood = false ∨ p.resetLow = true) (s : State) :
    (s.goDown p).powered = false := by
  have stands : (s.goDown p).powered = (p.supplyGood && !p.resetLow) := rfl
  obtain lost | low := down
  · rw [stands, lost, Bool.false_and]
  · rw [stands, low, Bool.not_true, Bool.and_false]

/-- The checkpoint that waits behind a write is lost with a cut (R166). -/
theorem Ck.cut_pending (ck : Ck) : ck.cut.pending = false := by
  unfold Ck.cut
  split <;> rfl

/-- With no write in flight there is no slot to cut. -/
theorem Ck.cut_slots_of_idle {ck : Ck} (idle : ck.write = .idle) : ck.cut.slots = ck.slots := by
  simp only [Ck.cut, idle]

/-- A write that is VERIFYING has programmed its slot, which stays (R166). -/
theorem Ck.cut_slots_of_verifying {ck : Ck} {snap : Snapshot} {target : Fin 4}
    (verifying : ck.write = .busy .verifying snap target) : ck.cut.slots = ck.slots := by
  simp only [Ck.cut, verifying]

/-- A write that was erasing or programming leaves its slot invalid, and the other slots stay (R166). -/
theorem Ck.cut_slots_of_unfinished {ck : Ck} {stage : WriteStage} {snap : Snapshot} {target : Fin 4}
    (writing : ck.write = .busy stage snap target) (unfinished : stage ≠ .verifying) :
    (ck.cut.slots.get target).valid = none
      ∧ ∀ i, i ≠ target → ck.cut.slots.get i = ck.slots.get i := by
  obtain ⟨-, invalid⟩ := Ck.cut_target writing
  refine ⟨invalid unfinished, fun i other => Ck.cut_other fun stage' snap' own => ?_⟩
  rw [writing] at own
  cases own
  exact other rfl

/-! ### The events -/

/-- The event that puts the part down, and the power record it leaves (R199). -/
theorem exec_goesDown (s : State) {c : Instr} (goes : c = .powerLost ∨ c = .resetPinAsserted) :
    ∃ p : Power, exec c s = .next (s.goDown p) ∧ (p.supplyGood = false ∨ p.resetLow = true)
      ∧ (c = .powerLost → p.supplyGood = false ∧ p.supplyLost = true ∧ p.resetLow = s.power.resetLow)
      ∧ (c = .resetPinAsserted → p.resetLow = true ∧ p.supplyGood = s.power.supplyGood
          ∧ p.supplyLost = s.power.supplyLost)
      ∧ p.cause = s.power.cause := by
  obtain rfl | rfl := goes
  · exact ⟨{ s.power with supplyGood := false, supplyLost := true }, rfl, .inl rfl,
      fun _ => ⟨rfl, rfl, rfl⟩, nofun, rfl⟩
  · exact ⟨{ s.power with resetLow := true }, rfl, .inr rfl, nofun, fun _ => ⟨rfl, rfl, rfl⟩, rfl⟩

/-- Settles O42: the pins of a powered part, then those of one that goes down, with the write it cuts. -/
theorem partGoesDown : Obligations.PartGoesDown := by
  unfold Obligations.PartGoesDown
  refine ⟨fun s good high => ?_, fun s c goes => ?_⟩
  · have powered : s.powered = true := by rw [State.powered, good, high]; rfl
    obtain ⟨drv, rdy, attn⟩ := State.pins_of_powered powered
    exact ⟨drv, rdy, by rw [attn, Lk.attn_iff]⟩
  · obtain ⟨p, executed, down, lost, asserted, cause⟩ := exec_goesDown s goes
    have unpowered := s.goDown_unpowered down
    obtain ⟨drv, rdy, attn, tx⟩ := State.pins_of_unpowered unpowered
    exact ⟨_, executed, State.live_of_unpowered unpowered, drv, rdy, attn, tx, rfl, lost, asserted, cause,
      s.ck.cut_write, s.ck.cut_pending, Ck.cut_slots_of_idle, fun snap target => Ck.cut_slots_of_verifying,
      fun stage snap target => Ck.cut_slots_of_unfinished⟩

/-! ### Resets that go on -/

theorem exec_powerReset_of_resetLow {s : State} (low : s.power.resetLow = true) (strap : Baud) :
    exec (.powerReset strap) s
      = .next (s.goDown { s.power with supplyGood := true, supplyLost := true }) := by
  simp only [exec, execPowerReset, low, if_true]

theorem exec_pinReset_of_supplyOut {s : State} (out : s.power.supplyGood = false) (strap : Baud) :
    exec (.pinReset strap) s = .next (s.goDown { s.power with resetLow := false }) := by
  simp only [exec, execPinReset, out, Bool.not_false, if_true]

theorem exec_performRestart_of_not_due {s : State} (notDue : s.lk.restart ≠ .due) (strap : Baud) :
    exec (.performRestart strap) s = .next s := by
  simp [exec, execPerformRestart, notDue]

/-- Settles O44: with the other condition still there each reset leaves the part down. -/
theorem resetsWaitForBoth : Obligations.ResetsWaitForBoth := by
  unfold Obligations.ResetsWaitForBoth
  refine fun s strap => ⟨fun low => ?_, fun out => ?_, fun notDue => exec_performRestart_of_not_due notDue strap⟩
  · exact ⟨_, exec_powerReset_of_resetLow low strap,
      State.live_of_unpowered (s.goDown_unpowered (.inr (by exact low))), rfl, rfl⟩
  · exact ⟨_, exec_pinReset_of_supplyOut out strap,
      State.live_of_unpowered (s.goDown_unpowered (.inl (by exact out))), rfl, rfl⟩

end Sys2Proof.Machine
end

section
/-! PROOF. The encodings of payload fields (R189): numbers by their bytes, sets and reasons by their bits. -/

namespace Sys2Proof.Machine

/-! ### Numbers -/

theorem toNat_byte (n : Nat) : (byte n).toNat = n % 256 := BitVec.toNat_ofNat n 8

theorem toNat_byte_of_lt {n : Nat} (h : n < 256) : (byte n).toNat = n := by
  rw [toNat_byte, Nat.mod_eq_of_lt h]

theorem be16_toNat {n : Nat} (h : n < 65536) : (be16 n).map (·.toNat) = [n / 256, n % 256] := by
  have high : n / 256 < 256 := by omega
  simp only [be16, List.map_cons, List.map_nil, toNat_byte_of_lt high, toNat_byte]

theorem be32_toNat {n : Nat} (h : n < 4294967296) :
    (be32 n).map (·.toNat) = [n / 16777216, n / 65536 % 256, n / 256 % 256, n % 256] := by
  have high : n / 16777216 < 256 := by omega
  simp only [be32, List.map_cons, List.map_nil, toNat_byte_of_lt high, toNat_byte]

theorem zoneByte_some_toNat (z : Zone) : (zoneByte (some z)).toNat = z.val :=
  toNat_byte_of_lt (by omega)

/-! ### Bits -/

/-- Bit i of the byte for a sum of flags, flag i standing at 2^i, is flag i (R189). -/
theorem byte_ofBits_getLsbD {n : Nat} (n8 : n ≤ 8) (f : Fin n → Bool) (i : Fin n) :
    (byte (Nat.ofBits f)).getLsbD i.val = f i := by
  have place : i.val < 8 := by omega
  rw [byte, BitVec.getLsbD_ofNat, decide_eq_true place, Bool.true_and, Nat.testBit_ofBits_lt f i.val i.isLt]

theorem setByte_eq_ofBits (v : ZoneSet) : setByte v = byte (Nat.ofBits v.get) := by
  have sum : v.z0.toNat + 2 * v.z1.toNat + 4 * v.z2.toNat + 8 * v.z3.toNat = Nat.ofBits v.get := by
    simp only [Nat.ofBits_succ, Nat.ofBits_zero, Function.comp_apply]
    change _ = 2 * (2 * (2 * (2 * 0 + v.z3.toNat) + v.z2.toNat) + v.z1.toNat) + v.z0.toNat
    omega
  rw [setByte, sum]

theorem setByte_getLsbD (v : ZoneSet) (z : Zone) : (setByte v).getLsbD z.val = v.get z := by
  rw [setByte_eq_ofBits, byte_ofBits_getLsbD (by decide)]

/-- The reasons by their numbers (R189). -/
def Reasons.flag (m : Reasons) : Fin 8 → Bool :=
  ![m.contactShort, m.doseShort, m.dwellExpired, m.caseHold, m.trackLost, m.carried, m.standbyFlush, m.haltFlush]

theorem Reasons.byte_eq_ofBits (m : Reasons) : m.byte = Machine.byte (Nat.ofBits m.flag) := by
  have sum : m.contactShort.toNat + 2 * m.doseShort.toNat + 4 * m.dwellExpired.toNat + 8 * m.caseHold.toNat
      + 16 * m.trackLost.toNat + 32 * m.carried.toNat + 64 * m.standbyFlush.toNat + 128 * m.haltFlush.toNat
      = Nat.ofBits m.flag := by
    simp only [Nat.ofBits_succ, Nat.ofBits_zero, Function.comp_apply]
    change _ = 2 * (2 * (2 * (2 * (2 * (2 * (2 * (2 * 0 + m.haltFlush.toNat) + m.standbyFlush.toNat)
      + m.carried.toNat) + m.trackLost.toNat) + m.caseHold.toNat) + m.dwellExpired.toNat) + m.doseShort.toNat)
      + m.contactShort.toNat
    omega
  rw [Reasons.byte, sum]

theorem Reasons.byte_getLsbD (m : Reasons) :
    [m.contactShort, m.doseShort, m.dwellExpired, m.caseHold, m.trackLost, m.carried, m.standbyFlush,
      m.haltFlush] = (List.range 8).map m.byte.getLsbD := by
  have bit : ∀ i : Fin 8, m.byte.getLsbD i.val = m.flag i := fun i => by
    rw [Reasons.byte_eq_ofBits, byte_ofBits_getLsbD le_rfl]
  have flags : (List.range 8).map m.byte.getLsbD = (List.finRange 8).map m.flag := by
    rw [← funext bit, ← List.map_coe_finRange_eq_range, List.map_map]
    rfl
  rw [flags]
  rfl

end Sys2Proof.Machine
end

section
/-! PROOF. IDENT, STATUS and ZONE_READ (R41, R42, R189, R193, R194): their reply data byte by byte. -/

namespace Sys2Proof.Machine

/-! ### A request taken in STARTING too -/

/-- A request of the right length goes to its owner in STARTING too where its kind says so (R180). -/
theorem State.handle_inStarting {length : Nat} {p : List Byte} (right : p.length = length)
    (owner : List Byte → State → Answered) (s : State) : s.handle length true owner p = owner p s := by
  simp [State.handle, right]

section
variable {s : State} {r : Request} (asks : s.Asks r)
include asks

/-- A request that changes no block, by what LK makes of it, is answered, and nothing else happens. -/
theorem takeRequest_of_handled {k n : Nat} {inStarting : Bool} {owner : List Byte → State → Answered}
    {p : List Byte} (kind : r.kind.toNat = k)
    (handled : s.dropRequest.handle n inStarting owner r.payload = (s.dropRequest, p)) :
    takeRequest k n inStarting owner s = { s with lk := s.answered r p } := by
  have untriggered : (s.dropRequest.answer r p).ck.trigger = false := asks.2.2.2
  simp only [takeRequest, State.nextRequest_of_asks asks, kind, if_true, handled,
    State.commit_of_not_trigger untriggered]
  rfl

/-- A request without operands that reports in every mode (R180, R193). -/
theorem takeRequest_of_report {k : Nat} (kind : r.kind.toNat = k) (empty : r.payload = [])
    {items : State → List Byte} (same : items s.dropRequest = items s) :
    takeRequest k 0 true (fun _ s => (s, resOk :: items s)) s
      = { s with lk := s.answered r (0x00 :: items s) } := by
  have right : r.payload.length = 0 := by rw [empty]; rfl
  have handled := State.handle_inStarting right (fun _ s => (s, resOk :: items s)) s.dropRequest
  rw [same] at handled
  exact takeRequest_of_handled asks kind handled

theorem exec_ident_reports (kind : r.kind = 0x01) (empty : r.payload = []) :
    exec .ident s = .next { s with lk := s.answered r (0x00 :: identItems s) } :=
  congrArg Host.Outcome.next (takeRequest_of_report asks (by rw [kind]; rfl) empty (items := identItems) rfl)

theorem exec_status_reports (kind : r.kind = 0x02) (empty : r.payload = []) :
    exec .status s = .next { s with lk := s.answered r (0x00 :: statusItems s) } :=
  congrArg Host.Outcome.next (takeRequest_of_report asks (by rw [kind]; rfl) empty (items := statusItems) rfl)

end

/-! ### IDENT and STATUS -/

theorem byte_resetCauseCode (x : ResetCause) :
    byte x.code = match x with
      | .power => 1
      | .pin => 2
      | .restart => 3 := by
  cases x <;> rfl

theorem byte_ckStateCode (x : CkState) :
    byte x.code = match x with
      | .on => 1
      | .failed => 2
      | .exhausted => 3 := by
  cases x <;> rfl

/-- The IDENT reply data (R193). -/
theorem identItems_eq (s : State) :
    identItems s
      = [0x0A, 0x17, 0xC3, 0x04, 0x01, byte s.power.cause.code]
        ++ be32 (s.ck.restored.generation.getD 0) ++ [byte s.ck.state.code] := rfl

theorem zoneStateByte_eq (zs : ZoneSlot) :
    zoneStateByte zs = byte (zs.slot.code + if zs.marker = [] then 0 else 0x80) := by
  simp only [zoneStateByte, List.isEmpty_iff]

theorem Dwell.isActive_eq (d : Dwell) : d.isActive = decide (d ≠ .inactive) := by
  cases d <;> rfl

theorem statusItems_length (s : State) : (statusItems s).length = 38 := rfl

/-- The STATUS reply data, with the flags by what they stand for (R193). -/
theorem statusItems_eq (s : State) :
    statusItems s
      = [byte s.pmc.mode.code, byte s.pmc.haltCause.code]
        ++ (Four.indices.map fun z =>
            byte ((s.pmc.zones.get z).slot.code
              + if (s.pmc.zones.get z).marker = [] then 0 else 0x80))
        ++ rackItems s.rt.queue ++ be32 s.rt.admitted.toNat ++ be32 s.lk.outcomesSent.toNat
        ++ [byte s.cm.table.length, byte (s.cm.table.countP fun c => !c.isResolved)]
        ++ queueItems s ++ [flagByte (s.du ≠ .inactive)] ++ be16 s.lk.linkErrors
        ++ [byte s.ck.state.code] ++ be32 (s.ck.lastWritten.getD 0)
        ++ [setByte s.ck.bad, zoneByte s.lk.traceZone] := by
  simp only [← zoneStateByte_eq, ← Dwell.isActive_eq]
  rfl

/-! ### ZONE_READ -/

theorem exec_zoneRead (s : State) :
    exec .zoneRead s = .next (takeRequest 0x09 1 false zoneReadRequest s) := rfl

theorem zoneItems_of_unconfigured {z : Zone} {s : State} (h : (s.pmc.zones.get z).slot = .unconfigured) :
    zoneItems z s = List.replicate 29 0 := by
  simp only [zoneItems, h]

theorem zoneActive_eq (slot : SlotState) (lines : Lines) (z : Zone) (temperature : Reading) :
    zoneActive slot lines z temperature
      = match slot, temperature with
        | .online rec, .valid v => lines.drive (.pump z) && rec.tMin ≤ v
        | _, _ => false := by
  cases slot with
  | online rec => cases temperature <;> rfl
  | _ => rfl

/-- The zone items of a zone that holds a record (R42, R194). -/
theorem zoneItems_of_configured {z : Zone} {s : State} (h : (s.pmc.zones.get z).slot ≠ .unconfigured) :
    zoneItems z s
      = [byte (s.pmc.zones.get z).slot.code, flagByte ((s.pmc.zones.get z).marker ≠ [])]
        ++ (Quantity.all.flatMap fun q => channelItems ((s.smp.channels.get z).get q))
        ++ [flagByte (zoneActive (s.pmc.zones.get z).slot s.lg z (s.smp.channels.get z).temp.reading),
            flagByte (s.lg.drive (.heatA z)), flagByte (s.lg.drive (.heatB z)),
            flagByte (s.lg.drive (.pump z)), flagByte (s.lg.drive (.fill z)),
            flagByte (s.lg.drive (.drain z)), byte (s.lg.driven z)] := by
  have marked : (!(s.pmc.zones.get z).marker.isEmpty) = decide ((s.pmc.zones.get z).marker ≠ []) := by
    cases (s.pmc.zones.get z).marker <;> rfl
  cases slot : (s.pmc.zones.get z).slot with
  | unconfigured => exact absurd slot h
  | offline rec =>
    simp only [zoneItems, slot, marked]
    rfl
  | online rec =>
    simp only [zoneItems, slot, marked]
    rfl

theorem zoneItems_length (z : Zone) (s : State) : (zoneItems z s).length = 29 := by
  by_cases h : (s.pmc.zones.get z).slot = .unconfigured
  · rw [zoneItems_of_unconfigured h]
    rfl
  · rw [zoneItems_of_configured h]
    rfl

section
variable {s : State} {r : Request} {b : Byte} (asks : s.Asks r) (kind : r.kind = 0x09) (payload : r.payload = [b])
  (mode : s.pmc.mode ≠ .starting)
include asks kind payload mode

theorem exec_zoneRead_refused (range : 4 ≤ b.toNat) :
    exec .zoneRead s = .next { s with lk := s.answered r [0x12] } := by
  have refused : zoneReadRequest [b] s.dropRequest = (s.dropRequest, [0x12]) := by
    have operand : u8 [b] 0 = b.toNat := rfl
    simp only [zoneReadRequest, operand, zoneOperand_eq_none range]
    rfl
  rw [exec_zoneRead, read_answered asks payload mode (by rw [kind]; rfl) refused]

theorem exec_zoneRead_reports {z : Zone} (own : b.toNat = z.val) :
    exec .zoneRead s = .next { s with lk := s.answered r (0x00 :: zoneReadItems z s) } := by
  have reported : zoneReadRequest [b] s.dropRequest = (s.dropRequest, 0x00 :: zoneReadItems z s) := by
    have operand : u8 [b] 0 = z.val := own
    simp only [zoneReadRequest, operand, zoneOperand_val]
    rfl
  rw [exec_zoneRead, read_answered asks payload mode (by rw [kind]; rfl) reported]

end

/-- Settles O55: the encodings and the codes value by value, then the reply data of each request. -/
theorem blockReadsReport : Obligations.BlockReadsReport := by
  unfold Obligations.BlockReadsReport
  refine ⟨⟨fun n => toNat_byte_of_lt, fun n => be16_toNat, fun n => be32_toNat, rfl, rfl, rfl, zoneByte_some_toNat,
    setByte_getLsbD, fun m => ?_, fun h => ?_, fun z => ?_, fun x => ?_, fun k => ?_, fun x => ?_, fun x => ?_,
    fun q => ?_, fun x => ?_, fun o => ?_, rfl, rfl, fun x => ?_, fun x => ?_, fun h => ?_, fun f => ?_,
    Reasons.byte_getLsbD⟩, fun s r asks => ⟨fun kind empty => ?_, fun kind empty => ?_,
    fun b kind payload mode => ⟨exec_zoneRead_refused asks kind payload mode, fun z own => ?_⟩⟩⟩
  · cases m <;> rfl
  · cases h <;> rfl
  · cases z <;> rfl
  · cases x <;> exact ⟨rfl, rfl⟩
  · cases k <;> rfl
  · cases x <;> rfl
  · cases x <;> rfl
  · cases q <;> rfl
  · cases x <;> rfl
  · cases o <;> exact ⟨rfl, rfl⟩
  · cases x <;> rfl
  · cases x <;> rfl
  · rcases h with - | (- | -) <;> rfl
  · rcases f with - | (- | -) <;> rfl
  · rw [exec_ident_reports asks kind empty, identItems_eq, byte_resetCauseCode, byte_ckStateCode]
    rfl
  · refine ⟨statusItems s, exec_status_reports asks kind empty, statusItems_length s, ?_⟩
    rw [statusItems_eq]
    rfl
  · refine ⟨zoneItems z s, _, ?_, zoneItems_length z s, rfl, fun unconfigured x mem => ?_, fun configured => ?_⟩
    · rw [exec_zoneRead_reports asks kind payload mode own, zoneReadItems, List.append_assoc]
      rfl
    · rw [zoneItems_of_unconfigured unconfigured] at mem
      exact List.eq_of_mem_replicate mem
    · rw [zoneItems_of_configured configured, zoneActive_eq]
      rfl

end Sys2Proof.Machine
end
